-- ==== Sys2Proof/Word.lean ====
section
/-! DEFINITION. The plainest types of the model: a character of a link, the condition stamp, and the two serial
links a character can arrive on. -/

namespace Sys2Proof

/-- A character of the console or shore link: 8 data bits (R184). -/
abbrev Byte := BitVec 8

/-- The condition stamp: a 16-bit count of mass changes that wraps from 65535 to 0 (R100). -/
abbrev Stamp := BitVec 16

/-- The two character links of the part (R184). The field loop carries frames and reports, not characters of a
sequence, and has commands of its own. -/
inductive Link
  | console
  | shore
  deriving DecidableEq, Repr

end Sys2Proof
end

