-- ==== Sys2Proof/Syntax.lean ====
section
/-! DEFINITION. The commands of the part: one constructor for each row of spec/opcode_table.json. A request row
carries the parameters of its sequence (section 10.3), in order; an event row carries what the event brings. -/

namespace Sys2Proof

/-- The commands. The first 36 are the console verbs, the next 5 the shore verbs; `ps` are the parameters of the
sequence. The last 25 are the part's events. -/
inductive Instr
  /-- ID (R195). -/
  | identify (ps : List Int)
  /-- MD (R198, R199). -/
  | mode (ps : List Int)
  /-- LC (R200). -/
  | location (ps : List Int)
  /-- BR (R98). -/
  | berthRecord (ps : List Int)
  /-- TD (R99). -/
  | tide (ps : List Int)
  /-- FW (R96). -/
  | fixedWeight (ps : List Int)
  /-- TQ (R20). -/
  | tankQuery (ps : List Int)
  /-- TO (R15). -/
  | tankOriginDeclare (ps : List Int)
  /-- TL (R8). -/
  | tankLock (ps : List Int)
  /-- TU (R9). -/
  | tankUnlock (ps : List Int)
  /-- XA (R45). -/
  | transferAdmit (ps : List Int)
  /-- XC (R58, R59, R60). -/
  | transferChange (ps : List Int)
  /-- XR (R61). -/
  | transferRetire (ps : List Int)
  /-- XQ (R66, R67). -/
  | transferQuery (ps : List Int)
  /-- MQ (R92). -/
  | moverQuery (ps : List Int)
  /-- MR (R91). -/
  | moverReset (ps : List Int)
  /-- PA (R138). -/
  | planAppend (ps : List Int)
  /-- PI (R139). -/
  | planInsert (ps : List Int)
  /-- PC (R144). -/
  | planChange (ps : List Int)
  /-- PR (R145). -/
  | planRetire (ps : List Int)
  /-- HC (R137). -/
  | holdCargo (ps : List Int)
  /-- KQ (R114, R115). -/
  | conditionQuery (ps : List Int)
  /-- WQ (R132, R133). -/
  | watchedQuantityQuery (ps : List Int)
  /-- RP (R172). -/
  | report (ps : List Int)
  /-- RA (R181). -/
  | reportAbort (ps : List Int)
  /-- AQ (R193). -/
  | attentionQuery (ps : List Int)
  /-- AK (R194). -/
  | attentionAcknowledge (ps : List Int)
  /-- FQ (R169). -/
  | faultQuery (ps : List Int)
  /-- FA (R164). -/
  | faultAcknowledge (ps : List Int)
  /-- SS (R203). -/
  | settingsSet (ps : List Int)
  /-- SV (R204). -/
  | settingsSave (ps : List Int)
  /-- PW (R201). -/
  | particularsWrite (ps : List Int)
  /-- PK (R202). -/
  | particularsCommit (ps : List Int)
  /-- RS (R206). -/
  | commandResetRequest (ps : List Int)
  /-- RQ (R207). -/
  | resetCauseQuery (ps : List Int)
  /-- RC (R207). -/
  | resetCauseClear (ps : List Int)
  /-- CQ, shore (R146). -/
  | clearanceQuery (ps : List Int)
  /-- CS, shore (R149). -/
  | chuteStart (ps : List Int)
  /-- CT, shore (R153). -/
  | chuteTally (ps : List Int)
  /-- CE, shore (R154). -/
  | chuteEnd (ps : List Int)
  /-- DQ, shore (R155). -/
  | draftQuery (ps : List Int)
  /-- A character arrives on a link; `stopValid` says whether its stop bit is valid (R184, R185). -/
  | characterReceived (l : Link) (c : Byte) (stopValid : Bool)
  /-- A PAUSE character arrives (R186). -/
  | pauseReceived (l : Link)
  /-- A RESUME character arrives (R186). -/
  | resumeReceived (l : Link)
  /-- The parser of a link takes the oldest queued character (R187, R188). -/
  | parserTakesCharacter (l : Link)
  /-- The LF of the console line in transmission is sent (R189, R173). -/
  | lineSent
  /-- The LF of the shore line in transmission is sent (R136). -/
  | shoreLineSent
  /-- The frame timer expires (R27). -/
  | frameTimerExpiry
  /-- The third byte of a point report arrives: its address byte and its 16-bit value (R29). -/
  | pointReport (addr : Byte) (value : BitVec 16)
  /-- The third byte of an end-of-scan report arrives (R30); its value is not examined. -/
  | endOfScanReport
  /-- The 250 ms limit ends (R28). -/
  | scanLimitExpiry
  /-- The evaluation run in progress completes (R104). -/
  | evaluationCompletes
  /-- The prediction run in progress completes (R112). -/
  | predictionCompletes
  /-- The tide age reaches 900 s (R99). -/
  | tideExpiry
  /-- The grant timer expires (R148). -/
  | grantTimerExpiry
  /-- The confirmation timer expires (R162, R165). -/
  | confirmationTimerExpiry
  /-- The attempt timer expires (R166). -/
  | attemptTimerExpiry
  /-- The origin store write in progress completes (R16). -/
  | originStoreWriteComplete
  /-- The particulars store write completes and the commit takes effect (R202). -/
  | particularsCommitTakesEffect
  /-- The settings store write completes (R204). -/
  | settingsSaveComplete
  /-- The supply rises through its start threshold (R206). -/
  | powerReset
  /-- The RESET input has been asserted for 1 ms (R206). -/
  | lineReset
  /-- The command reset called for by RS is made (R206). -/
  | commandReset
  /-- The start checks end (R205). -/
  | start
  /-- The supply falls below 16 V (section 11.7). -/
  | lossOfPower
  /-- The RESET input is released (R205). -/
  | resetRelease
  deriving DecidableEq, Repr

end Sys2Proof
end

