-- ==== Sys2Proof/Decode.lean ====
section
/-! DEFINITION. Reading a command from a word. The part is a block: no row of spec/opcode_table.json gives bits, so no
word spells a command. (A sequence is spelled in characters, and PARSER_TAKES_CHARACTER reads it: Machine/Parser.lean.) -/

namespace Sys2Proof

/-- The command that a word spells by the table's bits: none, since the table gives no row any bits. -/
def decodeTableWord (_nbits _w : Nat) : Option Instr := none

end Sys2Proof
end

