-- ==== Sys2Proof/Config.lean ====
section
/-! DEFINITION. What an implementation of the part fixes: the figures the manual gives once (00_scope, "Figures at a
glance"), and the FREE VALUES, constants with no body of which nothing can be proved. -/

namespace Sys2Proof.Config

/-- 24 tanks (R1). -/
def tankCount : Nat := 24
/-- 9 holds (R137). -/
def holdCount : Nat := 9
/-- 8 fixed items (R96). -/
def itemCount : Nat := 8
/-- 16 check stations (R109). -/
def stationCount : Nat := 16
/-- 36 watched quantities (R118). -/
def watchedCount : Nat := 36
/-- 64 field points (R23). -/
def pointCount : Nat := 64
/-- 16 transfer records (R41). -/
def transferCount : Nat := 16
/-- 48 pour steps (R138). -/
def stepCount : Nat := 48
/-- 64 pending attention items (R191). -/
def attentionCount : Nat := 64
/-- 8 reply lines (R188). -/
def replyCount : Nat := 8
/-- 2840 words of particulars (section 11.2). -/
def blockWords : Nat := 2840

/-- The receive queue's capacity (R185). -/
def receiveCapacity : Link → Nat
  | .console => 128
  | .shore => 64
/-- The count of queued characters at which PAUSE is sent (R186). -/
def pauseAt : Link → Nat
  | .console => 96
  | .shore => 48
/-- The count of queued characters at which RESUME is sent (R186). -/
def resumeAt : Link → Nat
  | .console => 32
  | .shore => 16

/-! Times, in milliseconds. -/

/-- The drive frame interval (R27). -/
def frameMs : Nat := 500
/-- The end-of-scan limit after a frame (R28). -/
def scanLimitMs : Nat := 250
/-- The allowance of a RUN point (section 2.6). -/
def runAllowanceMs : Nat := 20000
/-- The allowance of a VALVE point (section 2.6). -/
def valveAllowanceMs : Nat := 60000
/-- The no-flow window (R77). -/
def noFlowMs : Nat := 30000
/-- The tide age at which a tide goes STALE (R99). -/
def tideStaleMs : Nat := 900000
/-- The grant timer (R148). -/
def grantMs : Nat := 120000
/-- The confirmation timer (R161). -/
def confirmMs : Nat := 60000
/-- The attempt timer (R166). -/
def attemptMs : Nat := 500
/-- The time after RS at which the command reset is made whether or not its reply has been sent (R206). -/
def commandResetMs : Nat := 2000

/-- The rate of a link, in baud, by its rate code (R184). -/
def baud : Nat → Nat
  | 0 => 1200
  | 1 => 2400
  | 2 => 4800
  | 3 => 9600
  | 4 => 19200
  | 5 => 38400
  | 6 => 57600
  | _ => 115200

/-! FREE VALUES. Each is applied to the counter `freeCount` of State, which the step advances with each use. -/

/-- What a write to a non-volatile store is left as when power is lost in it (R17, R202, R204: "the old record, the
new one, or a checksum that does not match"): 0 the old record, 1 the new record, any other number a checksum that
does not match. FREE VALUE (log entry 7). -/
opaque cutWrite : Nat → Nat

/-- The word read at an address of a particulars block whose write was cut off and whose checksum does not match
(R205: "loaded from the words as read"). FREE VALUE (log entry 7). -/
opaque cutWord : Nat → Nat → Int

/-- Which of the entries still to be worked the active index names when an XC has removed the active entry of a transfer
that has been assigned and is PENDING or STACKED (R60 does not say), reduced to their number. FREE VALUE (log entry
35). -/
opaque freeActive : Nat → Nat

/-- By how much the checksum read with such a block differs from the block's own, less one (R202). FREE VALUE
(log entry 7). -/
opaque cutChecksum : Nat → Nat

end Sys2Proof.Config
end

