-- ==== Sys2Proof/Machine/State.lean ====
section
/-! DEFINITION. The state of the PD-2416: one record for each block of the part (00_scope, "Block overview"), as plain
data, and the machine right after a POWER reset. INVENTORY.md, "State", lists every piece with its rule. -/

namespace Sys2Proof.Machine

/-! ## Names shared by the blocks -/

/-- The modes (R197). -/
inductive Mode
  | standby | berth | passage | commission
  deriving DecidableEq, Repr

/-- The three movers: M1 and M2 are ballast pumps, M3 the stripping eductor. -/
inductive MoverId
  | m1 | m2 | m3
  deriving DecidableEq, Repr

/-- The kinds of mover and of transfer (section 3.1). -/
inductive MoverKind
  | pump | strip
  deriving DecidableEq, Repr

/-- The direction of a transfer (section 3.1). -/
inductive Direction
  | discharge | fill
  deriving DecidableEq, Repr

/-- The side of a value or of a recipe slot: + or − (R118, R128). -/
inductive Sign
  | plus | minus
  deriving DecidableEq, Repr

/-- An addressed store of words: (address, word) pairs. The particulars block, the edit copy and the store (section
11.2). An address that is not listed reads 0, as erased words do (R205). Its canonical form is `Memory.wf`. -/
abbrev Memory := List (Nat × Int)

/-- The class-2 fault causes (R86, R158). -/
inductive MoverCause
  | gaugeLost | pumpNoStart | pumpStopped | valveTimeout | valveAstray | noFlow
  deriving DecidableEq, Repr

/-- The causes of the cause set: class 1, and RESTARTED (R158, R167). -/
inductive Cause
  | breach (index : Nat)
  | loopLost
  | pumpAstray (address : Nat)
  | escalated (m : MoverId) (c : MoverCause)
  | restarted
  deriving DecidableEq, Repr

/-- The attention items: a kind and its object (R191). -/
inductive Item
  | gauge (tank : Nat)
  | indet (index : Nat)
  | caution (index : Nat)
  | corrRefused (index : Nat) (sign : Sign)
  | stripRefused (transfer : Nat)
  | point (address : Nat)
  | settingsDefaulted
  | originsCleared
  | tideStale
  | ended (m : MoverId)
  | moverFault (m : MoverId)
  | limit (index : Nat)
  | stepHeld (step : Nat)
  | halt
  | restarted
  deriving DecidableEq, Repr

/-! ## Sequences and lines -/

/-- The 36 console verbs and the 5 shore verbs (section 10.5). -/
inductive Verb
  | ID | MD | LC | BR | TD | FW | TQ | TO | TL | TU | XA | XC | XR | XQ | MQ | MR | PA | PI | PC | PR | HC | KQ | WQ
  | RP | RA | AQ | AK | FQ | FA | SS | SV | PW | PK | RS | RQ | RC
  | CQ | CS | CT | CE | DQ
  deriving DecidableEq, Repr

/-- A well-formed terminated sequence: its verb and its parameters (R188). -/
structure Sequence where
  verb : Verb
  params : List Int
  deriving DecidableEq, Repr

/-- The refusal codes (R189), with the shore's HEAD and LATE (R135). -/
inductive RefCode
  | form | lost | verb | args | range | mode | halt | none | state | head | late | claim | busy | full | lock
  deriving DecidableEq, Repr

/-- A field of a line: a decimal number, a capital word, a cause written as in R169, an item written as in section
10.7, or empty (R189). -/
inductive Field
  | empty
  | num (n : Int)
  | word (w : String)
  | cause (c : Cause)
  | item (i : Item)
  deriving DecidableEq, Repr

/-- The tags of report lines (R175). -/
inductive Tag
  | HDR | END | TNK | SUM | CND | STN | SHP | HLD | ITM | BRT | STP | PLN | DRF
  deriving DecidableEq, Repr

/-- The pour messages and the departure message (R136). -/
inductive PourMessage
  | GR | HO | GO | EX | DR
  deriving DecidableEq, Repr

/-- A line of the console or shore link (R136, R175, R189). A refusal carries the letters parsed; none stands for
"??" (R188). -/
inductive Line
  | reply (v : Verb) (fields : List Field)
  | refusal (letters : Option (Byte × Byte)) (code : RefCode)
  | report (tag : Tag) (fields : List Field)
  | pour (m : PourMessage) (fields : List Field)
  deriving DecidableEq, Repr

/-- The kind of a drive frame (section 2.3). -/
inductive FrameKind
  | routine | full
  deriving DecidableEq, Repr

/-- What the part sends (log 19): a drive frame with its 64 commands, a PAUSE (`true`) or RESUME (`false`) character, a
line whose LF has been sent. -/
inductive Output
  | frame (kind : FrameKind) (commands : List Bool)
  | flow (l : Link) (pause : Bool)
  | line (l : Link) (line : Line)
  deriving DecidableEq, Repr

/-! ## Links -/

/-- The parser's state (R187). In VERB it holds 0 to 2 letters; in PARAMETER the two letters, the complete
parameters, and the sign and digits of the one in progress; in DISCARD the two letters if they were parsed. -/
inductive Parser
  | ground
  | verb (letters : List Byte)
  | parameter (letters : Byte × Byte) (params : List Int) (negative : Bool) (digits : List Nat)
  | discard (letters : Option (Byte × Byte))
  deriving DecidableEq, Repr

/-- The receive side of a link (section 10, R135): receive queue, gap flag, receive flow state, parser, sequence in
hand. -/
structure ReceiveSide where
  queue : List Byte
  gap : Bool
  paused : Bool
  parser : Parser
  inHand : Option Sequence
  deriving DecidableEq, Repr

/-- A line in transmission; `progress` counts ten-thousandths of a character sent (log 18), so the count of
characters already sent is `progress / 10000`. -/
structure TxLine where
  line : Line
  progress : Nat
  deriving DecidableEq, Repr

/-- A queued console line; `isRp` marks the reply to the RP that made the present WAITING state (R173). -/
structure QueuedLine where
  line : Line
  isRp : Bool
  deriving DecidableEq, Repr

/-- The Console Port's link (section 10). -/
structure ConsolePort where
  rx : ReceiveSide
  hold : Bool
  replies : List QueuedLine
  buffer : Option QueuedLine
  tx : Option TxLine
  rate : Nat
  deriving DecidableEq, Repr

/-- The three output slots of the Shore Port (R136). -/
inductive ShoreSlot
  | reply | state | departure
  deriving DecidableEq, Repr

/-- The Shore Port (R135, R136): `slots` lists the occupied slots with their lines, in the order the lines arose. -/
structure ShorePort where
  rx : ReceiveSide
  hold : Bool
  slots : List (ShoreSlot × Line)
  buffer : Option (ShoreSlot × Line)
  tx : Option TxLine
  rate : Nat
  deriving DecidableEq, Repr

/-- The attention set (R191): pending items, oldest first, and the overflow count. -/
structure AttentionSet where
  items : List Item
  overflow : Nat
  deriving DecidableEq, Repr

/-! ## Field loop (chapter 2) -/

/-- The agreement state of a drive point (R33). -/
inductive Agreement
  | awaiting | settled | overdue | astray
  deriving DecidableEq, Repr

/-- A point of the drive image: the command (true is ON), the agreement state, the allowance start in ms (R24). -/
structure DrivePoint where
  on : Bool
  agreement : Agreement
  start : Option Nat
  deriving DecidableEq, Repr

/-- A point of the scan image: the last committed value, none for UNKNOWN, and the fresh flag (R30). -/
structure ScanPoint where
  value : Option Nat
  fresh : Bool
  deriving DecidableEq, Repr

/-- An open scan window (R27, R38): the kind of the frame that opened it, the highest address taken, the time the
frame was sent, and whether it is a restart frame's. -/
structure ScanWindow where
  kind : FrameKind
  highest : Option Nat
  sentAt : Nat
  restart : Bool
  deriving DecidableEq, Repr

/-- The loop state (R31). -/
inductive LoopState
  | good | lost
  deriving DecidableEq, Repr

/-- The Field Loop Controller (chapter 2). `window` is none while CLOSED; `frameTimer` is the time of the next expiry,
none while stopped. -/
structure FieldLoop where
  drive : Vector DrivePoint 64
  scan : Vector ScanPoint 64
  staging : List (Nat × Nat)
  window : Option ScanWindow
  fullScan : Bool
  frameTimer : Option Nat
  failures : Nat
  state : LoopState
  allOff : Option Bool
  deriving DecidableEq, Repr

/-! ## Tanks (chapter 1) -/

/-- The gauge state (R4); SUSPECT carries its count 1..4. -/
inductive GaugeState
  | unread | good | suspect (count : Nat) | lost
  deriving DecidableEq, Repr

/-- The lock of a tank (R8). -/
inductive Lock
  | free | locked
  deriving DecidableEq, Repr

/-- The exchange status (R13). -/
inductive Exchange
  | notExchanged | exchanged
  deriving DecidableEq, Repr

/-- The exchange window (R14); `closed` is the manual's NONE. -/
inductive TankWindow
  | closed | emptiedAtSea
  deriving DecidableEq, Repr

/-- The origin fields of a tank (section 1.4): codes oldest first, more flag, exchange status, window. -/
structure OriginEntry where
  codes : List Nat
  more : Bool
  exchange : Exchange
  window : TankWindow
  deriving DecidableEq, Repr

/-- The empty origin values (R17, R19). -/
def OriginEntry.blank : OriginEntry := ⟨[], false, .notExchanged, .closed⟩

/-- The live fields of a tank (section 1.1). The mass and the motion are computed (R3, R10). -/
structure TankLive where
  volume : Option Nat
  gauge : GaugeState
  claim : Option Nat
  lock : Lock
  origin : OriginEntry
  deriving DecidableEq, Repr

/-- A tank as after a reset, with no origin (R22). -/
def TankLive.blank : TankLive := ⟨none, .unread, none, .free, OriginEntry.blank⟩

/-- The Tank Table and its origin store (R16). `tanks` has a place for each number 1..24; the origin of a number the
particulars do not define is its entry in the store (R18). `storeGood` says that the store's checksum matches.
`writing` is the copy being written, none while the store is IDLE. -/
structure TankTable where
  tanks : Vector TankLive 24
  store : Vector OriginEntry 24
  storeGood : Bool
  writing : Option (Vector OriginEntry 24)
  rewrite : Bool
  deriving DecidableEq, Repr

/-! ## Transfers (chapter 3) -/

/-- The class of a transfer; CORRECTION ranks highest (section 3.1). -/
inductive TransferClass
  | correction | paired | planned
  deriving DecidableEq, Repr

/-- The source of a transfer (section 3.1). -/
inductive Source
  | console
  | step (step : Nat)
  | recipe (index : Nat) (sign : Sign)
  | stripOf (transfer : Nat)
  deriving DecidableEq, Repr

/-- An entry of a transfer's tank list. -/
structure Entry where
  tank : Nat
  target : Nat
  done : Bool
  deriving DecidableEq, Repr

/-- A transfer record (section 3.1). `active` counts from 1; `assigned` is whether the transfer has ever been assigned to
a mover (section 3.1, R53). The state and the mover are computed from the place of
the record (R41), the line-up list from kind and direction (R43). -/
structure Transfer where
  id : Nat
  cls : TransferClass
  kind : MoverKind
  direction : Direction
  entries : List Entry
  active : Nat
  source : Source
  stopIndex : Option Nat
  reverify : Bool
  reservation : Option MoverId
  assigned : Bool
  deriving DecidableEq, Repr

/-- The Transfer Table: the records in use, the pending queue, the id counter (R41, R42, R50). -/
structure TransferTable where
  records : List Transfer
  queue : List Nat
  counter : Nat
  deriving DecidableEq, Repr

/-- Outcomes of a transfer (R41, R79). -/
inductive TransferOutcome
  | complete | relieved | retired | faulted | halted
  deriving DecidableEq, Repr

/-! ## Movers (chapter 4) -/

/-- Stop reasons (R79). -/
inductive StopReason
  | ended | preempt | fault | halt
  deriving DecidableEq, Repr

/-- Stop stages (R80). -/
inductive StopStage
  | pump | valves
  deriving DecidableEq, Repr

/-- The phases (section 4.2). SWITCHING holds the tank switched from (R76); STOPPING its reason, outcome and stage. -/
inductive Phase
  | idle | lining | starting | running
  | switching (previous : Nat)
  | stopping (reason : StopReason) (outcome : Option TransferOutcome) (stage : StopStage)
  | faulted
  deriving DecidableEq, Repr

/-- The flow reference (R77). -/
structure FlowReference where
  volume : Option Nat
  time : Nat
  deriving DecidableEq, Repr

/-- A mover record (section 4.1). `timer` is the time the phase was entered; `gaugeDue` that GAUGE-LOST is handed with
the next commit (R71, R76); `quiet` the quiet reading of the last commit (R37). -/
structure Mover where
  phase : Phase
  run : Option Nat
  stack : List Nat
  popping : Bool
  timer : Nat
  flow : Option FlowReference
  last : Option (Nat × TransferOutcome)
  gaugeDue : Bool
  quiet : Option Bool
  deriving DecidableEq, Repr

/-- A mover after a reset (R95), its phase timer started at `now`. -/
def Mover.blank (now : Nat) : Mover := ⟨.idle, none, [], false, now, none, none, false, none⟩

/-- The three movers. -/
structure Movers where
  m1 : Mover
  m2 : Mover
  m3 : Mover
  deriving DecidableEq, Repr

/-! ## Condition (chapter 5) -/

/-- A fixed item: mass and set flag (R96); a hold record likewise (R137). -/
structure MassRecord where
  mass : Nat
  set : Bool
  deriving DecidableEq, Repr

/-- The berth record (R98). -/
structure BerthRecord where
  port : Nat
  depth : Nat
  boom : Nat
  minUkc : Nat
  minAir : Nat
  deriving DecidableEq, Repr

/-- The tide state (R99). -/
inductive TideState
  | unset | fresh | stale
  deriving DecidableEq, Repr

/-- The tide: state, height, and the time of the last TD, from which its age counts (R99). -/
structure Tide where
  state : TideState
  height : Int
  since : Nat
  deriving DecidableEq, Repr

/-- A mass as a run takes it: record number, whether it has a value (gauge read, flag set), tonnes (R103). -/
structure MassInput where
  number : Nat
  known : Bool
  mass : Int
  deriving DecidableEq, Repr

/-- The inputs a run takes at its beginning (R103). `extra` is the hold and the tonnes a prediction adds (R111). -/
structure RunInputs where
  stamp : Stamp
  particulars : Option Memory
  tanks : List MassInput
  holds : List MassInput
  items : List MassInput
  berth : Option BerthRecord
  tideState : TideState
  tideHeight : Int
  extra : Option (Nat × Int)
  deriving DecidableEq, Repr

/-- The input state of a result (R106). -/
inductive InputState
  | complete | particulars
  | tank (number : Nat)
  | hold (number : Nat)
  | item (number : Nat)
  deriving DecidableEq, Repr

/-- A computed condition (R104); none is INDEFINITE or undefined. `least` is the least air clearance with its hold. -/
structure Condition where
  stamp : Stamp
  inputState : InputState
  displacement : Option Int
  mean : Option Int
  forward : Option Int
  aft : Option Int
  trim : Option Int
  list : Option Int
  shear : Vector (Option Int) 16
  bending : Vector (Option Int) 16
  ukc : Option Int
  holdDraft : Vector (Option Int) 9
  holdAir : Vector (Option Int) 9
  least : Option (Int × Nat)
  tideState : TideState
  tideHeight : Int
  deriving DecidableEq, Repr

/-- A prediction request that is HELD or RUNNING (R111). -/
structure PredictionRequest where
  step : Nat
  hold : Nat
  tonnes : Nat
  runs : Nat
  running : Bool
  deriving DecidableEq, Repr

/-- A prediction run in progress (R111); `withdrawn` when its request was withdrawn (R113). -/
structure PredictionRun where
  inputs : RunInputs
  withdrawn : Bool
  deriving DecidableEq, Repr

/-- The Condition Unit (chapter 5). `evaluation` is none while IDLE; `request` none while NONE. -/
structure ConditionUnit where
  items : Vector MassRecord 8
  berth : Option BerthRecord
  tide : Tide
  stamp : Stamp
  evaluation : Option RunInputs
  again : Bool
  request : Option PredictionRequest
  prediction : Option PredictionRun
  published : Option Condition
  deriving DecidableEq, Repr

/-! ## Margins (chapter 6) -/

/-- The states of a watched entry (R118). -/
inductive MarginState
  | off | clear | caution | limit | breach | indeterminate
  deriving DecidableEq, Repr

/-- A watched entry (R118). -/
structure WatchedEntry where
  value : Option Int
  percent : Option Nat
  state : MarginState
  sign : Sign
  stamp : Option Stamp
  deriving DecidableEq, Repr

/-- The Margin Monitor (R118). -/
structure MarginMonitor where
  entries : Vector WatchedEntry 36
  graded : Option Stamp
  deriving DecidableEq, Repr

/-! ## Pour plan (chapter 7) -/

/-- An entry of a step's linked list (section 7.3). `due`: its volume at pairing was absent when the step was ADMITTED, and
is taken at the first commit that gives the tank a volume (R141). -/
structure LinkedEntry where
  tank : Nat
  target : Nat
  volumeAt : Option Nat
  due : Bool
  deriving DecidableEq, Repr

/-- The pairing of a step (section 7.3). -/
inductive Pairing
  | unpaired
  | running (transfer : Nat)
  | done (transfer : Nat)
  deriving DecidableEq, Repr

/-- The states of a step (section 7.3). -/
inductive StepState
  | planned | ready | granted | pouring | held
  deriving DecidableEq, Repr

/-- The hold causes (section 7.3). -/
inductive HoldCause
  | limit | indet | halt | overrun
  deriving DecidableEq, Repr

/-- A pour step (section 7.3). -/
structure PourStep where
  id : Nat
  hold : Nat
  planned : Nat
  tally : Nat
  lead : Nat
  links : List LinkedEntry
  pairing : Pairing
  state : StepState
  granted : Option Nat
  ceiling : Option Nat
  cause : Option HoldCause
  deriving DecidableEq, Repr

/-- The Pour Plan unit (chapter 7). `grantTimer` is the time of the grant, none while stopped. -/
structure PourPlan where
  steps : List PourStep
  holds : Vector MassRecord 9
  clearance : Option Nat
  grantTimer : Option Nat
  deriving DecidableEq, Repr

/-! ## Faults (chapter 8) -/

/-- The fault state (R160). -/
inductive FaultState
  | normal | haltStopping | halt | restart
  deriving DecidableEq, Repr

/-- The outcome of a restart attempt that did not end the sequence (R166). -/
inductive AttemptOutcome
  | failed | notQuiet
  deriving DecidableEq, Repr

/-- The Fault Supervisor (chapter 8). The timers hold the time they were started, none while stopped. -/
structure FaultSupervisor where
  state : FaultState
  causes : List Cause
  first : Option Cause
  cause1 : Option MoverCause
  cause2 : Option MoverCause
  cause3 : Option MoverCause
  confirmation : Option Nat
  attempts : Nat
  lastAttempt : Option AttemptOutcome
  attempt : Option Nat
  deriving DecidableEq, Repr

/-! ## Reports (chapter 9) -/

/-- The kinds of report (R172). -/
inductive ReportKind
  | declaration | condition | plan | departure
  deriving DecidableEq, Repr

/-- The sections of the reports (R176 to R179). -/
inductive Section
  | tanks | total | condition | stations | ship | holds | items | berth | steps | drafts
  deriving DecidableEq, Repr

/-- The abort causes (R175). -/
inductive AbortCause
  | ra | depart
  deriving DecidableEq, Repr

/-- The composer state (chapter 9). -/
inductive ComposerState
  | idle
  | waiting (kind : ReportKind)
  | composing (kind : ReportKind) (sect : Section) (cursor : Nat) (startStamp : Stamp) (abort : Option AbortCause)
  deriving DecidableEq, Repr

/-- The Report Composer: its state and the body line count. -/
structure Composer where
  state : ComposerState
  body : Nat
  deriving DecidableEq, Repr

/-! ## Modes and stores (chapter 11) -/

/-- The reset cause record (R207). -/
structure ResetCause where
  power : Bool
  line : Bool
  command : Bool
  restart : Bool
  deriving DecidableEq, Repr

/-- Whether the part runs (R205, R206, section 11.7): without supply, held in reset by the RESET line, in the start
checks, or running. -/
inductive RunCondition
  | unpowered | inReset | startChecks | running
  deriving DecidableEq, Repr

/-- A command reset asked by RS: when, and whether the LF of its reply has been sent (R206). -/
structure ResetAsked where
  since : Nat
  replySent : Bool
  deriving DecidableEq, Repr

/-- Mode Control (chapter 11). -/
structure ModeControl where
  mode : Mode
  location : Option Nat
  exchangeArea : Bool
  resetCause : ResetCause
  condition : RunCondition
  resetAsked : Option ResetAsked
  deriving DecidableEq, Repr

/-- The Particulars Store (section 11.2). `inUse` is none while the particulars are marked invalid. `storeBlank` is the
store that has never been written (R205). `writing` is the block of a commit being written. -/
structure ParticularsStore where
  inUse : Option Memory
  store : Memory
  storeChecksum : Nat
  storeBlank : Bool
  writing : Option Memory
  edit : Option Memory
  deriving DecidableEq, Repr

/-- The seven settings (section 11.3): rate codes, caution codes, and the line of each class (true is ATTN-U). -/
structure Settings where
  consoleRate : Nat
  shoreRate : Nat
  stationCaution : Nat
  shipCaution : Nat
  noticeLine : Bool
  moverLine : Bool
  shipLine : Bool
  deriving DecidableEq, Repr

/-- The defaults of the settings (section 11.3). -/
def Settings.defaults : Settings := ⟨3, 3, 3, 3, false, false, true⟩

/-- The Settings Store (section 11.3): working copy, stored record and whether its checksum matches, and the record
being written, none while the store is IDLE. -/
structure SettingsStore where
  working : Settings
  store : Settings
  storeGood : Bool
  saving : Option Settings
  deriving DecidableEq, Repr

/-! ## The whole part -/

/-- The state of the part. `now` (ms), `freeCount` and `sent` are the model's own (log 1, log 7, log 19); `pending` is
the queue of waiting commands. -/
structure State where
  now : Nat
  freeCount : Nat
  sent : List Output
  modes : ModeControl
  particulars : ParticularsStore
  settings : SettingsStore
  attention : AttentionSet
  loop : FieldLoop
  tankTable : TankTable
  transfers : TransferTable
  movers : Movers
  cond : ConditionUnit
  margins : MarginMonitor
  pour : PourPlan
  faults : FaultSupervisor
  composer : Composer
  console : ConsolePort
  shore : ShorePort
  pending : List Instr
  deriving DecidableEq, Repr

/-- The faults of the model: none. The manual gives the part no state in which it stops taking events (INVENTORY.md,
"Faults"); its own fault classes are state. Nobody raises one, which is safe. -/
inductive Fault
  deriving DecidableEq, Repr

/-- The refusals of the model. -/
inductive Refusal
  /-- A command whose arm has no meaning yet; raised by `exec` alone, and by no arm of it now. Safe. -/
  | notModelled (mnemonic : String)
  deriving DecidableEq, Repr

/-! ## Setters, one for each block -/

/-- The clock takes a value. -/
def State.setNow (s : State) (x : Nat) : State := { s with now := x }
/-- The count of free values used takes a value. -/
def State.setFreeCount (s : State) (x : Nat) : State := { s with freeCount := x }
/-- The record of what was sent takes a value. -/
def State.setSent (s : State) (x : List Output) : State := { s with sent := x }
/-- Mode Control takes a value. -/
def State.setModes (s : State) (x : ModeControl) : State := { s with modes := x }
/-- The Particulars Store takes a value. -/
def State.setParticulars (s : State) (x : ParticularsStore) : State := { s with particulars := x }
/-- The Settings Store takes a value. -/
def State.setSettings (s : State) (x : SettingsStore) : State := { s with settings := x }
/-- The attention set takes a value. -/
def State.setAttention (s : State) (x : AttentionSet) : State := { s with attention := x }
/-- The Field Loop Controller takes a value. -/
def State.setLoop (s : State) (x : FieldLoop) : State := { s with loop := x }
/-- The Tank Table takes a value. -/
def State.setTankTable (s : State) (x : TankTable) : State := { s with tankTable := x }
/-- The Transfer Table takes a value. -/
def State.setTransfers (s : State) (x : TransferTable) : State := { s with transfers := x }
/-- The movers take a value. -/
def State.setMovers (s : State) (x : Movers) : State := { s with movers := x }
/-- The Condition Unit takes a value. -/
def State.setCond (s : State) (x : ConditionUnit) : State := { s with cond := x }
/-- The Margin Monitor takes a value. -/
def State.setMargins (s : State) (x : MarginMonitor) : State := { s with margins := x }
/-- The Pour Plan unit takes a value. -/
def State.setPour (s : State) (x : PourPlan) : State := { s with pour := x }
/-- The Fault Supervisor takes a value. -/
def State.setFaults (s : State) (x : FaultSupervisor) : State := { s with faults := x }
/-- The Report Composer takes a value. -/
def State.setComposer (s : State) (x : Composer) : State := { s with composer := x }
/-- The Console Port takes a value. -/
def State.setConsole (s : State) (x : ConsolePort) : State := { s with console := x }
/-- The Shore Port takes a value. -/
def State.setShore (s : State) (x : ShorePort) : State := { s with shore := x }
/-- The queue of waiting commands takes a value. -/
def State.setPending (s : State) (x : List Instr) : State := { s with pending := x }

/-! ## Reset -/

/-- The receive side of a link after a reset (R157, R196). -/
def ReceiveSide.blank : ReceiveSide := ⟨[], false, false, .ground, none⟩

/-- The Console Port after a reset, its link keeping the rate given (R184, R196). -/
def ConsolePort.blank (rate : Nat) : ConsolePort := ⟨ReceiveSide.blank, false, [], none, none, rate⟩

/-- The Shore Port after a reset (R157). -/
def ShorePort.blank (rate : Nat) : ShorePort := ⟨ReceiveSide.blank, false, [], none, none, rate⟩

/-- The Field Loop Controller after a reset, before its frame timer starts (R39). -/
def FieldLoop.blank : FieldLoop :=
  ⟨Vector.replicate 64 ⟨false, .awaiting, none⟩, Vector.replicate 64 ⟨none, false⟩, [], none, true, none, 0, .good,
    none⟩

/-- The movers after a reset (R95). -/
def Movers.blank (now : Nat) : Movers := ⟨Mover.blank now, Mover.blank now, Mover.blank now⟩

/-- The Margin Monitor before the end of a start: every entry OFF (log 25), its sign as R134 gives it. -/
def MarginMonitor.blank : MarginMonitor :=
  ⟨Vector.ofFn fun i : Fin 36 => ⟨none, none, .off, if i.val < 34 then .plus else .minus, none⟩, none⟩

/-- The Fault Supervisor after a POWER, LINE or COMMAND reset (R170). -/
def FaultSupervisor.blank : FaultSupervisor :=
  ⟨.normal, [], none, none, none, none, none, 0, none, none⟩

/-- The machine right after a POWER reset, with the stores as delivered and the start checks still to end (log 5). -/
def State.reset : State where
  now := 0
  freeCount := 0
  sent := []
  modes := ⟨.standby, none, false, ⟨true, false, false, false⟩, .startChecks, none⟩
  particulars := ⟨none, [], 0, true, none, none⟩
  settings := ⟨Settings.defaults, Settings.defaults, false, none⟩
  attention := ⟨[], 0⟩
  loop := FieldLoop.blank
  tankTable := ⟨Vector.replicate 24 TankLive.blank, Vector.replicate 24 OriginEntry.blank, false, none, false⟩
  transfers := ⟨[], [], 0⟩
  movers := Movers.blank 0
  cond := ⟨Vector.replicate 8 ⟨0, false⟩, none, ⟨.unset, 0, 0⟩, 0, none, false, none, none, none⟩
  margins := MarginMonitor.blank
  pour := ⟨[], Vector.replicate 9 ⟨0, false⟩, none, none⟩
  faults := FaultSupervisor.blank
  composer := ⟨.idle, 0⟩
  console := ConsolePort.blank 3
  shore := ShorePort.blank 3
  pending := []

end Sys2Proof.Machine
end

