-- ==== Sys2Proof/Machine/Operands.lean ====
section
/-! DEFINITION. The operands of a request: its parameters, the ranges they are checked against, and the order in which
checks are made (R190). -/

namespace Sys2Proof.Machine

/-- A value lies in a range, both ends included. -/
def inRange (lo hi x : Int) : Bool := decide (lo ≤ x) && decide (x ≤ hi)

/-- Parameter `k` of a sequence, counted from 1 as the manual's tables count. -/
def par (ps : List Int) (k : Nat) : Int := ps.getD (k - 1) 0

/-- Parameter `k` as a number, once it is known not to be negative. -/
def parN (ps : List Int) (k : Nat) : Nat := (par ps k).toNat

/-- The pairs (tank, target) of a sequence from parameter `k` on (R45, R138). -/
def pairsFrom : List Int → List (Int × Int)
  | a :: b :: rest => (a, b) :: pairsFrom rest
  | _ => []

/-- No value stands twice in a list. -/
def noRepeat : List Int → Bool
  | [] => true
  | x :: xs => !(xs.any fun y => decide (y = x)) && noRepeat xs

/-- The refusal of the first check that fails (R190): each check with its code, in order. -/
def firstRefusal : List (Bool × RefCode) → Option RefCode
  | [] => none
  | (failed, code) :: rest => if failed then some code else firstRefusal rest

end Sys2Proof.Machine
end

