-- ==== Sys2Proof/Machine/Particulars.lean ====
section
/-! DEFINITION. The particulars block (section 11.2): reading and writing words in canonical form, the records within
the block, the roles of the field points, the checksum, and the judgement of PK (R202). -/

namespace Sys2Proof.Machine

/-! ## The addressed store -/

/-- The word at an address; an address not listed reads 0 (R205). -/
def Memory.read : Memory → Nat → Int
  | [], _ => 0
  | (k, v) :: rest, a => if k = a then v else Memory.read rest a

/-- The store with one word written, kept in canonical form. -/
def Memory.write : Memory → Nat → Int → Memory
  | [], a, v => if v = 0 then [] else [(a, v)]
  | (k, w) :: rest, a, v =>
    if a < k then (if v = 0 then (k, w) :: rest else (a, v) :: (k, w) :: rest)
    else if a = k then (if v = 0 then rest else (a, v) :: rest)
    else (k, w) :: Memory.write rest a v

/-- The store with values written at consecutive addresses (R201). -/
def Memory.writeAll : Memory → Nat → List Int → Memory
  | m, _, [] => m
  | m, a, v :: vs => Memory.writeAll (Memory.write m a v) (a + 1) vs

/-- Every listed address lies at or above a bound, addresses strictly rise, and no listed word is 0. -/
def Memory.wfFrom : Nat → Memory → Bool
  | _, [] => true
  | lo, (k, v) :: rest => decide (lo ≤ k) && decide (v ≠ 0) && Memory.wfFrom (k + 1) rest

/-- The canonical form: addresses strictly rising, no entry equal to what an unlisted address reads as. -/
def Memory.wf (m : Memory) : Bool := Memory.wfFrom 0 m

/-- The checksum of a block: the sum of its words taken modulo 65536, modulo 65536 (section 11.2). A word 0 adds
nothing. -/
def Memory.checksum (m : Memory) : Nat :=
  (m.foldl (fun acc kv => acc + (kv.2 % 65536).toNat) 0) % 65536

/-! ## Words of the particulars in use -/

/-- A word of the particulars in use; 0 while they are marked invalid, so that no record is defined (R1, R205). -/
def pword (p : Option Memory) (a : Nat) : Int :=
  match p with
  | some m => Memory.read m a
  | none => 0

/-- A word that PK has judged not negative, as a number. -/
def pnat (p : Option Memory) (a : Nat) : Nat := (pword p a).toNat

/-- The address of the record of tank `t` (section 11.2, Notes). -/
def tankBase (t : Nat) : Nat := 64 + 64 * (t - 1)
/-- The address of the record of hold `h`. -/
def holdBase (h : Nat) : Nat := 1600 + 40 * (h - 1)
/-- The address of the record of fixed item `i`. -/
def itemBase (i : Nat) : Nat := 1960 + 40 * (i - 1)
/-- The address of the record of check station `n`. -/
def stationBase (n : Nat) : Nat := 2280 + 16 * (n - 1)
/-- The number of a mover, 1 to 3. -/
def MoverId.number : MoverId → Nat
  | .m1 => 1
  | .m2 => 2
  | .m3 => 3
/-- The address of the record of mover `m`. -/
def moverBase (m : MoverId) : Nat := 2536 + 4 * (m.number - 1)
/-- The address of a recipe slot (section 11.2). -/
def recipeBase (index : Nat) (sign : Sign) : Nat :=
  2552 + 4 * (2 * index + (if sign = .plus then 0 else 1))

/-- The particulars define tank `t` (R1). -/
def tankDefined (p : Option Memory) (t : Nat) : Bool :=
  decide (1 ≤ t) && decide (t ≤ 24) && decide (pword p (tankBase t) = 1)
/-- The particulars define hold `h` (R137). -/
def holdDefined (p : Option Memory) (h : Nat) : Bool :=
  decide (1 ≤ h) && decide (h ≤ 9) && decide (pword p (holdBase h) = 1)
/-- The particulars define fixed item `i` (R96). -/
def itemDefined (p : Option Memory) (i : Nat) : Bool :=
  decide (1 ≤ i) && decide (i ≤ 8) && decide (pword p (itemBase i) = 1)
/-- The particulars define check station `n` (R109). -/
def stationDefined (p : Option Memory) (n : Nat) : Bool :=
  decide (1 ≤ n) && decide (n ≤ 16) && decide (pword p (stationBase n) = 1)

/-- The numbers 1 to `n`, ascending. -/
def numbers (n : Nat) : List Nat := (List.range n).map (· + 1)

/-- The defined tanks, ascending. -/
def definedTanks (p : Option Memory) : List Nat := (numbers 24).filter (tankDefined p)
/-- The defined holds, ascending. -/
def definedHolds (p : Option Memory) : List Nat := (numbers 9).filter (holdDefined p)
/-- The defined fixed items, ascending. -/
def definedItems (p : Option Memory) : List Nat := (numbers 8).filter (itemDefined p)
/-- The defined check stations, ascending. -/
def definedStations (p : Option Memory) : List Nat := (numbers 16).filter (stationDefined p)

/-- The capacity of tank `t`, m³. -/
def tankCapacity (p : Option Memory) (t : Nat) : Nat := pnat p (tankBase t + 2)
/-- The residue volume of tank `t`, m³. -/
def tankResidue (p : Option Memory) (t : Nat) : Nat := pnat p (tankBase t + 3)
/-- The pump floor of tank `t`, m³. -/
def tankFloor (p : Option Memory) (t : Nat) : Nat := pnat p (tankBase t + 4)
/-- The valve point of tank `t`. -/
def tankValve (p : Option Memory) (t : Nat) : Nat := pnat p (tankBase t + 22)
/-- The gauge point of tank `t`. -/
def tankGauge (p : Option Memory) (t : Nat) : Nat := pnat p (tankBase t + 23)

/-- The sounding table of tank `t`: its breakpoints (raw, volume) in order (section 1.1). -/
def soundingTable (p : Option Memory) (t : Nat) : List (Int × Int) :=
  (List.range (min 8 (pnat p (tankBase t + 5)))).map fun i =>
    (pword p (tankBase t + 6 + 2 * i), pword p (tankBase t + 7 + 2 * i))

/-- The kind of a mover (section 4.1). -/
def MoverId.kind : MoverId → MoverKind
  | .m1 => .pump
  | .m2 => .pump
  | .m3 => .strip

/-- The RUN point of a mover (R70). -/
def runPoint (p : Option Memory) (m : MoverId) : Nat := pnat p (moverBase m)
/-- The overboard valve of a mover. -/
def overboardPoint (p : Option Memory) (m : MoverId) : Nat := pnat p (moverBase m + 1)
/-- The sea-chest valve of M1 or M2. -/
def seaChestPoint (p : Option Memory) (m : MoverId) : Nat := pnat p (moverBase m + 2)

/-- The recipe of a slot (R128): direction, tanks in order, step volume; none when the slot is empty. -/
structure Recipe where
  direction : Direction
  tanks : List Nat
  volume : Nat
  deriving DecidableEq, Repr

/-- The recipe slot of a watched index and a sign (R128, section 11.2). -/
def recipeSlot (p : Option Memory) (index : Nat) (sign : Sign) : Option Recipe :=
  let b := recipeBase index sign
  let tanks := if pnat p (b + 2) = 0 then [pnat p (b + 1)] else [pnat p (b + 1), pnat p (b + 2)]
  if pword p b = 1 then some ⟨.discharge, tanks, pnat p (b + 3)⟩
  else if pword p b = 2 then some ⟨.fill, tanks, pnat p (b + 3)⟩
  else none

/-! ## Roles of the field points (section 2.1) -/

/-- The role of a field address. -/
inductive Role
  | run (m : MoverId)
  | tankValve (t : Nat)
  | overboard (m : MoverId)
  | seaChest (m : MoverId)
  | gauge (t : Nat)
  | unused
  deriving DecidableEq, Repr

/-- The three movers, in order. -/
def allMovers : List MoverId := [.m1, .m2, .m3]

/-- The points of a mover with their roles; none while the particulars are marked invalid (R23). -/
def moverPoints (p : Option Memory) (m : MoverId) : List (Nat × Role) :=
  match p with
  | none => []
  | some _ =>
    if m.kind = .pump then
      [(runPoint p m, .run m), (overboardPoint p m, .overboard m), (seaChestPoint p m, .seaChest m)]
    else [(runPoint p m, .run m), (overboardPoint p m, .overboard m)]

/-- Every named point with its role (section 11.2, Notes): the tanks' points, then the movers'. -/
def namedPoints (p : Option Memory) : List (Nat × Role) :=
  (definedTanks p).flatMap (fun t => [(tankValve p t, .tankValve t), (tankGauge p t, .gauge t)]) ++
    allMovers.flatMap (moverPoints p)

/-- The role of an address among named points; UNUSED when none names it. -/
def roleIn (pts : List (Nat × Role)) (a : Nat) : Role :=
  match pts.find? fun q => decide (q.1 = a) with
  | some q => q.2
  | none => .unused

/-- The role of an address (R23). -/
def roleOf (p : Option Memory) (a : Nat) : Role := roleIn (namedPoints p) a

/-- Points of role RUN and VALVE are drive points (section 2.1). -/
def Role.isDrive : Role → Bool
  | .run _ => true
  | .tankValve _ => true
  | .overboard _ => true
  | .seaChest _ => true
  | .gauge _ => false
  | .unused => false

/-- Points of role RUN. -/
def Role.isRun : Role → Bool
  | .run _ => true
  | .tankValve _ => false
  | .overboard _ => false
  | .seaChest _ => false
  | .gauge _ => false
  | .unused => false

/-- The drive points, ascending by address, with their roles. -/
def drivePoints (p : Option Memory) : List (Nat × Role) :=
  let pts := namedPoints p
  ((List.range 64).map fun a => (a, roleIn pts a)).filter fun q => q.2.isDrive

/-- A value that the role may report (R29, section 2.4). -/
def Role.mayReport (r : Role) (v : Nat) : Bool :=
  match r with
  | .run _ => decide (v ≤ 1)
  | .tankValve _ => decide (v ≤ 2)
  | .overboard _ => decide (v ≤ 2)
  | .seaChest _ => decide (v ≤ 2)
  | .gauge _ => decide (v ≤ 4095)
  | .unused => true

/-! ## Judging an edit copy (R202) -/

/-- The addresses of the words that name points, ascending: the defined tanks', then the movers' (R202). -/
def pointWords (m : Memory) : List Nat :=
  (definedTanks (some m)).flatMap (fun t => [tankBase t + 22, tankBase t + 23]) ++
    [2536, 2537, 2538, 2540, 2541, 2542, 2544, 2545]

/-- A word names a point 0..63 that no word at a lower address names. -/
def pointWordGood (m : Memory) (a : Nat) : Bool :=
  inRange 0 63 (Memory.read m a) &&
    !((pointWords m).any fun b => decide (b < a) && decide (Memory.read m b = Memory.read m a))

/-- A defined flag is 0 or 1. -/
def flagGood (m : Memory) (a : Nat) : Bool := inRange 0 1 (Memory.read m a)

/-- The checks of a tank's record, in address order. -/
def tankChecks (m : Memory) (t : Nat) : List (Nat × Bool) :=
  let b := tankBase t
  let w := Memory.read m
  (b, flagGood m b) ::
    (if w b = 1 then
      [(b + 1, inRange 0 2 (w (b + 1))), (b + 2, inRange 1 65535 (w (b + 2))),
        (b + 3, inRange 0 (w (b + 2)) (w (b + 3))), (b + 4, inRange 0 (w (b + 2)) (w (b + 4))),
        (b + 5, inRange 2 8 (w (b + 5)))] ++
      (List.range (min 8 (w (b + 5)).toNat)).flatMap (fun i =>
        [(b + 6 + 2 * i, inRange 0 4000 (w (b + 6 + 2 * i)) &&
            (decide (i = 0) || decide (w (b + 4 + 2 * i) < w (b + 6 + 2 * i)))),
          (b + 7 + 2 * i, inRange 0 65535 (w (b + 7 + 2 * i)))]) ++
      [(b + 22, pointWordGood m (b + 22)), (b + 23, pointWordGood m (b + 23))]
    else [])

/-- The checks of a hold's record. -/
def holdChecks (m : Memory) (h : Nat) : List (Nat × Bool) :=
  let b := holdBase h
  (b, flagGood m b) ::
    (if Memory.read m b = 1 then [(b + 2, inRange 0 9999 (Memory.read m (b + 2)))] else [])

/-- The checks of a check station's record. -/
def stationChecks (m : Memory) (n : Nat) : List (Nat × Bool) :=
  let b := stationBase n
  (b, flagGood m b) ::
    (if Memory.read m b = 1 then
      [2, 3, 4, 5].map (fun k => (b + k, inRange 0 9999999 (Memory.read m (b + k)))) ++
        [6, 7, 8, 9].map (fun k => (b + k, inRange 0 99999999 (Memory.read m (b + k))))
    else [])

/-- The checks of recipe slot number `k` (0..71). -/
def recipeChecks (m : Memory) (k : Nat) : List (Nat × Bool) :=
  let b := 2552 + 4 * k
  let w := Memory.read m
  (b, inRange 0 2 (w b)) ::
    (if w b = 0 then []
    else
      [(b + 1, inRange 1 24 (w (b + 1))),
        (b + 2, inRange 0 24 (w (b + 2)) && decide (w (b + 2) ≠ w (b + 1))),
        (b + 3, inRange 1 65535 (w (b + 3)))])

/-- Every check of R202, in ascending address. -/
def blockChecks (m : Memory) : List (Nat × Bool) :=
  [(2, inRange 1 9999 (Memory.read m 2)), (8, inRange 0 9999 (Memory.read m 8)),
    (9, inRange 0 9999 (Memory.read m 9)), (10, inRange 0 900 (Memory.read m 10)),
    (11, inRange 0 900 (Memory.read m 11))] ++
  (numbers 24).flatMap (tankChecks m) ++
  (numbers 9).flatMap (holdChecks m) ++
  (numbers 8).map (fun i => (itemBase i, flagGood m (itemBase i))) ++
  (numbers 16).flatMap (stationChecks m) ++
  [2536, 2537, 2538, 2540, 2541, 2542, 2544, 2545].map (fun a => (a, pointWordGood m a)) ++
  (List.range 72).flatMap (recipeChecks m)

/-- The address of the first word that fails the judgement of R202, none when every word passes. -/
def firstBadWord (m : Memory) : Option Nat :=
  ((blockChecks m).find? fun c => !c.2).map (·.1)

end Sys2Proof.Machine
end

