-- ==== Sys2Proof/Machine/Wire.lean ====
section
/-! DEFINITION. How values are written on the links: the words of section 10, the verbs' letters, the fields of a line,
the lines' characters (R136, R175, R189), and the bytes of a drive frame (section 2.4). -/

namespace Sys2Proof.Machine

/-! ## Capital words -/

def Mode.word : Mode → String
  | .standby => "STANDBY" | .berth => "BERTH" | .passage => "PASSAGE" | .commission => "COMMISSION"

/-- The mode parameter of MD (R198). -/
def Mode.number : Mode → Nat
  | .standby => 0 | .berth => 1 | .passage => 2 | .commission => 3

/-- The mode that an MD parameter names (R198). -/
def Mode.ofParam (x : Int) : Mode :=
  if x = 1 then .berth else if x = 2 then .passage else if x = 3 then .commission else .standby

def MoverId.word : MoverId → String
  | .m1 => "M1" | .m2 => "M2" | .m3 => "M3"

/-- The mover that a parameter 1..3 names (R91). -/
def MoverId.ofParam (x : Int) : MoverId :=
  if x = 1 then .m1 else if x = 2 then .m2 else .m3

def MoverKind.word : MoverKind → String
  | .pump => "PUMP" | .strip => "STRIP"

def Direction.word : Direction → String
  | .discharge => "DISCHARGE" | .fill => "FILL"

def Sign.word : Sign → String
  | .plus => "+" | .minus => "-"

def GaugeState.word : GaugeState → String
  | .unread => "UNREAD" | .good => "GOOD" | .suspect _ => "SUSPECT" | .lost => "LOST"

def Lock.word : Lock → String
  | .free => "FREE" | .locked => "LOCKED"

def Exchange.word : Exchange → String
  | .notExchanged => "NOT-EXCHANGED" | .exchanged => "EXCHANGED"

def TankWindow.word : TankWindow → String
  | .closed => "NONE" | .emptiedAtSea => "EMPTIED-AT-SEA"

def TransferClass.word : TransferClass → String
  | .correction => "CORRECTION" | .paired => "PAIRED" | .planned => "PLANNED"

def TransferOutcome.word : TransferOutcome → String
  | .complete => "COMPLETE" | .relieved => "RELIEVED" | .retired => "RETIRED" | .faulted => "FAULTED"
  | .halted => "HALTED"

def Phase.word : Phase → String
  | .idle => "IDLE" | .lining => "LINING" | .starting => "STARTING" | .running => "RUNNING"
  | .switching _ => "SWITCHING" | .stopping _ _ _ => "STOPPING" | .faulted => "FAULTED"

def StopReason.word : StopReason → String
  | .ended => "END" | .preempt => "PREEMPT" | .fault => "FAULT" | .halt => "HALT"

def StopStage.word : StopStage → String
  | .pump => "PUMP" | .valves => "VALVES"

def MoverCause.word : MoverCause → String
  | .gaugeLost => "GAUGE-LOST" | .pumpNoStart => "PUMP-NOSTART" | .pumpStopped => "PUMP-STOPPED"
  | .valveTimeout => "VALVE-TIMEOUT" | .valveAstray => "VALVE-ASTRAY" | .noFlow => "NO-FLOW"

def TideState.word : TideState → String
  | .unset => "UNSET" | .fresh => "FRESH" | .stale => "STALE"

def InputState.word : InputState → String
  | .complete => "COMPLETE" | .particulars => "PARTICULARS" | .tank _ => "TANK" | .hold _ => "HOLD" | .item _ => "ITEM"

def MarginState.word : MarginState → String
  | .off => "OFF" | .clear => "CLEAR" | .caution => "CAUTION" | .limit => "LIMIT" | .breach => "BREACH"
  | .indeterminate => "INDETERMINATE"

def StepState.word : StepState → String
  | .planned => "PLANNED" | .ready => "READY" | .granted => "GRANTED" | .pouring => "POURING" | .held => "HELD"

def HoldCause.word : HoldCause → String
  | .limit => "LIMIT" | .indet => "INDET" | .halt => "HALT" | .overrun => "OVERRUN"

def Pairing.word : Pairing → String
  | .unpaired => "NONE" | .running _ => "RUNNING" | .done _ => "DONE"

def FaultState.word : FaultState → String
  | .normal => "NORMAL" | .haltStopping => "HALT-STOPPING" | .halt => "HALT" | .restart => "RESTART"

def AttemptOutcome.word : AttemptOutcome → String
  | .failed => "FAILED" | .notQuiet => "NOT-QUIET"

def LoopState.word : LoopState → String
  | .good => "GOOD" | .lost => "LOST"

def ReportKind.word : ReportKind → String
  | .declaration => "DECLARATION" | .condition => "CONDITION" | .plan => "PLAN" | .departure => "DEPARTURE"

/-- The kind parameter of RP (R172). -/
def ReportKind.number : ReportKind → Nat
  | .declaration => 1 | .condition => 2 | .plan => 3 | .departure => 4

/-- The kind that an RP parameter names (R172). -/
def ReportKind.ofParam (x : Int) : ReportKind :=
  if x = 1 then .declaration else if x = 2 then .condition else if x = 3 then .plan else .departure

def AbortCause.word : AbortCause → String
  | .ra => "RA" | .depart => "DEPART"

/-- The side of a tank by its word in the particulars: 0 P, 1 S, 2 C (section 11.2). -/
def sideWord (x : Int) : String :=
  if x = 0 then "P" else if x = 1 then "S" else "C"

/-- The name of a watched quantity by its index (R133). -/
def quantityWord (i : Nat) : String :=
  if i < 32 then (if i % 2 = 0 then "SHEAR" else "BENDING")
  else if i = 32 then "TRIM" else if i = 33 then "LIST" else if i = 34 then "UKC" else "AIR"

/-! ## Fields -/

/-- A number as a field. -/
def fnat (n : Nat) : Field := .num n
/-- A flag as 0 or 1. -/
def fbit (b : Bool) : Field := .num (if b then 1 else 0)
/-- An optional number: empty when absent. -/
def fint? : Option Int → Field
  | some x => .num x
  | none => .empty
/-- An optional natural number. -/
def fnat? : Option Nat → Field
  | some x => .num x
  | none => .empty
/-- An optional flag. -/
def fbit? : Option Bool → Field
  | some b => fbit b
  | none => .empty
/-- An optional word. -/
def fword? : Option String → Field
  | some w => .word w
  | none => .empty
/-- A stamp as a field. -/
def fstamp (x : Stamp) : Field := .num x.toNat
/-- An optional stamp. -/
def fstamp? : Option Stamp → Field
  | some x => fstamp x
  | none => .empty
/-- A field shown only when a condition holds. -/
def fwhen (b : Bool) (f : Field) : Field := if b then f else .empty

/-! ## Verbs -/

/-- The console verbs (section 10.5). -/
def consoleVerbs : List Verb :=
  [.ID, .MD, .LC, .BR, .TD, .FW, .TQ, .TO, .TL, .TU, .XA, .XC, .XR, .XQ, .MQ, .MR, .PA, .PI, .PC, .PR, .HC, .KQ, .WQ,
    .RP, .RA, .AQ, .AK, .FQ, .FA, .SS, .SV, .PW, .PK, .RS, .RQ, .RC]

/-- The shore verbs (section 7.1). -/
def shoreVerbs : List Verb := [.CQ, .CS, .CT, .CE, .DQ]

/-- The verbs of a link. -/
def linkVerbs : Link → List Verb
  | .console => consoleVerbs
  | .shore => shoreVerbs

/-- The two capital letters of a verb. -/
def Verb.chars : Verb → Char × Char
  | .ID => ('I', 'D') | .MD => ('M', 'D') | .LC => ('L', 'C') | .BR => ('B', 'R') | .TD => ('T', 'D')
  | .FW => ('F', 'W') | .TQ => ('T', 'Q') | .TO => ('T', 'O') | .TL => ('T', 'L') | .TU => ('T', 'U')
  | .XA => ('X', 'A') | .XC => ('X', 'C') | .XR => ('X', 'R') | .XQ => ('X', 'Q') | .MQ => ('M', 'Q')
  | .MR => ('M', 'R') | .PA => ('P', 'A') | .PI => ('P', 'I') | .PC => ('P', 'C') | .PR => ('P', 'R')
  | .HC => ('H', 'C') | .KQ => ('K', 'Q') | .WQ => ('W', 'Q') | .RP => ('R', 'P') | .RA => ('R', 'A')
  | .AQ => ('A', 'Q') | .AK => ('A', 'K') | .FQ => ('F', 'Q') | .FA => ('F', 'A') | .SS => ('S', 'S')
  | .SV => ('S', 'V') | .PW => ('P', 'W') | .PK => ('P', 'K') | .RS => ('R', 'S') | .RQ => ('R', 'Q')
  | .RC => ('R', 'C') | .CQ => ('C', 'Q') | .CS => ('C', 'S') | .CT => ('C', 'T') | .CE => ('C', 'E')
  | .DQ => ('D', 'Q')

/-- The 8-bit code of a character. -/
def charByte (c : Char) : Byte := BitVec.ofNat 8 c.toNat

/-- The letters of a verb, as characters of the link. -/
def Verb.letters (v : Verb) : Byte × Byte := (charByte v.chars.1, charByte v.chars.2)

/-- The verb of a link that two letters spell (R188). -/
def linkVerbOf (l : Link) (letters : Byte × Byte) : Option Verb :=
  (linkVerbs l).find? fun v => decide (v.letters = letters)

/-! ## The text of a line -/

def RefCode.word : RefCode → String
  | .form => "FORM" | .lost => "LOST" | .verb => "VERB" | .args => "ARGS" | .range => "RANGE" | .mode => "MODE"
  | .halt => "HALT" | .none => "NONE" | .state => "STATE" | .head => "HEAD" | .late => "LATE" | .claim => "CLAIM"
  | .busy => "BUSY" | .full => "FULL" | .lock => "LOCK"

def Tag.word : Tag → String
  | .HDR => "HDR" | .END => "END" | .TNK => "TNK" | .SUM => "SUM" | .CND => "CND" | .STN => "STN" | .SHP => "SHP"
  | .HLD => "HLD" | .ITM => "ITM" | .BRT => "BRT" | .STP => "STP" | .PLN => "PLN" | .DRF => "DRF"

def PourMessage.word : PourMessage → String
  | .GR => "GR" | .HO => "HO" | .GO => "GO" | .EX => "EX" | .DR => "DR"

/-- The decimal digits of a number. -/
def natText (n : Nat) : List Char := Nat.toDigits 10 n

/-- A decimal number, with '-' when negative (R189). -/
def intText (n : Int) : List Char :=
  if n < 0 then '-' :: natText n.natAbs else natText n.natAbs

/-- A kind or cause name with one number as its object. -/
def withObject (name : String) (n : Nat) : List Char := name.toList ++ '/' :: natText n

/-- A cause as it is sent (R169). -/
def Cause.text : Cause → List Char
  | .breach i => withObject "BREACH" i
  | .loopLost => "LOOP-LOST".toList
  | .pumpAstray a => withObject "PUMP-ASTRAY" a
  | .escalated m c => "ESCALATED/".toList ++ m.word.toList ++ '/' :: c.word.toList
  | .restarted => "RESTARTED".toList

/-- An attention item as it is sent (section 10.7). -/
def Item.text : Item → List Char
  | .gauge t => withObject "GAUGE" t
  | .indet i => withObject "INDET" i
  | .caution i => withObject "CAUTION" i
  | .corrRefused i s => withObject "CORR-REFUSED" i ++ '/' :: s.word.toList
  | .stripRefused x => withObject "STRIP-REFUSED" x
  | .point a => withObject "POINT" a
  | .settingsDefaulted => "SETTINGS-DEFAULTED".toList
  | .originsCleared => "ORIGINS-CLEARED".toList
  | .tideStale => "TIDE-STALE".toList
  | .ended m => "ENDED/".toList ++ m.word.toList
  | .moverFault m => "MOVER-FAULT/".toList ++ m.word.toList
  | .limit i => withObject "LIMIT" i
  | .stepHeld x => withObject "STEP-HELD" x
  | .halt => "HALT".toList
  | .restarted => "RESTARTED".toList

/-- A field as it is sent; an absent field is empty between its separators (R189). -/
def Field.text : Field → List Char
  | .empty => []
  | .num n => intText n
  | .word w => w.toList
  | .cause c => c.text
  | .item i => i.text

/-- The fields of a line, each preceded by ','. -/
def fieldsText (fs : List Field) : List Char := fs.flatMap fun f => ',' :: f.text

/-- The end of every line: ';' CR LF. -/
def lineEnd : List Char := [';', '\r', '\n']

/-- The two letters of a refusal; "??" when fewer than two were parsed (R188). -/
def lettersText : Option (Byte × Byte) → List Char
  | some (a, b) => [Char.ofNat a.toNat, Char.ofNat b.toNat]
  | none => ['?', '?']

/-- The characters of a line (R136, R175, R189). -/
def Line.text : Line → List Char
  | .reply v fs => '=' :: v.chars.1 :: v.chars.2 :: fieldsText fs ++ lineEnd
  | .refusal ls c => '!' :: lettersText ls ++ ',' :: c.word.toList ++ lineEnd
  | .report t fs => '*' :: t.word.toList ++ fieldsText fs ++ lineEnd
  | .pour m fs => '>' :: m.word.toList ++ fieldsText fs ++ lineEnd

/-- The refusal of a verb with a code. -/
def refusalLine (v : Verb) (c : RefCode) : Line := .refusal (some v.letters) c

/-! ## The bytes of a drive frame (section 2.4) -/

/-- Eight commands as a byte, the lowest address in the least significant bit. -/
def commandByte : List Bool → Nat
  | [] => 0
  | b :: rest => (if b then 1 else 0) + 2 * commandByte rest

/-- The eleven bytes of a drive frame: start marker, kind, the 64 commands, end marker. -/
def frameBytes (kind : FrameKind) (commands : List Bool) : List Nat :=
  0xA5 :: (match kind with | .routine => 0x00 | .full => 0x01) ::
    (List.range 8).map (fun i => commandByte ((commands.drop (8 * i)).take 8)) ++ [0x5A]

end Sys2Proof.Machine
end

