-- ==== Sys2Proof/Machine/Ops.lean ====
section
/-! DEFINITION. The named operations that every block shares: reading and writing the records by their numbers, the
clock, what is sent, raising attention items, writing the drive image, claims and origins. -/

namespace Sys2Proof.Machine

/-! ## The clock, and what is sent -/

/-- The clock stands at a time or later: an expiry that is due then takes it there (log 2). -/
def State.reach (s : State) (time : Nat) : State := s.setNow (max s.now time)

/-- The part has sent something (log 19). -/
def State.send (s : State) (o : Output) : State := s.setSent (s.sent ++ [o])

/-- Whole seconds from a time to now (log 24). -/
def State.secondsSince (s : State) (time : Nat) : Nat := (s.now - time) / 1000

/-- The part runs: its start checks have ended and no reset holds it (R205). -/
def State.running (s : State) : Bool := decide (s.modes.condition = .running)

/-- The fault state is RESTART (R168). -/
def State.inRestart (s : State) : Bool := decide (s.faults.state = .restart)

/-- The fault state is NORMAL. -/
def State.isNormal (s : State) : Bool := decide (s.faults.state = .normal)

/-- The particulars in use. -/
def State.parts (s : State) : Option Memory := s.particulars.inUse

/-! ## Records by number -/

/-- The live record of tank `t` (1..24). -/
def State.tank (s : State) (t : Nat) : TankLive := (s.tankTable.tanks[t - 1]?).getD TankLive.blank

/-- The live record of tank `t` takes a value. -/
def State.setTank (s : State) (t : Nat) (x : TankLive) : State :=
  s.setTankTable { s.tankTable with tanks := s.tankTable.tanks.setIfInBounds (t - 1) x }

/-- The mass of a tank: volume × 1025 / 1000, truncated; absent with the volume (R3). -/
def TankLive.mass (x : TankLive) : Option Nat := x.volume.map fun v => v * 1025 / 1000

/-- A tank is unclaimed and FREE (R52). -/
def State.tankAvailable (s : State) (t : Nat) : Bool :=
  decide ((s.tank t).claim = none) && decide ((s.tank t).lock = .free)

/-- The drive image at an address (R24). -/
def State.drive (s : State) (a : Nat) : DrivePoint := (s.loop.drive[a]?).getD ⟨false, .awaiting, none⟩

/-- The drive image at an address takes a value. -/
def State.setDrive (s : State) (a : Nat) (d : DrivePoint) : State :=
  s.setLoop { s.loop with drive := s.loop.drive.setIfInBounds a d }

/-- The scan image at an address (R30). -/
def State.scanned (s : State) (a : Nat) : ScanPoint := (s.loop.scan[a]?).getD ⟨none, false⟩

/-- The record of a mover. -/
def State.mover (s : State) (m : MoverId) : Mover :=
  match m with
  | .m1 => s.movers.m1
  | .m2 => s.movers.m2
  | .m3 => s.movers.m3

/-- The record of a mover takes a value. -/
def State.setMover (s : State) (m : MoverId) (x : Mover) : State :=
  match m with
  | .m1 => s.setMovers { s.movers with m1 := x }
  | .m2 => s.setMovers { s.movers with m2 := x }
  | .m3 => s.setMovers { s.movers with m3 := x }

/-- The fault cause of a mover (section 8, the Fault Supervisor's record). -/
def State.moverCause (s : State) (m : MoverId) : Option MoverCause :=
  match m with
  | .m1 => s.faults.cause1
  | .m2 => s.faults.cause2
  | .m3 => s.faults.cause3

/-- The fault cause of a mover takes a value. -/
def State.setMoverCause (s : State) (m : MoverId) (c : Option MoverCause) : State :=
  match m with
  | .m1 => s.setFaults { s.faults with cause1 := c }
  | .m2 => s.setFaults { s.faults with cause2 := c }
  | .m3 => s.setFaults { s.faults with cause3 := c }

/-- The transfer record in use with an id (R41). -/
def State.transfer? (s : State) (id : Nat) : Option Transfer :=
  s.transfers.records.find? fun t => decide (t.id = id)

/-- The transfer record with an id changes. -/
def State.updTransfer (s : State) (id : Nat) (f : Transfer → Transfer) : State :=
  s.setTransfers { s.transfers with
    records := s.transfers.records.map fun t => if t.id = id then f t else t }

/-- The mover in whose run slot a transfer stands: ACTIVE (R41). -/
def State.activeOn (s : State) (id : Nat) : Option MoverId :=
  allMovers.find? fun m => decide ((s.mover m).run = some id)

/-- The mover on whose stack a transfer stands: STACKED (R41). -/
def State.stackedOn (s : State) (id : Nat) : Option MoverId :=
  allMovers.find? fun m => (s.mover m).stack.any fun x => decide (x = id)

/-- The pour step with an id (section 7.3). -/
def State.step? (s : State) (id : Nat) : Option PourStep :=
  s.pour.steps.find? fun x => decide (x.id = id)

/-- The pour step with an id changes. -/
def State.updStep (s : State) (id : Nat) (f : PourStep → PourStep) : State :=
  s.setPour { s.pour with steps := s.pour.steps.map fun x => if x.id = id then f x else x }

/-- The hold record of hold `h` (1..9) (R137). -/
def State.holdRecord (s : State) (h : Nat) : MassRecord := (s.pour.holds[h - 1]?).getD ⟨0, false⟩

/-- The hold record of hold `h` takes a value. -/
def State.setHoldRecord (s : State) (h : Nat) (x : MassRecord) : State :=
  s.setPour { s.pour with holds := s.pour.holds.setIfInBounds (h - 1) x }

/-- The record of fixed item `i` (1..8) (R96). -/
def State.itemRecord (s : State) (i : Nat) : MassRecord := (s.cond.items[i - 1]?).getD ⟨0, false⟩

/-- The record of fixed item `i` takes a value. -/
def State.setItemRecord (s : State) (i : Nat) (x : MassRecord) : State :=
  s.setCond { s.cond with items := s.cond.items.setIfInBounds (i - 1) x }

/-- The watched entry of an index 0..35 (R118). -/
def State.watched (s : State) (i : Nat) : WatchedEntry :=
  (s.margins.entries[i]?).getD ⟨none, none, .off, .plus, none⟩

/-! ## Attention items (R191) -/

/-- The weight of an item's class: NOTICE 1, MOVER 2, SHIP 4. -/
def Item.weight : Item → Nat
  | .gauge _ => 1
  | .indet _ => 1
  | .caution _ => 1
  | .corrRefused _ _ => 1
  | .stripRefused _ => 1
  | .point _ => 1
  | .settingsDefaulted => 1
  | .originsCleared => 1
  | .tideStale => 1
  | .ended _ => 2
  | .moverFault _ => 2
  | .limit _ => 4
  | .stepHeld _ => 4
  | .halt => 4
  | .restarted => 4

/-- An item is pending. -/
def AttentionSet.has (a : AttentionSet) (i : Item) : Bool := a.items.any fun x => decide (x = i)

/-- The oldest pending item of the lowest weight below a weight (R191). -/
def AttentionSet.displaced (a : AttentionSet) (w : Nat) : Option Item :=
  match a.items.find? fun x => decide (x.weight = 1) && decide (1 < w) with
  | some x => some x
  | none => a.items.find? fun x => decide (x.weight = 2) && decide (2 < w)

/-- Raising an item (R191): nothing when it is pending; appended while fewer than 64 are pending; otherwise it
displaces, or is not added, and the overflow count goes up to 255. -/
def AttentionSet.raise (a : AttentionSet) (i : Item) : AttentionSet :=
  if a.has i then a
  else if a.items.length < Config.attentionCount then { a with items := a.items ++ [i] }
  else
    match a.displaced i.weight with
    | some old => ⟨a.items.erase old ++ [i], min 255 (a.overflow + 1)⟩
    | none => ⟨a.items, min 255 (a.overflow + 1)⟩

/-- A block raises an attention item. -/
def State.raise (s : State) (i : Item) : State := s.setAttention (s.attention.raise i)

/-! ## Writing the drive image (section 2.2) -/

/-- A write of ON is not taken (R25, R26): outside fault state NORMAL, and on the valve of an unclaimed tank. -/
def State.onRefused (s : State) (r : Role) : Bool :=
  !s.isNormal ||
    match r with
    | .tankValve t => decide ((s.tank t).claim = none)
    | .run _ => false
    | .overboard _ => false
    | .seaChest _ => false
    | .gauge _ => false
    | .unused => false

/-- A write of a command to a point (R24): only drive points take one; a write equal to the command held changes
nothing; a command change makes the point AWAITING with no allowance start. -/
def State.writePoint (s : State) (a : Nat) (on : Bool) : State :=
  let r := roleOf s.parts a
  if !r.isDrive then s
  else if on && s.onRefused r then s
  else if (s.drive a).on = on then s
  else s.setDrive a ⟨on, .awaiting, none⟩

/-- Every drive point written OFF, as one event (R26). -/
def State.writeAllOff (s : State) : State :=
  (drivePoints s.parts).foldl (fun s q => s.writePoint q.1 false) s

/-! ## Claims (R57) -/

/-- The tanks given are claimed for a transfer (R53). -/
def State.claimTanks (s : State) (tanks : List Nat) (id : Nat) : State :=
  tanks.foldl (fun s t => s.setTank t { s.tank t with claim := some id }) s

/-- The claim of a tank is released, and its valve, if commanded ON, is written OFF (R25, R57). -/
def State.releaseTank (s : State) (t : Nat) : State :=
  (s.setTank t { s.tank t with claim := none }).writePoint (tankValve s.parts t) false

/-- The tanks claimed for a transfer, ascending. -/
def State.claimedFor (s : State) (id : Nat) : List Nat :=
  (numbers 24).filter fun t => decide ((s.tank t).claim = some id)

/-- The claims of a transfer are released together (R57). -/
def State.releaseClaims (s : State) (id : Nat) : State :=
  (s.claimedFor id).foldl State.releaseTank s

/-! ## Origins (sections 1.4, 1.5) -/

/-- The 24 entries as they stand (R16, R18). -/
def TankTable.origins (x : TankTable) : Vector OriginEntry 24 :=
  Vector.ofFn fun i : Fin 24 => (x.tanks[i]).origin

/-- An origin field of some tank has changed (R16): in IDLE a write begins, in WRITING the rewrite flag is set. Where one
event changes the fields of several tanks, each is a change of its own, in turn (log 41). -/
def State.originChanged (s : State) : State :=
  match s.tankTable.writing with
  | none => s.setTankTable { s.tankTable with writing := some s.tankTable.origins }
  | some _ => s.setTankTable { s.tankTable with rewrite := true }

/-- The origin fields of a tank take values, and a change is written to the store (R16). -/
def State.setOrigin (s : State) (t : Nat) (o : OriginEntry) : State :=
  if (s.tank t).origin = o then s else (s.setTank t { s.tank t with origin := o }).originChanged

/-- The fill origin that a fill start records (R11). -/
def State.fillOrigin (s : State) : Option Nat :=
  match s.modes.mode with
  | .berth => s.cond.berth.map (·.port)
  | .passage => s.modes.location
  | .standby => none
  | .commission => none

/-- The origin list and the more flag after a fill start (R12). `empty` says that the volume is at or below the
residue volume; an absent volume counts as above it. -/
def fillCodes (codes : List Nat) (more : Bool) (empty : Bool) (fill : Option Nat) : List Nat × Bool :=
  if empty then (fill.toList, false)
  else
    match fill with
    | none => (codes, true)
    | some c =>
      if codes.any fun x => decide (x = c) then (codes, more)
      else if codes.length < 2 then (codes ++ [c], more)
      else (codes.take 1 ++ [c], true)

/-- The mode is PASSAGE with the exchange-area flag set (R13, R14). -/
def State.inExchangeArea (s : State) : Bool := decide (s.modes.mode = .passage) && s.modes.exchangeArea

/-- A fill start of a tank (R11 to R13): origin rule, exchange rule, window NONE. -/
def State.fillStart (s : State) (t : Nat) : State :=
  let x := s.tank t
  let empty := match x.volume with
    | some v => decide (v ≤ tankResidue s.parts t)
    | none => false
  let cm := fillCodes x.origin.codes x.origin.more empty s.fillOrigin
  let exchange : Exchange :=
    if x.origin.window = .emptiedAtSea ∧ s.inExchangeArea = true then .exchanged else .notExchanged
  s.setOrigin t ⟨cm.1, cm.2, exchange, .closed⟩

end Sys2Proof.Machine
end

