-- ==== Sys2Proof/Machine/Flags.lean ====
section
/-! DEFINITION. Flags and readings computed from the records: the attention code and lines (R192), agreement and
grading of a drive point (R23, R33), the readings of a commit (R37), motion (R10), percents and thresholds (R121 to
R123). -/

namespace Sys2Proof.Machine

/-! ## Attention code and lines -/

/-- At least one item of a class is pending. -/
def AttentionSet.hasWeight (a : AttentionSet) (w : Nat) : Bool := a.items.any fun x => decide (x.weight = w)

/-- The attention code: the sum of the weights of the classes with a pending item (R192). -/
def AttentionSet.code (a : AttentionSet) : Nat :=
  (if a.hasWeight 1 then 1 else 0) + (if a.hasWeight 2 then 2 else 0) + (if a.hasWeight 4 then 4 else 0)

/-- A line is asserted while an item of a class assigned to it is pending (R192); both are released while the part is
in reset (R196). `urgent` is true for ATTN-U. -/
def State.attnLine (s : State) (urgent : Bool) : Bool :=
  s.running &&
    ((s.attention.hasWeight 1 && decide (s.settings.working.noticeLine = urgent)) ||
      (s.attention.hasWeight 2 && decide (s.settings.working.moverLine = urgent)) ||
      (s.attention.hasWeight 4 && decide (s.settings.working.shipLine = urgent)))

/-- ATTN-U is asserted. -/
def State.attnU (s : State) : Bool := s.attnLine true
/-- ATTN-R is asserted. -/
def State.attnR (s : State) : Bool := s.attnLine false

/-! ## Drive points -/

/-- The final state for a command, as its code: RUNNING or OPEN for ON, STOPPED or CLOSED for OFF (section 2.1). -/
def finalCode (on : Bool) : Nat := if on then 1 else 0

/-- A drive point is in agreement with its command (R23). -/
def State.agrees (s : State) (a : Nat) : Bool :=
  decide ((s.scanned a).value = some (finalCode (s.drive a).on))

/-- The allowance of a role (section 2.6). -/
def Role.allowance (r : Role) : Nat := if r.isRun then Config.runAllowanceMs else Config.valveAllowanceMs

/-- At least the allowance has passed since the allowance start (R33). -/
def State.expired (s : State) (a : Nat) (r : Role) : Bool :=
  match (s.drive a).start with
  | some t => decide (t + r.allowance ≤ s.now)
  | none => false

/-- The grade of a point after a commit, and whether a disagreement is handed (R33). -/
def grade (before : Agreement) (agrees expired : Bool) : Agreement × Bool :=
  if agrees then (.settled, false)
  else
    match before with
    | .awaiting => if expired then (.overdue, true) else (.awaiting, false)
    | .settled => (.astray, true)
    | .overdue => (.overdue, false)
    | .astray => (.astray, false)

/-- The point is SETTLED at a command. -/
def State.settledAt (s : State) (a : Nat) (on : Bool) : Bool :=
  decide ((s.drive a).on = on) && decide ((s.drive a).agreement = .settled)

/-! ## Readings of a commit (R37) -/

/-- A point reads STOPPED or CLOSED. -/
def State.readsOff (s : State) (a : Nat) : Bool := decide ((s.scanned a).value = some 0)

/-- The all-off reading: every RUN point STOPPED and every VALVE point CLOSED (R37). -/
def State.allOffReading (s : State) : Bool := (drivePoints s.parts).all fun q => s.readsOff q.1

/-- The quiet reading of a mover: its RUN point STOPPED, its valves CLOSED (R37). -/
def State.quietReading (s : State) (m : MoverId) : Bool := (moverPoints s.parts m).all fun q => s.readsOff q.1

/-! ## Transfers and motion -/

/-- The tank of the entry named by the active index (R10). -/
def Transfer.activeTank (t : Transfer) : Option Nat := (t.entries[t.active - 1]?).map (·.tank)

/-- The tanks of the entries whose done flag is clear (R41). -/
def Transfer.remaining (t : Transfer) : List Nat := (t.entries.filter fun e => !e.done).map (·.tank)

/-- The transfer in the run slot of a mover. -/
def State.runTransfer (s : State) (m : MoverId) : Option Transfer :=
  match (s.mover m).run with
  | some id => s.transfer? id
  | none => none

/-- The active tank of a mover (R10). -/
def State.activeTank (s : State) (m : MoverId) : Option Nat :=
  match s.runTransfer m with
  | some t => t.activeTank
  | none => none

/-- The motion of a tank (R10). -/
inductive Motion
  | still | filling | discharging
  deriving DecidableEq, Repr

def Motion.word : Motion → String
  | .still => "STILL" | .filling => "FILLING" | .discharging => "DISCHARGING"

/-- The phases in which a mover moves its active tank (R10). -/
def Phase.moves : Phase → Bool
  | .starting => true
  | .running => true
  | .switching _ => true
  | .idle => false
  | .lining => false
  | .stopping _ _ _ => false
  | .faulted => false

/-- The motion of tank `t`, derived from the movers (R10). -/
def State.motion (s : State) (t : Nat) : Motion :=
  match allMovers.find? fun m => (s.mover m).phase.moves && decide (s.activeTank m = some t) with
  | none => .still
  | some m =>
    match s.runTransfer m with
    | none => .still
    | some x => match x.direction with
      | .fill => .filling
      | .discharge => .discharging

/-- The rank of a class; CORRECTION ranks highest (section 3.1). -/
def TransferClass.rank : TransferClass → Nat
  | .correction => 3
  | .paired => 2
  | .planned => 1

/-- A mover is free (R70). -/
def Mover.free (x : Mover) : Bool :=
  decide (x.phase = .idle) && decide (x.run = none) && decide (x.stack = []) && !x.popping

/-! ## Percents and thresholds -/

/-- The percent of an upper-bounded entry with value `v` and limit `l` (R121). -/
def percentUpper (v : Int) (l : Nat) : Nat :=
  if l = 0 then (if v = 0 then 0 else 999) else min 999 (v.natAbs * 100 / l)

/-- The percent of a lower-bounded entry with value `a` and required clearance `r` (R122). -/
def percentLower (a : Int) (r : Nat) : Nat :=
  if a ≤ 0 then 999 else min 999 (r * 100 / a.toNat)

/-- The caution threshold of a selection code (R123). -/
def cautionThreshold : Nat → Nat
  | 0 => 75
  | 1 => 80
  | 2 => 85
  | 3 => 88
  | 4 => 90
  | 5 => 92
  | 6 => 95
  | _ => 97

/-- The limits in use by the mode (R120). -/
inductive LimitSet
  | harbour | sea | off
  deriving DecidableEq, Repr

def LimitSet.word : LimitSet → String
  | .harbour => "HARBOUR" | .sea => "SEA" | .off => "NONE"

/-- The set of limits in use (R120). -/
def Mode.limits : Mode → LimitSet
  | .berth => .harbour
  | .standby => .harbour
  | .passage => .sea
  | .commission => .off

/-- An entry is graded in a mode (R118, R120). -/
def entryGraded (p : Option Memory) (mode : Mode) (i : Nat) : Bool :=
  p.isSome &&
    (match mode with
    | .commission => false
    | .berth => decide (i < 36)
    | .standby => decide (i < 34)
    | .passage => decide (i < 34)) &&
    (decide (32 ≤ i) || stationDefined p (i / 2 + 1))

/-- Which of the two limits of a pair is in use: the second for SEA (section 11.2). -/
def LimitSet.offset : LimitSet → Nat
  | .harbour => 0
  | .sea => 1
  | .off => 0

/-- The limit of an upper-bounded entry on a side (R121, section 11.2). -/
def upperLimit (p : Option Memory) (set : LimitSet) (i : Nat) (sign : Sign) : Nat :=
  if i < 32 then
    let k := (if i % 2 = 0 then 2 else 6) + (if sign = .plus then 0 else 2)
    pnat p (stationBase (i / 2 + 1) + k + set.offset)
  else if i = 32 then pnat p (8 + set.offset)
  else pnat p (10 + set.offset)

/-- The required clearance of index 34 or 35 (R122); 0 while the berth record is unset, when no value exists. -/
def requiredClearance (berth : Option BerthRecord) (i : Nat) : Nat :=
  match berth with
  | none => 0
  | some b => if i = 34 then b.minUkc else b.minAir

/-- The sign of a value (R124): always − for indices 34 and 35. -/
def signOf (i : Nat) (v : Int) : Sign := if i < 34 ∧ 0 ≤ v then .plus else .minus

/-- The percent of an entry's value (R121, R122). -/
def percentOf (p : Option Memory) (set : LimitSet) (berth : Option BerthRecord) (i : Nat) (v : Int) : Nat :=
  if i < 34 then percentUpper v (upperLimit p set i (signOf i v)) else percentLower v (requiredClearance berth i)

end Sys2Proof.Machine
end

