-- ==== Sys2Proof/Machine/Arbiter.lean ====
section
/-! DEFINITION. The pump order arbiter and what a mover does on entering a phase: effective targets (R74), line-up and
LINING (R71), entering STOPPING (R79, R80), STARTING and SWITCHING (R73, R76), assignment (R53), reservation (R54),
the scan (R51), admission (R42, R44, R50) and returns to pending (R50). None of these frees a record. -/

namespace Sys2Proof.Machine

/-! ## Entries and targets -/

/-- The effective target of an entry (R74). -/
def effectiveTarget (p : Option Memory) (kind : MoverKind) (dir : Direction) (e : Entry) : Nat :=
  match kind, dir with
  | .pump, .discharge => max e.target (tankFloor p e.tank)
  | .pump, .fill => e.target
  | .strip, _ => e.target

/-- The entry's tank volume meets the effective target (R74); an absent volume meets none (R71). -/
def State.entryMet (s : State) (t : Transfer) (e : Entry) : Bool :=
  match (s.tank e.tank).volume with
  | none => false
  | some v =>
    match t.direction with
    | .discharge => decide (v ≤ effectiveTarget s.parts t.kind t.direction e)
    | .fill => decide (effectiveTarget s.parts t.kind t.direction e ≤ v)

/-- The index, from 1, of the first entry after index `k` whose done flag is clear (R75). -/
def Transfer.nextAfter (t : Transfer) (k : Nat) : Option Nat :=
  ((numbers t.entries.length).filter fun i => decide (k < i)).find? fun i =>
    match t.entries[i - 1]? with
    | some e => !e.done
    | none => false

/-- The entry at index `i`, from 1, is marked done (R75). -/
def Transfer.markDone (t : Transfer) (i : Nat) : Transfer :=
  { t with entries := t.entries.mapIdx fun k e => if k + 1 = i then { e with done := true } else e }

/-- The examination of R71: every entry whose tank already meets its effective target is marked done, and the active
index becomes the first entry not done. -/
def State.examine (s : State) (t : Transfer) : Transfer :=
  let t' := { t with entries := t.entries.map fun e => if s.entryMet t e then { e with done := true } else e }
  match t'.nextAfter 0 with
  | some i => { t' with active := i }
  | none => t'

/-! ## Phases -/

/-- A mover enters a phase: its phase timer restarts, and the flow reference of RUNNING is gone (R70). -/
def State.enterPhase (s : State) (m : MoverId) (ph : Phase) : State :=
  s.setMover m { s.mover m with phase := ph, timer := s.now, flow := none, gaugeDue := false }

/-- The valve of the line-up that belongs to the mover: overboard to discharge, sea chest to fill (R43). -/
def moverValve (p : Option Memory) (m : MoverId) (dir : Direction) : Nat :=
  match dir with
  | .discharge => overboardPoint p m
  | .fill => seaChestPoint p m

/-- The two valve steps of the line-up list in list order, resolved for a mover (R43, R70). -/
def State.lineUp (s : State) (m : MoverId) (t : Transfer) : List Nat :=
  match t.activeTank with
  | none => []
  | some k =>
    match t.direction with
    | .discharge => [tankValve s.parts k, moverValve s.parts m .discharge]
    | .fill => [moverValve s.parts m .fill, tankValve s.parts k]

/-- The valves a stop closes: overboard, sea chest (M1, M2), and the valve of every tank claimed by the run-slot
transfer (R80). -/
def State.stopValves (s : State) (m : MoverId) : List Nat :=
  (overboardPoint s.parts m :: (if m.kind = .pump then [seaChestPoint s.parts m] else [])) ++
    (match (s.mover m).run with
    | some id => (s.claimedFor id).map (tankValve s.parts)
    | none => [])

/-- Points are written in order, as one event (R24). -/
def State.writePoints (s : State) (points : List Nat) (on : Bool) : State :=
  points.foldl (fun s a => s.writePoint a on) s

/-- The RUN point is commanded OFF and SETTLED (R80). -/
def State.runStopped (s : State) (m : MoverId) : Bool := s.settledAt (runPoint s.parts m) false

/-- A stop with reason END, PREEMPT or FAULT is entered (R79, R80): the RUN point is written OFF; the stop goes at once
to stage VALVES, closing the valves, when that point is already OFF and SETTLED. A mover already STOPPING keeps its
stage, and only its reason and outcome change. -/
def State.enterStop (s : State) (m : MoverId) (reason : StopReason) (outcome : Option TransferOutcome) : State :=
  match (s.mover m).phase with
  | .stopping _ _ stage => s.setMover m { s.mover m with phase := .stopping reason outcome stage, gaugeDue := false }
  | _ =>
    if s.runStopped m then
      (s.enterPhase m (.stopping reason outcome .valves)).writePoints (s.stopValves m) false
    else
      (s.enterPhase m (.stopping reason outcome .pump)).writePoint (runPoint s.parts m) false

/-- The gauge of a tank is UNREAD or LOST (R71, R76). -/
def State.gaugeBlind (s : State) (t : Nat) : Bool :=
  match (s.tank t).gauge with
  | .unread => true
  | .lost => true
  | .good => false
  | .suspect _ => false

/-- GAUGE-LOST is to be handed to a mover with the next commit when its active tank cannot be followed (R71, R76). -/
def State.markGaugeDue (s : State) (m : MoverId) : State :=
  match s.activeTank m with
  | some k => if s.gaugeBlind k then s.setMover m { s.mover m with gaugeDue := true } else s
  | none => s

/-- A mover enters LINING with the transfer in its run slot (R71): examination when re-verify is set, then the line-up
written ON, or the end of a transfer with no entry left. -/
def State.enterLining (s : State) (m : MoverId) : State :=
  match s.runTransfer m with
  | none => s
  | some t =>
    let t' := if t.reverify then s.examine t else t
    let s := (s.updTransfer t.id fun _ => t').enterPhase m .lining
    if t.reverify && (t'.nextAfter 0).isNone then s.enterStop m .ended (some .complete)
    else (s.writePoints (s.lineUp m t') true).markGaugeDue m

/-- The new active tank of a FILL makes a fill start (R10, R11). -/
def State.startFill (s : State) (m : MoverId) : State :=
  match s.runTransfer m with
  | none => s
  | some t =>
    match t.direction, t.activeTank with
    | .fill, some k => s.fillStart k
    | .fill, none => s
    | .discharge, _ => s

/-- A mover enters STARTING (R73): RUN written ON; for a FILL, a fill start. -/
def State.enterStarting (s : State) (m : MoverId) : State :=
  ((s.enterPhase m .starting).writePoint (runPoint s.parts m) true).startFill m

/-- The flow reference is taken from the active tank's volume now (R77). -/
def State.takeFlow (s : State) (m : MoverId) : State :=
  s.setMover m { s.mover m with
    flow := some ⟨match s.activeTank m with | some k => (s.tank k).volume | none => none, s.now⟩ }

/-- A mover enters RUNNING from STARTING (R73). -/
def State.enterRunning (s : State) (m : MoverId) : State := (s.enterPhase m .running).takeFlow m

/-- A mover returns from SWITCHING to RUNNING (R76): the previous tank's valve is written OFF, a new flow reference is
taken, and the phase timer runs on. -/
def State.resumeRunning (s : State) (m : MoverId) (previous : Nat) : State :=
  ((s.setMover m { s.mover m with phase := .running, gaugeDue := false }).writePoint
    (tankValve s.parts previous) false).takeFlow m

/-- A mover enters SWITCHING (R76): the active index moves, the next tank's valve is written ON, the previous valve
stays ON; for a FILL, a fill start. The phase timer runs on (R70). -/
def State.enterSwitching (s : State) (m : MoverId) (t : Transfer) (next : Nat) : State :=
  let previous := t.activeTank.getD 0
  let s := s.updTransfer t.id fun x => { x with active := next }
  let s := s.setMover m { s.mover m with phase := .switching previous, flow := none, gaugeDue := false }
  let s := match s.activeTank m with
    | some k => s.writePoint (tankValve s.parts k) true
    | none => s
  (s.startFill m).markGaugeDue m

/-! ## The pending queue -/

/-- The rank of the class of a record, 0 for an id that is not in use. -/
def State.rankOf (s : State) (id : Nat) : Nat :=
  match s.transfer? id with
  | some t => t.cls.rank
  | none => 0

/-- A newly admitted transfer goes after the last of its own class, else after the last of a higher class (R50). -/
def State.enqueueNew (s : State) (id : Nat) : State :=
  let ahead := fun x => decide (s.rankOf id ≤ s.rankOf x)
  s.setTransfers { s.transfers with queue := s.transfers.queue.takeWhile ahead ++ id :: s.transfers.queue.dropWhile ahead }

/-- A transfer returned to pending goes to the head of its class (R50). -/
def State.enqueueReturned (s : State) (id : Nat) : State :=
  let ahead := fun x => decide (s.rankOf id < s.rankOf x)
  s.setTransfers { s.transfers with queue := s.transfers.queue.takeWhile ahead ++ id :: s.transfers.queue.dropWhile ahead }

/-- A transfer leaves the pending queue. -/
def State.dequeue (s : State) (id : Nat) : State :=
  s.setTransfers { s.transfers with queue := s.transfers.queue.filter fun x => decide (x ≠ id) }

/-! ## Assignment and reservation -/

/-- A transfer takes a mover's run slot, and its remaining tanks are claimed for it (R53, R84). -/
def State.takeSlot (s : State) (m : MoverId) (id : Nat) : State :=
  let tanks := match s.transfer? id with
    | some t => t.remaining
    | none => []
  (s.setMover m { s.mover m with run := some id, popping := false }).claimTanks tanks id

/-- An assignment (R53): out of the queue, into the run slot, tanks claimed, LINING entered. -/
def State.assign (s : State) (m : MoverId) (id : Nat) : State :=
  (((s.dequeue id).updTransfer id fun t => { t with reservation := none, assigned := true }).takeSlot m id).enterLining m

/-- Some pending transfer holds a reservation on a mover (R54). -/
def State.reserved (s : State) (m : MoverId) : Bool :=
  s.transfers.records.any fun t => decide (t.reservation = some m)

/-- The reservation on a mover is gone (R55). -/
def State.dropReservation (s : State) (m : MoverId) : State :=
  s.setTransfers { s.transfers with
    records := s.transfers.records.map fun t => if t.reservation = some m then { t with reservation := none } else t }

/-- A mover is a candidate for preemption by a pending transfer (R54). -/
def State.candidate (s : State) (t : Transfer) (m : MoverId) : Bool :=
  decide (m.kind = t.kind) && decide ((s.mover m).phase = .running) && !s.reserved m &&
    (match s.runTransfer m with
    | none => false
    | some r =>
      decide (r.cls.rank < t.cls.rank) &&
        t.remaining.all fun k =>
          (decide ((s.tank k).claim = none) || decide ((s.tank k).claim = some r.id)) &&
            decide ((s.tank k).lock = .free))

/-- Of two candidates, the victim (R54): the lower class, then the later entry into RUNNING, then the second (M2). -/
def State.worse (s : State) (a b : MoverId) : MoverId :=
  let ra := match (s.mover a).run with | some id => s.rankOf id | none => 0
  let rb := match (s.mover b).run with | some id => s.rankOf id | none => 0
  if ra < rb then a
  else if rb < ra then b
  else if (s.mover b).timer < (s.mover a).timer then a
  else b

/-- The victim of a pending transfer, none when no mover is a candidate (R54). -/
def State.victim (s : State) (t : Transfer) : Option MoverId :=
  match allMovers.filter (s.candidate t) with
  | [] => none
  | m :: rest => some (rest.foldl s.worse m)

/-- The arbiter reserves a victim (R54). -/
def State.reserve (s : State) (id : Nat) (m : MoverId) : State :=
  (s.updTransfer id fun t => { t with reservation := some m }).enterStop m .preempt none

/-- The free mover that a transfer is given: M1 before M2 (R52). -/
def State.freeMover (s : State) (kind : MoverKind) : Option MoverId :=
  allMovers.find? fun m => decide (m.kind = kind) && (s.mover m).free

/-- One transfer is judged in a scan (R51, R52, R54). -/
def State.judgePending (s : State) (id : Nat) : State :=
  match s.transfer? id with
  | none => s
  | some t =>
    if t.reservation.isSome then s
    else
      match s.freeMover t.kind with
      | some m => if t.remaining.all s.tankAvailable then s.assign m id else s
      | none =>
        match s.victim t with
        | some m => s.reserve id m
        | none => s

/-- The arbiter scans the pending queue once from the head (R51). -/
def State.scan (s : State) : State := s.transfers.queue.foldl State.judgePending s

/-! ## Admission -/

/-- The next id: the first number after the counter, from 255 to 1, that no record in use has (R42). -/
def State.nextId (s : State) : Nat :=
  (((List.range 255).map fun k => (s.transfers.counter + k) % 255 + 1).find? fun n => (s.transfer? n).isNone).getD 0

/-- The transfer table is full (R44). -/
def State.tableFull (s : State) : Bool := decide (Config.transferCount ≤ s.transfers.records.length)

/-- What a source asks to have admitted (section 3.1). -/
structure Admission where
  cls : TransferClass
  kind : MoverKind
  direction : Direction
  entries : List (Nat × Nat)
  source : Source
  stopIndex : Option Nat
  reverify : Bool
  deriving DecidableEq, Repr

/-- The record of a newly admitted transfer (R44), never assigned. -/
def Admission.record (a : Admission) (id : Nat) : Transfer :=
  { id := id, cls := a.cls, kind := a.kind, direction := a.direction,
    entries := a.entries.map fun q => ⟨q.1, q.2, false⟩, active := 1, source := a.source, stopIndex := a.stopIndex,
    reverify := a.reverify, reservation := none, assigned := false }

/-- An admission without its scan (R44 steps 1 to 3). -/
def State.enrol (s : State) (a : Admission) : State :=
  let id := s.nextId
  (s.setTransfers { s.transfers with records := s.transfers.records ++ [a.record id], counter := id }).enqueueNew id

/-- An admission (R44): id, record, queue, scan. `scans` is false for a pairing at the end of a stop, whose closing scan
serves it (R81, log 27). -/
def State.admitTransfer (s : State) (a : Admission) (scans : Bool) : State :=
  if scans then (s.enrol a).scan else s.enrol a

/-- The mode is BERTH or PASSAGE (R44). -/
def State.modeAdmits (s : State) : Bool := decide (s.modes.mode = .berth) || decide (s.modes.mode = .passage)

/-! ## The correction request (R47) -/

/-- The step volume taken from or added to the volume, clamped to 0..capacity (R47). -/
def correctionTarget (p : Option Memory) (r : Recipe) (t v : Nat) : Nat :=
  match r.direction with
  | .discharge => min (v - r.volume) (tankCapacity p t)
  | .fill => min (v + r.volume) (tankCapacity p t)

/-- The entries of a correction, none when a tank is not defined or has no volume (R47 case 2). -/
def State.correctionEntries (s : State) (r : Recipe) : Option (List (Nat × Nat)) :=
  r.tanks.mapM fun t =>
    if tankDefined s.parts t then
      match (s.tank t).volume with
      | some v => some (t, correctionTarget s.parts r t v)
      | none => none
    else none

/-- A record in use has the source RECIPE of a slot (R47 case 1). -/
def State.recipeTransfer (s : State) (index : Nat) (sign : Sign) : Option Transfer :=
  s.transfers.records.find? fun t => decide (t.source = .recipe index sign)

/-- The Margin Monitor asks for the correction of a slot (R47). -/
def State.askCorrection (s : State) (index : Nat) (sign : Sign) : State :=
  if (s.recipeTransfer index sign).isSome then s
  else
    match recipeSlot s.parts index sign with
    | none => s.raise (.corrRefused index sign)
    | some r =>
      match s.correctionEntries r with
      | none => s.raise (.corrRefused index sign)
      | some es =>
        if !s.isNormal then s
        else if !s.modeAdmits then s.raise (.corrRefused index sign)
        else if s.tableFull then s.raise (.corrRefused index sign)
        else s.admitTransfer ⟨.correction, .pump, r.direction, es, .recipe index sign, some index, true⟩ true

end Sys2Proof.Machine
end

