-- ==== Sys2Proof/Machine/Evaluate.lean ====
section
/-! DEFINITION. The arithmetic of the condition (section 5.4): checked integer operations (R105), the input state
(R106), and the condition computed from a run's inputs (R107 to R110). -/

namespace Sys2Proof.Machine

/-! ## Checked arithmetic (R105): none is INDEFINITE -/

/-- The bound of every intermediate value. -/
def intermediateBound : Int := 2147483647

/-- A value within ±2,147,483,647. -/
def checked (x : Int) : Option Int := if x.natAbs ≤ intermediateBound.toNat then some x else none

/-- A product. -/
def mulC (a b : Option Int) : Option Int :=
  match a, b with
  | some x, some y => checked (x * y)
  | _, _ => none

/-- A sum. -/
def addC (a b : Option Int) : Option Int :=
  match a, b with
  | some x, some y => checked (x + y)
  | _, _ => none

/-- A difference. -/
def subC (a b : Option Int) : Option Int :=
  match a, b with
  | some x, some y => checked (x - y)
  | _, _ => none

/-- A quotient, truncated toward zero; INDEFINITE for a divisor 0. -/
def divC (a b : Option Int) : Option Int :=
  match a, b with
  | some x, some y => if y = 0 then none else checked (Int.tdiv x y)
  | _, _ => none

/-- A sum of terms, formed one term after another (log 8). -/
def sumC (start : Option Int) (terms : List (Option Int)) : Option Int := terms.foldl addC start

/-- A result within its range. -/
def within (lo hi : Int) (x : Option Int) : Option Int :=
  match x with
  | some v => if inRange lo hi v then some v else none
  | none => none

/-! ## Inputs -/

/-- The input state (R106): the first case that applies. -/
def RunInputs.state (r : RunInputs) : InputState :=
  if r.particulars.isNone then .particulars
  else
    match r.tanks.find? fun x => !x.known with
    | some x => .tank x.number
    | none =>
      match r.holds.find? fun x => !x.known with
      | some x => .hold x.number
      | none =>
        match r.items.find? fun x => !x.known with
        | some x => .item x.number
        | none => .complete

/-- A mass with what the particulars give it (section 5.4): the levers, and the addresses of its first shear and
bending coefficients. -/
structure MassTerm where
  mass : Option Int
  longitudinal : Int
  transverse : Int
  shearBase : Nat
  bendingBase : Nat
  deriving DecidableEq, Repr

/-- Each mass of a run (section 5.4), in the order tanks, holds, items, ascending (log 8). A prediction adds its tonnes
to its hold (R111). -/
def RunInputs.terms (r : RunInputs) : List MassTerm :=
  let w := pword r.particulars
  (r.tanks.map fun x =>
    let b := tankBase x.number
    ⟨some x.mass, w (b + 24), w (b + 25), b + 26, b + 42⟩) ++
  (r.holds.map fun x =>
    let b := holdBase x.number
    let mass := match r.extra with
      | some (h, tonnes) => if h = x.number then addC (some x.mass) (some tonnes) else some x.mass
      | none => some x.mass
    ⟨mass, w (b + 3), w (b + 4), b + 5, b + 21⟩) ++
  (r.items.map fun x =>
    let b := itemBase x.number
    ⟨some x.mass, w (b + 1), w (b + 2), b + 3, b + 19⟩)

/-! ## Quantities -/

/-- The displacement (R107). -/
def RunInputs.displacement (r : RunInputs) : Option Int :=
  within 0 2147483647 (sumC (some (pword r.particulars 6)) (r.terms.map fun x => x.mass))

/-- The mean draft (R107). -/
def RunInputs.meanDraft (r : RunInputs) : Option Int :=
  within 0 9999 (divC r.displacement (some (pword r.particulars 3)))

/-- The longitudinal moment M (R107). -/
def RunInputs.moment (r : RunInputs) : Option Int :=
  sumC (some (pword r.particulars 7)) (r.terms.map fun x => mulC x.mass (some x.longitudinal))

/-- The trim, −(M / (10 × MTC)) (R107). -/
def RunInputs.trim (r : RunInputs) : Option Int :=
  within (-9999) 9999 ((divC r.moment (mulC (some 10) (some (pword r.particulars 4)))).map fun x => -x)

/-- The draft at a longitudinal position (R107). -/
def RunInputs.draftAt (r : RunInputs) (x : Int) : Option Int :=
  within 0 9999 (subC r.meanDraft (divC (mulC r.trim (some x)) (some (pword r.particulars 2))))

/-- x_F: LBP / 2, truncated (R107). -/
def RunInputs.foreEnd (r : RunInputs) : Int := Int.tdiv (pword r.particulars 2) 2

/-- The list (R108). -/
def RunInputs.list (r : RunInputs) : Option Int :=
  within (-900) 900
    (divC (sumC (some 0) (r.terms.map fun x => mulC x.mass (some x.transverse))) (some (pword r.particulars 5)))

/-- A product divided by 1000 (R109). -/
def perMille (a : Option Int) (coefficient : Int) : Option Int := divC (mulC a (some coefficient)) (some 1000)

/-- The shear force at station `n` (R109). -/
def RunInputs.shearAt (r : RunInputs) (n : Nat) : Option Int :=
  let w := pword r.particulars
  within (-9999999) 9999999
    (subC
      (sumC (some (w (stationBase n + 10))) (r.terms.map fun x => perMille x.mass (w (x.shearBase + (n - 1)))))
      (perMille r.displacement (w (stationBase n + 12))))

/-- The bending moment at station `n` (R109). -/
def RunInputs.bendingAt (r : RunInputs) (n : Nat) : Option Int :=
  let w := pword r.particulars
  within (-99999999) 99999999
    (subC
      (sumC (some (w (stationBase n + 11))) (r.terms.map fun x => perMille x.mass (w (x.bendingBase + (n - 1)))))
      (perMille r.displacement (w (stationBase n + 13))))

/-- The berth record, while the tide is FRESH: what the clearances need (R110). -/
def RunInputs.alongside (r : RunInputs) : Option BerthRecord :=
  if r.tideState = .fresh then r.berth else none

/-- The under-keel clearance (R110). -/
def RunInputs.ukc (r : RunInputs) : Option Int :=
  match r.alongside, r.draftAt r.foreEnd, r.draftAt (-r.foreEnd) with
  | some b, some f, some a =>
    within (-9999) 9999 (subC (addC (some b.depth) (some r.tideHeight)) (some (max f a)))
  | _, _, _ => none

/-- The draft at a hold (R107). -/
def RunInputs.holdDraft (r : RunInputs) (h : Nat) : Option Int := r.draftAt (pword r.particulars (holdBase h + 1))

/-- The air clearance at a hold (R110). -/
def RunInputs.airAt (r : RunInputs) (h : Nat) : Option Int :=
  match r.alongside with
  | none => none
  | some b =>
    within (-9999) 9999
      (subC (subC (some b.boom) (some r.tideHeight))
        (subC (some (pword r.particulars (holdBase h + 2))) (r.holdDraft h)))

/-- Of two clearances with their holds, the least; the first when they are equal (R110). -/
def lesser (a b : Int × Nat) : Int × Nat := if b.1 < a.1 then b else a

/-- The least of the air clearances given, each with its hold in ascending order; INDEFINITE when any is, and when
there is no hold (R110). -/
def leastAir : List (Option Int × Nat) → Option (Int × Nat)
  | [] => none
  | [(a, h)] => a.map fun v => (v, h)
  | (a, h) :: rest =>
    match a, leastAir rest with
    | some v, some q => some (lesser (v, h) q)
    | _, _ => none

/-- A quantity of a run, INDEFINITE unless the input state is COMPLETE (R106). -/
def whenComplete (r : RunInputs) (x : Option Int) : Option Int := if r.state = .complete then x else none

/-- The condition that a run computes (R104, R106 to R110). -/
def RunInputs.compute (r : RunInputs) : Condition where
  stamp := r.stamp
  inputState := r.state
  displacement := whenComplete r r.displacement
  mean := whenComplete r r.meanDraft
  forward := whenComplete r (r.draftAt r.foreEnd)
  aft := whenComplete r (r.draftAt (-r.foreEnd))
  trim := whenComplete r r.trim
  list := whenComplete r r.list
  shear := Vector.ofFn fun i : Fin 16 =>
    if stationDefined r.particulars (i.val + 1) then whenComplete r (r.shearAt (i.val + 1)) else none
  bending := Vector.ofFn fun i : Fin 16 =>
    if stationDefined r.particulars (i.val + 1) then whenComplete r (r.bendingAt (i.val + 1)) else none
  ukc := whenComplete r r.ukc
  holdDraft := Vector.ofFn fun i : Fin 9 =>
    if holdDefined r.particulars (i.val + 1) then whenComplete r (r.holdDraft (i.val + 1)) else none
  holdAir := Vector.ofFn fun i : Fin 9 =>
    if holdDefined r.particulars (i.val + 1) then whenComplete r (r.airAt (i.val + 1)) else none
  least :=
    if r.state = .complete then leastAir (r.holds.map fun x => (r.airAt x.number, x.number)) else none
  tideState := r.tideState
  tideHeight := r.tideHeight

/-! ## Beginning a run (R103, R111) -/

/-- The inputs that a run takes at this event (R103). -/
def State.runInputs (s : State) (extra : Option (Nat × Int)) : RunInputs where
  stamp := s.cond.stamp
  particulars := s.parts
  tanks := (definedTanks s.parts).map fun t =>
    ⟨t, decide ((s.tank t).gauge ≠ .unread), (((s.tank t).mass).getD 0 : Nat)⟩
  holds := (definedHolds s.parts).map fun h => ⟨h, (s.holdRecord h).set, ((s.holdRecord h).mass : Nat)⟩
  items := (definedItems s.parts).map fun i => ⟨i, (s.itemRecord i).set, ((s.itemRecord i).mass : Nat)⟩
  berth := s.cond.berth
  tideState := s.cond.tide.state
  tideHeight := s.cond.tide.height
  extra := extra

/-- An evaluation run begins (R103). -/
def State.beginEvaluation (s : State) : State :=
  s.setCond { s.cond with evaluation := some (s.runInputs none) }

/-- The unit is busy (R102): an evaluation or a prediction run is in progress, a withdrawn one among them (log 14). -/
def State.condBusy (s : State) : Bool := s.cond.evaluation.isSome || s.cond.prediction.isSome

/-- A request for an evaluation (R102). -/
def State.requestEvaluation (s : State) : State :=
  if s.condBusy then s.setCond { s.cond with again := true } else s.beginEvaluation

/-- A mass-change event (R100): the stamp is incremented and an evaluation requested. -/
def State.massChange (s : State) : State :=
  (s.setCond { s.cond with stamp := s.cond.stamp + 1 }).requestEvaluation

/-- A prediction run of the held request begins (R111). -/
def State.beginPrediction (s : State) : State :=
  match s.cond.request with
  | none => s
  | some q =>
    s.setCond { s.cond with
      request := some { q with runs := q.runs + 1, running := true },
      prediction := some ⟨s.runInputs (some (q.hold, (q.tonnes : Nat))), false⟩ }

/-- The Pour Plan unit asks for a prediction (R111); a request held already is unchanged. -/
def State.askPrediction (s : State) (step hold tonnes : Nat) : State :=
  match s.cond.request with
  | some _ => s
  | none =>
    let held := s.setCond { s.cond with request := some ⟨step, hold, tonnes, 0, false⟩ }
    if s.condBusy then held else held.beginPrediction

/-- The Pour Plan unit withdraws its prediction request (R113). -/
def State.withdrawPrediction (s : State) : State :=
  match s.cond.request with
  | none => s
  | some q =>
    s.setCond { s.cond with
      request := none,
      prediction := if q.running then s.cond.prediction.map fun r => { r with withdrawn := true } else s.cond.prediction }

/-- The unit goes on after a run (R104 steps 4 and 5, R112 steps 1 and 2). -/
def State.nextRun (s : State) : State :=
  if s.cond.again then (s.setCond { s.cond with again := false }).beginEvaluation
  else
    match s.cond.request with
    | some q => if q.running then s else s.beginPrediction
    | none => s

end Sys2Proof.Machine
end

