-- ==== Sys2Proof/Machine/ShorePort.lean ====
section
/-! DEFINITION. The Shore Port's output (R136): the three slots, the transmit line buffer and the line in
transmission. -/

namespace Sys2Proof.Machine

/-- A line arises for a slot (R136): it replaces a line waiting there, in its place, or it is the newest. -/
def placeLine (slots : List (ShoreSlot × Line)) (k : ShoreSlot) (l : Line) : List (ShoreSlot × Line) :=
  if slots.any fun q => decide (q.1 = k) then slots.map fun q => if q.1 = k then (k, l) else q
  else slots ++ [(k, l)]

/-- The line that arose earliest moves into an empty buffer while the hold is clear (R136). -/
def ShorePort.fill (p : ShorePort) : ShorePort :=
  match p.buffer, p.hold, p.slots with
  | none, false, q :: rest => { p with buffer := some q, slots := rest }
  | _, _, _ => p

/-- The buffered line moves into transmission while no line is there and the hold is clear (R136). -/
def ShorePort.start (p : ShorePort) : ShorePort :=
  match p.tx, p.hold, p.buffer with
  | none, false, some q => { p with tx := some ⟨q.2, 0⟩, buffer := none }
  | _, _, _ => p

/-- Lines move on (R136): into the buffer, into transmission, and into the buffer that this emptied. -/
def ShorePort.pump (p : ShorePort) : ShorePort := p.fill.start.fill

/-- A line arises in a slot of the Shore Port (R136). -/
def State.shoreSend (s : State) (k : ShoreSlot) (l : Line) : State :=
  s.setShore ({ s.shore with slots := placeLine s.shore.slots k l }).pump

/-- The reply to the shore sequence in hand is placed (R135). -/
def State.shoreReply (s : State) (l : Line) : State :=
  (s.setShore { s.shore with rx := { s.shore.rx with inHand := none } }).shoreSend .reply l

/-- A pour message is placed in the state slot (R136). -/
def State.pourMessage (s : State) (m : PourMessage) (fields : List Field) : State :=
  s.shoreSend .state (.pour m fields)

end Sys2Proof.Machine
end

