-- ==== Sys2Proof/Machine/Pour.lean ====
section
/-! DEFINITION. The Pour Plan unit (chapter 7): readiness, pairing, the window, the freeing notice with what frees a
record, the end of a clearance, BLOCK, the halt and the release of held steps. -/

namespace Sys2Proof.Machine

/-- The remaining tonnes of a step (R138). -/
def PourStep.remaining (x : PourStep) : Nat := x.planned - x.tally

/-- The ids of the steps in the window, the head first (section 7.3). -/
def State.window (s : State) : List Nat := (s.pour.steps.take 2).map (·.id)

/-- A step is in the window. -/
def State.inWindow (s : State) (id : Nat) : Bool := s.window.any fun x => decide (x = id)

/-- The head of the plan. -/
def State.headStep (s : State) : Option PourStep := s.pour.steps.head?

/-- The head of the plan has an id. -/
def State.isHead (s : State) (id : Nat) : Bool := decide ((s.headStep).map (·.id) = some id)

/-! ## Readiness (R143) -/

/-- The term of a linked entry in the lead sum: what has left the tank since pairing, never below 0 (R143). -/
def State.leadTerm (s : State) (e : LinkedEntry) : Nat :=
  match e.volumeAt, (s.tank e.tank).volume with
  | some v, some now => v - now
  | _, _ => 0

/-- The lead of a step is met (R143). -/
def State.leadMet (s : State) (x : PourStep) : Bool :=
  decide (x.lead = 0) || decide (x.lead ≤ (x.links.map s.leadTerm).sum)

/-- A step in the window whose state is PLANNED becomes READY when its lead is met (R143). -/
def State.judgeReady (s : State) (id : Nat) : State :=
  match s.step? id with
  | none => s
  | some x =>
    if s.inWindow id && decide (x.state = .planned) && s.leadMet x then
      s.updStep id fun y => { y with state := .ready }
    else s

/-! ## Pairing (R141) -/

/-- A volume at pairing that is absent takes the tank's volume as it stands; where that is absent too it stays due (R141). -/
def LinkedEntry.take (e : LinkedEntry) (volume : Option Nat) : LinkedEntry :=
  if e.volumeAt.isNone then { e with volumeAt := volume, due := volume.isNone } else e

/-- The volumes at pairing of a step that is ADMITTED (R141). -/
def State.takeVolumes (s : State) (links : List LinkedEntry) : List LinkedEntry :=
  links.map fun e => e.take (s.tank e.tank).volume

/-- The Transfer Table admits a paired transfer for a step (R46): the common checks, and its tanks defined. -/
def State.pairingAdmitted (s : State) (x : PourStep) : Bool :=
  s.isNormal && decide (s.modes.mode = .berth) && (x.links.all fun e => tankDefined s.parts e.tank) && !s.tableFull

/-- The admission that a step asks for (R46). -/
def PourStep.admission (x : PourStep) : Admission :=
  ⟨.paired, .pump, .discharge, x.links.map fun e => (e.tank, e.target), .step x.id, none, true⟩

/-- A step is judged for pairing (R141), and for readiness when it was paired (R143). -/
def State.judgePairing (s : State) (scans : Bool) (id : Nat) : State :=
  match s.step? id with
  | none => s
  | some x =>
    if s.inWindow id && !x.links.isEmpty && decide (x.pairing = .unpaired) && s.pairingAdmitted x then
      let new := s.nextId
      ((s.updStep id fun y => { y with pairing := .running new, links := s.takeVolumes y.links }).admitTransfer x.admission
        scans).judgeReady id
    else s

/-- Every step in the window that waits is judged for pairing, the head first (R141). -/
def State.pairWindow (s : State) (scans : Bool) : State := s.window.foldl (fun s id => s.judgePairing scans id) s

/-- The window is judged afresh (R140). -/
def State.judgeWindow (s : State) : State :=
  let inside := s.window
  let s := s.setPour { s.pour with
    steps := s.pour.steps.map fun x =>
      if (inside.any fun i => decide (i = x.id)) || decide (x.state ≠ .ready) then x else { x with state := .planned } }
  let s := s.pairWindow true
  s.window.foldl State.judgeReady s

/-! ## The freeing of a record (R41, R63, R142) -/

/-- What a freeing notice makes of a pairing (R142). -/
def Pairing.freed (p : Pairing) (id : Nat) (o : TransferOutcome) : Pairing :=
  if p = .running id then
    match o with
    | .complete => .done id
    | .faulted => .unpaired
    | .halted => .unpaired
    | .relieved => p
    | .retired => p
  else p

/-- The freeing notice changes the pairing of its step (R142). -/
def State.noticeFreed (s : State) (id : Nat) (o : TransferOutcome) : State :=
  s.setPour { s.pour with steps := s.pour.steps.map fun x => { x with pairing := x.pairing.freed id o } }

/-- A transfer record is freed (R41): it is no longer in use, nor in the queue. -/
def State.freeRecord (s : State) (id : Nat) : State :=
  (s.setTransfers { s.transfers with records := s.transfers.records.filter fun t => decide (t.id ≠ id) }).dequeue id

/-- A record is freed outside the end of a stop: freeing, notice, pairing judgement (R63, R141, log 27). -/
def State.freeAndTell (s : State) (id : Nat) (o : TransferOutcome) : State :=
  ((s.freeRecord id).noticeFreed id o).pairWindow true

/-! ## Clearance and grant (R147 to R152) -/

/-- The clearance ends with a reply line; its prediction, if one is asked, is withdrawn (R147). -/
def State.endClearance (s : State) (l : Line) : State :=
  match s.pour.clearance with
  | none => s
  | some _ => ((s.setPour { s.pour with clearance := none }).withdrawPrediction).shoreReply l

/-- The HO message of a step with a cause (R136). -/
def hoFields (step : Nat) (cause : String) : List Field := [fnat step, .word cause]

/-- A clearance in progress ends with HO and a cause (R147). -/
def State.endClearanceHold (s : State) (cause : String) : State :=
  match s.pour.clearance with
  | none => s
  | some id => s.endClearance (.pour .HO (hoFields id cause))

/-- A step becomes HELD (R150, R151, R153): granted tonnes gone, HO in the state slot, STEP-HELD raised (R191). -/
def State.holdStep (s : State) (id : Nat) (cause : HoldCause) : State :=
  ((s.updStep id fun x => { x with state := .held, cause := some cause, granted := none }).pourMessage .HO
    (hoFields id cause.word)).raise (.stepHeld id)

/-- The grant timer stops. -/
def State.stopGrant (s : State) : State := s.setPour { s.pour with grantTimer := none }

/-- What BLOCK does to one step (R150). -/
def State.blockStep (s : State) (cause : HoldCause) (x : PourStep) : State :=
  match x.state with
  | .granted =>
    (((s.updStep x.id fun y => { y with state := .ready, granted := none }).stopGrant).pourMessage .HO
      (hoFields x.id cause.word))
  | .pouring => s.holdStep x.id cause
  | .planned => s
  | .ready => s
  | .held => s

/-- BLOCK is told (R150), cause LIMIT or INDET. -/
def State.block (s : State) (cause : HoldCause) : State :=
  (s.pour.steps.foldl (fun s x => s.blockStep cause x) s).endClearanceHold cause.word

/-- What the halt does to one step (R151). -/
def State.haltStep (s : State) (x : PourStep) : State :=
  match x.state with
  | .granted => s.stopGrant.holdStep x.id .halt
  | .pouring => s.holdStep x.id .halt
  | .planned => s
  | .ready => s
  | .held => s

/-- The halt stop reaches the Pour Plan unit (R151). -/
def State.haltPour (s : State) : State :=
  (s.pour.steps.foldl State.haltStep s).endClearanceHold "HALT"

/-! ## The blocking set (R127) -/

/-- States that block (R127). -/
def MarginState.blocks : MarginState → Bool
  | .limit => true
  | .breach => true
  | .indeterminate => true
  | .off => false
  | .clear => false
  | .caution => false

/-- States LIMIT and BREACH. -/
def MarginState.high : MarginState → Bool
  | .limit => true
  | .breach => true
  | .indeterminate => false
  | .off => false
  | .clear => false
  | .caution => false

/-- The indices 0..35. -/
def watchedIndices : List Nat := List.range 36

/-- The blocking set, ascending (R127). -/
def State.blockingSet (s : State) : List Nat := watchedIndices.filter fun i => (s.watched i).state.blocks

/-- The blocking reading (R127): LIMIT, INDET, or none for EMPTY. -/
def State.blockingReading (s : State) : Option HoldCause :=
  if s.blockingSet.any fun i => (s.watched i).state.high then some .limit
  else if s.blockingSet.isEmpty then none
  else some .indet

/-! ## Release (R152) -/

/-- A cause from which a HELD step is released. -/
def releasable (x : PourStep) : Bool :=
  decide (x.state = .held) && decide (x.cause ≠ some .overrun)

/-- A HELD step is released (R152). -/
def State.releaseStep (s : State) (x : PourStep) : State :=
  if releasable x then
    (s.updStep x.id fun y => { y with state := .ready, cause := none }).pourMessage .GO
      [fnat x.id, fnat x.remaining]
  else s

/-- Every HELD step is judged for release (R152). -/
def State.judgeRelease (s : State) : State :=
  if s.isNormal && decide (s.modes.mode = .berth) && s.blockingReading.isNone then
    s.pour.steps.foldl State.releaseStep s
  else s

/-! ## At a commit -/

/-- The volumes at pairing that are due are taken at the first commit that gives the tank a volume, whatever has become of
the pairing meanwhile (R141, log 31). -/
def State.commitVolumes (s : State) : State :=
  s.setPour { s.pour with
    steps := s.pour.steps.map fun x =>
      { x with links := x.links.map fun e => if e.due then e.take (s.tank e.tank).volume else e } }

/-- The Pour Plan unit takes a commit: volumes at pairing, then readiness (R141, R143). -/
def State.pourCommit (s : State) : State :=
  let s := s.commitVolumes
  s.window.foldl State.judgeReady s

end Sys2Proof.Machine
end

