-- ==== Sys2Proof/Machine/Reports.lean ====
section
/-! DEFINITION. The Report Composer (chapter 9): the lines of each section (R175 to R179), finding the next line
(R174), the departure conditions (R180), the footer and DR (R175, R156). -/

namespace Sys2Proof.Machine

/-! ## Lines -/

/-- The fields of a tank line (R175). -/
def State.tnkFields (s : State) (t : Nat) : List Field :=
  let x := s.tank t
  [fnat t, .word (sideWord (pword s.parts (tankBase t + 1))), fnat (tankCapacity s.parts t), fnat? x.volume,
    .word x.gauge.word, .word (s.motion t).word, .word x.origin.exchange.word, .word x.origin.window.word,
    fbit x.origin.more, fnat? x.origin.codes[0]?, fnat? x.origin.codes[1]?]

/-- The fields of the tank summary (R175). -/
def State.sumFields (s : State) : List Field :=
  let ts := (definedTanks s.parts).map s.tank
  [fnat ts.length, fnat ((ts.map fun x => x.volume.getD 0).sum),
    fnat (ts.filter fun x => x.volume.isNone).length,
    fnat (ts.filter fun x => decide (x.origin.exchange = .exchanged)).length,
    fnat (ts.filter fun x => x.origin.more).length]

/-- The record number of an input state (R104). -/
def InputState.record? : InputState → Option Nat
  | .tank n => some n
  | .hold n => some n
  | .item n => some n
  | .complete => none
  | .particulars => none

/-- A quantity of the published condition, absent when none has been published. -/
def State.shown (s : State) (f : Condition → Option Int) : Field := fint? (s.cond.published.bind f)

/-- The stamp of the published condition. -/
def State.publishedStamp (s : State) : Field := fstamp? (s.cond.published.map fun c => c.stamp)

/-- The hold giving the least air clearance. -/
def State.leastHold (s : State) : Field := fnat? (s.cond.published.bind fun c => c.least.map (·.2))

/-- The fields of the condition line (R175). -/
def State.cndFields (s : State) : List Field :=
  [s.publishedStamp, fword? (s.cond.published.map fun c => c.inputState.word),
    fnat? (s.cond.published.bind fun c => c.inputState.record?), s.shown fun c => c.displacement,
    s.shown fun c => c.mean, s.shown fun c => c.forward, s.shown fun c => c.aft, s.shown fun c => c.trim,
    s.shown fun c => c.list, s.shown fun c => c.ukc, s.shown fun c => c.least.map (·.1), s.leastHold]

/-- Value, percent, state and sign of a watched entry. -/
def WatchedEntry.fields (e : WatchedEntry) : List Field :=
  [fint? e.value, fnat? e.percent, .word e.state.word, .word e.sign.word]

/-- The fields of a station line (R175). -/
def State.stnFields (s : State) (n : Nat) : List Field :=
  [fstamp? s.margins.graded, fnat n] ++ (s.watched (2 * (n - 1))).fields ++ (s.watched (2 * (n - 1) + 1)).fields

/-- The fields of a ship quantity line (R175). -/
def State.shpFields (s : State) (i : Nat) : List Field :=
  [fstamp? s.margins.graded, fnat i, .word (quantityWord i)] ++ (s.watched i).fields

/-- The draft at a hold in the published condition. -/
def Condition.draftAtHold (c : Condition) (h : Nat) : Option Int := (c.holdDraft[h - 1]?).join
/-- The air clearance at a hold in the published condition. -/
def Condition.airAtHold (c : Condition) (h : Nat) : Option Int := (c.holdAir[h - 1]?).join

/-- A mass shown only when it is set. -/
def MassRecord.field (x : MassRecord) : Field := fwhen x.set (fnat x.mass)

/-- The fields of a hold line (R175, R177); the cargo mass is the record's even while nothing has been published (log 43). -/
def State.hldFields (s : State) (h : Nat) : List Field :=
  [s.publishedStamp, fnat h, (s.holdRecord h).field, s.shown fun c => c.draftAtHold h, s.shown fun c => c.airAtHold h]

/-- The fields of a fixed item line (R175). -/
def State.itmFields (s : State) (i : Nat) : List Field := [fnat i, (s.itemRecord i).field]

/-- The five fields of the berth record, empty while it is unset. -/
def berthFields : Option BerthRecord → List Field
  | some b => [fnat b.port, fnat b.depth, fnat b.boom, fnat b.minUkc, fnat b.minAir]
  | none => [.empty, .empty, .empty, .empty, .empty]

/-- The tide state, height and age as they stand (R114). -/
def State.tideFields (s : State) : List Field :=
  let t := s.cond.tide
  let set := decide (t.state ≠ .unset)
  [.word t.state.word, fwhen set (.num t.height), fwhen set (fnat (min 65535 (s.secondsSince t.since)))]

/-- The fields of the berth line (R175). -/
def State.brtFields (s : State) : List Field := berthFields s.cond.berth ++ s.tideFields

/-- The transfer id of a pairing. -/
def Pairing.transfer? : Pairing → Option Nat
  | .unpaired => none
  | .running id => some id
  | .done id => some id

/-- The fields of a step line (R175, R178). -/
def PourStep.fields (x : PourStep) (position : Nat) : List Field :=
  [fnat position, fnat x.id, fnat x.hold, fnat x.planned, fnat x.tally, fnat x.remaining, fnat x.lead,
    .word x.state.word, .word x.pairing.word, fnat? x.pairing.transfer?, fnat? x.granted,
    fword? (x.cause.map HoldCause.word)]

/-- The fields of the plan summary (R175). -/
def State.plnFields (s : State) : List Field :=
  [fnat s.pour.steps.length, fnat? ((s.headStep).map (·.id)), fnat ((s.pour.steps.map PourStep.remaining).sum)]

/-- The fields of the departure drafts line (R175). -/
def State.drfFields (s : State) : List Field :=
  [s.publishedStamp, s.shown fun c => c.displacement, s.shown fun c => c.forward, s.shown fun c => c.mean,
    s.shown fun c => c.aft, s.shown fun c => c.trim, s.shown fun c => c.list]

/-! ## Finding the next line (R174) -/

/-- The sections of a kind, in order (R176 to R179). -/
def ReportKind.sections : ReportKind → List Section
  | .declaration => [.tanks, .total]
  | .condition => [.condition, .stations, .ship, .holds, .items, .berth]
  | .plan => [.steps, .total]
  | .departure => [.drafts, .tanks, .total]

/-- The lowest number above a cursor. -/
def above (cursor : Nat) (ns : List Nat) : Option Nat := ns.find? fun n => decide (cursor < n)

/-- A section of one line: yielded at cursor 0, exhausted at cursor 1 (log 33). -/
def once (cursor : Nat) (tag : Tag) (fields : List Field) : Option (Nat × Line) :=
  if cursor = 0 then some (1, .report tag fields) else none

/-- The next line of a section above the cursor, with the new cursor; none when the section is exhausted (R176 to
R179). The TOTAL of a POUR PLAN is a PLN line, of the others a SUM line. -/
def State.sectionLine (s : State) (kind : ReportKind) (sect : Section) (cursor : Nat) : Option (Nat × Line) :=
  match sect with
  | .tanks => (above cursor (definedTanks s.parts)).map fun t => (t, .report .TNK (s.tnkFields t))
  | .total => if kind = .plan then once cursor .PLN s.plnFields else once cursor .SUM s.sumFields
  | .condition => once cursor .CND s.cndFields
  | .stations => (above cursor (definedStations s.parts)).map fun n => (n, .report .STN (s.stnFields n))
  | .ship => (above cursor [32, 33, 34, 35]).map fun i => (i, .report .SHP (s.shpFields i))
  | .holds => (above cursor (definedHolds s.parts)).map fun h => (h, .report .HLD (s.hldFields h))
  | .items => (above cursor (definedItems s.parts)).map fun i => (i, .report .ITM (s.itmFields i))
  | .berth => once cursor .BRT s.brtFields
  | .steps => (s.pour.steps[cursor]?).map fun x => (cursor + 1, .report .STP (x.fields (cursor + 1)))
  | .drafts => once cursor .DRF s.drfFields

/-- The next line among sections, the first from a cursor and the others from 0; none when the last is exhausted
(R174). -/
def State.findLine (s : State) (kind : ReportKind) : List Section → Nat → Option (Section × Nat × Line)
  | [], _ => none
  | sect :: rest, cursor =>
    match s.sectionLine kind sect cursor with
    | some (c, l) => some (sect, c, l)
    | none => s.findLine kind rest 0

/-! ## Composing -/

/-- The departure conditions (R180). -/
def State.departureHolds (s : State) : Bool :=
  s.pour.steps.isEmpty && s.transfers.records.isEmpty && allMovers.all fun m => decide ((s.mover m).phase = .idle)

/-- The composer state takes a value. -/
def State.setComposerState (s : State) (c : ComposerState) : State := s.setComposer { s.composer with state := c }

/-- The place code of the header (R175); empty in COMMISSION too (log 42). -/
def State.placeCode (s : State) : Option Nat :=
  match s.modes.mode with
  | .berth => s.cond.berth.map (·.port)
  | .passage => s.modes.location
  | .standby => none
  | .commission => none

/-- The ship code of the particulars in use; absent while they are marked invalid. -/
def State.shipCode (s : State) : Field := fint? (s.parts.map fun m => Memory.read m 0)

/-- The header is composed (R174, R175). -/
def State.composeHeader (s : State) (kind : ReportKind) : State × Line :=
  (s.setComposerState (.composing kind ((kind.sections).headD .total) 0 s.cond.stamp none),
    .report .HDR [.word kind.word, .word s.modes.mode.word, fnat? s.placeCode, s.shipCode, .word s.faults.state.word,
      fstamp s.cond.stamp])

/-- The outcome of a report (R175). -/
def reportOutcome (abort : Option AbortCause) (start stop : Stamp) : String :=
  if abort.isSome then "ABORTED" else if start = stop then "STEADY" else "MOVING"

/-- The fields of DR (R156): forward, mean and aft drafts, trim. -/
def State.drFields (s : State) : List Field :=
  [s.shown fun c => c.forward, s.shown fun c => c.mean, s.shown fun c => c.aft, s.shown fun c => c.trim]

/-- The footer is composed (R174, R175); a DEPARTURE report that completes places DR (R156, R180). -/
def State.composeFooter (s : State) (kind : ReportKind) (start : Stamp) (abort : Option AbortCause) : State × Line :=
  let line : Line := .report .END [fstamp start, fstamp s.cond.stamp, .word (reportOutcome abort start s.cond.stamp),
    fword? (abort.map AbortCause.word), fnat s.composer.body]
  let s := s.setComposerState .idle
  (if decide (kind = .departure) && abort.isNone then s.shoreSend .departure (.pour .DR s.drFields) else s, line)

/-- The abort cause at a composition: DEPART joins when a DEPARTURE report finds its conditions broken (R174, R180). -/
def State.abortNow (s : State) (kind : ReportKind) (abort : Option AbortCause) : Option AbortCause :=
  if decide (kind = .departure) && abort.isNone && !s.departureHolds then some .depart else abort

/-- A line after the header is composed (R174). -/
def State.composeBody (s : State) (kind : ReportKind) (sect : Section) (cursor : Nat) (start : Stamp)
    (abort : Option AbortCause) : State × Line :=
  let abort := s.abortNow kind abort
  if abort.isSome then s.composeFooter kind start abort
  else
    match s.findLine kind (kind.sections.dropWhile fun x => decide (x ≠ sect)) cursor with
    | some (sect', cursor', l) =>
      (s.setComposer ⟨.composing kind sect' cursor' start none, min 255 (s.composer.body + 1)⟩, l)
    | none => s.composeFooter kind start none

end Sys2Proof.Machine
end

