-- ==== Sys2Proof/Machine/ConsolePort.lean ====
section
/-! DEFINITION. The Console Port's output (R173, R189) and the taking of requests on both links (R135, R188, R190). -/

namespace Sys2Proof.Machine

/-! ## Transmitting (R173, R189) -/

/-- The console buffer takes a value. -/
def State.setConsoleBuffer (s : State) (b : Option QueuedLine) : State := s.setConsole { s.console with buffer := b }

/-- The oldest reply moves into the buffer, if there is one. -/
def ConsolePort.fillFromReplies (p : ConsolePort) : ConsolePort :=
  match p.replies with
  | [] => p
  | q :: rest => { p with buffer := some q, replies := rest }

/-- The buffer has emptied, `moved` having gone into transmission, and is filled by the composer state (R173). -/
def State.refill (s : State) (moved : QueuedLine) : State :=
  match s.composer.state with
  | .idle => s.setConsole s.console.fillFromReplies
  | .waiting kind =>
    if moved.isRp then
      let x := s.composeHeader kind
      x.1.setConsoleBuffer (some ⟨x.2, false⟩)
    else s.setConsole s.console.fillFromReplies
  | .composing kind sect cursor start abort =>
    let x := s.composeBody kind sect cursor start abort
    x.1.setConsoleBuffer (some ⟨x.2, false⟩)

/-- The buffered line moves into transmission when no line is there and the hold is clear, and the buffer is filled
again (R189, R173). -/
def State.startConsole (s : State) : State :=
  match s.console.tx, s.console.hold, s.console.buffer with
  | none, false, some q => (s.setConsole { s.console with tx := some ⟨q.line, 0⟩, buffer := none }).refill q
  | _, _, _ => s

/-- The composer leaves the buffer to the reply queue (R189): its state is NONE or WAITING. -/
def ComposerState.yields : ComposerState → Bool
  | .idle => true
  | .waiting _ => true
  | .composing _ _ _ _ _ => false

/-- A reply line joins the reply queue; it moves on at once into an empty buffer while the composer is NONE or WAITING
(R189). Its move into an idle transmitter, and with it the header behind the RP reply, is made in the same event: the model's
choice (log 45), since R189 names no event and section 9.9 shows the move as one of its own. -/
def State.joinReplies (s : State) (q : QueuedLine) : State :=
  let p := { s.console with replies := s.console.replies ++ [q] }
  let p := if p.buffer.isNone && s.composer.state.yields then p.fillFromReplies else p
  (s.setConsole p).startConsole

/-- The reply to the console sequence in hand is placed (R188, R189). -/
def State.consoleLine (s : State) (l : Line) : State :=
  (s.setConsole { s.console with rx := { s.console.rx with inHand := none } }).joinReplies ⟨l, false⟩

/-- The reply '=' of a verb, with its fields. -/
def State.reply (s : State) (v : Verb) (fields : List Field) : State := s.consoleLine (.reply v fields)

/-- The refusal of a verb on the console. -/
def State.refuse (s : State) (v : Verb) (c : RefCode) : State := s.consoleLine (refusalLine v c)

/-! ## Taking a request (log 4) -/

/-- What becomes of a request when it comes: not taken now, refused LOST, or taken. -/
inductive Turn
  | notTaken | lost | taken
  deriving DecidableEq, Repr

/-- The turn of a request against a sequence in hand: one in hand is the only one taken. -/
def turnOf (inHand : Option Sequence) (room gap : Bool) (v : Verb) (ps : List Int) : Turn :=
  match inHand with
  | some q => if q = ⟨v, ps⟩ then .taken else .notTaken
  | none => if room then (if gap then .lost else .taken) else .notTaken

/-- The console parser may take a character, apart from the queue and the sequence in hand (R188, R202, R206). -/
def State.consoleRoom (s : State) : Bool :=
  s.running && decide (s.console.replies.length < Config.replyCount) && s.particulars.writing.isNone &&
    s.modes.resetAsked.isNone

/-- The turn of a console request. -/
def State.consoleTurn (s : State) (v : Verb) (ps : List Int) : Turn :=
  if s.running && s.particulars.writing.isNone then turnOf s.console.rx.inHand s.consoleRoom s.console.rx.gap v ps
  else .notTaken

/-- A console request (R188, R190): refused LOST, refused by its first check that fails, or taken. -/
def State.consoleRequest (s : State) (v : Verb) (ps : List Int) (checks : List (Bool × RefCode))
    (take : State → State) : State :=
  match s.consoleTurn v ps with
  | .notTaken => s
  | .lost => (s.setConsole { s.console with rx := { s.console.rx with gap := false } }).refuse v .lost
  | .taken =>
    match firstRefusal checks with
    | some c => s.refuse v c
    | none => take s

/-- The shore parser is held until the reply line of the sequence before has left the buffer (R135). -/
def ShorePort.replyPending (p : ShorePort) : Bool :=
  (p.slots.any fun q => decide (q.1 = .reply)) || decide ((p.buffer.map (·.1)) = some .reply)

/-- The shore parser may take a character, apart from the queue and the sequence in hand (R135). -/
def State.shoreRoom (s : State) : Bool := s.running && !s.shore.replyPending && s.pour.clearance.isNone

/-- The turn of a shore request. -/
def State.shoreTurn (s : State) (v : Verb) (ps : List Int) : Turn :=
  if s.running && s.pour.clearance.isNone then turnOf s.shore.rx.inHand s.shoreRoom s.shore.rx.gap v ps else .notTaken

/-- The refusal of a verb on the shore link. -/
def State.shoreRefuse (s : State) (v : Verb) (c : RefCode) : State := s.shoreReply (refusalLine v c)

/-- A shore request (R135, R190). -/
def State.shoreRequest (s : State) (v : Verb) (ps : List Int) (checks : List (Bool × RefCode))
    (take : State → State) : State :=
  match s.shoreTurn v ps with
  | .notTaken => s
  | .lost => (s.setShore { s.shore with rx := { s.shore.rx with gap := false } }).shoreRefuse v .lost
  | .taken =>
    match firstRefusal checks with
    | some c => s.shoreRefuse v c
    | none => take s

end Sys2Proof.Machine
end

