-- ==== Sys2Proof/Machine/ConditionVerbs.lean ====
section
/-! DEFINITION. The condition verbs FW, BR, TD, KQ (sections 5.1, 5.6). -/

namespace Sys2Proof.Machine

/-! ## FW (R96) -/

/-- The checks of FW. -/
def fwChecks (s : State) (ps : List Int) : List (Bool × RefCode) :=
  [(decide (ps.length ≠ 2), .args), (!(inRange 1 8 (par ps 1) && inRange 0 99999 (par ps 2)), .range),
    (s.inRestart, .halt), (!itemDefined s.parts (parN ps 1), .none)]

/-- FW taken: the mass is set, and it is a mass-change event (R96, R100). -/
def State.takeFW (s : State) (ps : List Int) : State :=
  let s := (s.setItemRecord (parN ps 1) ⟨parN ps 2, true⟩).massChange
  s.reply .FW [fnat (parN ps 1), fnat (parN ps 2), fstamp s.cond.stamp]

/-- FW (R96). -/
def execFixedWeight (ps : List Int) (s : State) : Host.Outcome State Fault Refusal :=
  .next (s.consoleRequest .FW ps (fwChecks s ps) fun s => s.takeFW ps)

/-! ## BR (R98) -/

/-- A step is GRANTED or POURING. -/
def PourStep.pourOpen (x : PourStep) : Bool := decide (x.state = .granted) || decide (x.state = .pouring)

/-- Any step is GRANTED or POURING (R98, R198). -/
def State.pourActive (s : State) : Bool := s.pour.steps.any PourStep.pourOpen

/-- The checks of BR. -/
def brChecks (s : State) (ps : List Int) : List (Bool × RefCode) :=
  [(decide (ps.length ≠ 5), .args), (!(inRange 1 9999 (par ps 1) && (ps.drop 1).all (inRange 0 9999)), .range),
    (s.inRestart, .halt), (s.pourActive, .busy)]

/-- The berth record that BR gives (R98). -/
def berthOf (ps : List Int) : BerthRecord := ⟨parN ps 1, parN ps 2, parN ps 3, parN ps 4, parN ps 5⟩

/-- BR taken (R98). -/
def State.takeBR (s : State) (ps : List Int) : State :=
  let s := (s.setCond { s.cond with berth := some (berthOf ps) }).requestEvaluation
  s.reply .BR (berthFields (some (berthOf ps)))

/-- BR (R98). -/
def execBerthRecord (ps : List Int) (s : State) : Host.Outcome State Fault Refusal :=
  .next (s.consoleRequest .BR ps (brChecks s ps) fun s => s.takeBR ps)

/-! ## TD (R99) -/

/-- The checks of TD. -/
def tdChecks (s : State) (ps : List Int) : List (Bool × RefCode) :=
  [(decide (ps.length ≠ 1), .args), (!inRange (-999) 9999 (par ps 1), .range), (s.inRestart, .halt)]

/-- TD taken (R99). -/
def State.takeTD (s : State) (ps : List Int) : State :=
  let s := (s.setCond { s.cond with tide := ⟨.fresh, par ps 1, s.now⟩ }).requestEvaluation
  s.reply .TD [.num (par ps 1)]

/-- TD (R99). -/
def execTide (ps : List Int) (s : State) : Host.Outcome State Fault Refusal :=
  .next (s.consoleRequest .TD ps (tdChecks s ps) fun s => s.takeTD ps)

/-! ## KQ (R114, R115) -/

/-- The checks of KQ. -/
def kqChecks (s : State) (ps : List Int) : List (Bool × RefCode) :=
  [(decide (1 < ps.length), .args), (!inRange 0 3 (par ps 1), .range), (s.inRestart, .halt)]

/-- The prediction request's state, as a word. -/
def requestWord : Option PredictionRequest → String
  | none => "NONE"
  | some q => if q.running then "RUNNING" else "HELD"

/-- The evaluation state, as a word. -/
def ConditionUnit.evaluationWord (c : ConditionUnit) : String := if c.evaluation.isSome then "RUNNING" else "IDLE"

/-- The fields of KQ leaf 0 (R114). -/
def State.kqSummary (s : State) : List Field :=
  [s.publishedStamp, fstamp s.cond.stamp, .word s.cond.evaluationWord, fbit s.cond.again,
    .word (requestWord s.cond.request), fnat? (s.cond.request.map fun q => q.runs),
    fword? (s.cond.published.map fun c => c.inputState.word), fnat? (s.cond.published.bind fun c => c.inputState.record?),
    s.shown fun c => c.displacement, s.shown fun c => c.mean, s.shown fun c => c.forward, s.shown fun c => c.aft,
    s.shown fun c => c.trim, s.shown fun c => c.list, s.shown fun c => c.ukc, s.shown fun c => c.least.map (·.1),
    s.leastHold] ++ s.tideFields

/-- The fields of KQ leaf 1 (R115). -/
def State.kqStations (s : State) : List Field :=
  s.publishedStamp :: (List.range 16).flatMap fun k =>
    [s.shown fun c => (c.shear[k]?).join, s.shown fun c => (c.bending[k]?).join]

/-- The fields of KQ leaf 2 (R115). -/
def State.kqHolds (s : State) : List Field :=
  s.publishedStamp :: (numbers 9).flatMap fun h =>
    [s.shown fun c => c.draftAtHold h, s.shown fun c => c.airAtHold h]

/-- The fields of KQ leaf 3 (R115). -/
def State.kqInputs (s : State) : List Field :=
  (numbers 8).map (fun i => fwhen (itemDefined s.parts i) (s.itemRecord i).field) ++ berthFields s.cond.berth ++
    [.word (if s.cond.berth.isSome then "SET" else "UNSET")]

/-- The fields of a leaf of KQ. -/
def State.kqFields (s : State) (leaf : Int) : List Field :=
  if leaf = 1 then s.kqStations else if leaf = 2 then s.kqHolds else if leaf = 3 then s.kqInputs else s.kqSummary

/-- KQ (R114, R115). -/
def execConditionQuery (ps : List Int) (s : State) : Host.Outcome State Fault Refusal :=
  .next (s.consoleRequest .KQ ps (kqChecks s ps) fun s => s.reply .KQ (s.kqFields (par ps 1)))

end Sys2Proof.Machine
end

