-- ==== Sys2Proof/Machine/ConsoleVerbs.lean ====
section
/-! DEFINITION. The Console Port's own verbs ID, AQ, AK (sections 10.7, 10.8). -/

namespace Sys2Proof.Machine

/-! ## ID (R195) -/

/-- The checks of ID. -/
def idChecks (ps : List Int) : List (Bool × RefCode) :=
  [(decide (1 < ps.length), .args), (!inRange 0 2 (par ps 1), .range)]

/-- The fields of a leaf of ID (R195). -/
def State.idFields (s : State) (leaf : Int) : List Field :=
  if leaf = 1 then
    [.num 1, .word "PD-2416", .num 4] ++
      [Config.tankCount, Config.holdCount, Config.itemCount, Config.stationCount, Config.transferCount, Config.stepCount,
        3, Config.pointCount].map fnat
  else if leaf = 2 then
    [.num 2, s.shipCode, fint? (s.parts.map fun m => Memory.read m 1),
      fnat? (s.parts.map fun _ => s.particulars.storeChecksum)]
  else [.num 0, .num 2, .word "MERIGAL PANDREL"]

/-- ID (R195). -/
def execIdentify (ps : List Int) (s : State) : Host.Outcome State Fault Refusal :=
  .next (s.consoleRequest .ID ps (idChecks ps) fun s => s.reply .ID (s.idFields (par ps 1)))

/-! ## AQ (R193) -/

/-- The start position of AQ. -/
def aqStart (ps : List Int) : Nat := if ps.length = 0 then 1 else parN ps 1

/-- The checks of AQ. -/
def aqChecks (ps : List Int) : List (Bool × RefCode) :=
  [(decide (1 < ps.length), .args), (decide (ps.length = 1) && !inRange 1 64 (par ps 1), .range)]

/-- The fields of the AQ reply (R193). -/
def State.aqFields (s : State) (start : Nat) : List Field :=
  [fnat s.attention.code, fnat s.attention.items.length, fnat s.attention.overflow, fnat start] ++
    ((s.attention.items.drop (start - 1)).take 16).map Field.item

/-- AQ (R193). -/
def execAttentionQuery (ps : List Int) (s : State) : Host.Outcome State Fault Refusal :=
  .next (s.consoleRequest .AQ ps (aqChecks ps) fun s => s.reply .AQ (s.aqFields (aqStart ps)))

/-! ## AK (R194) -/

/-- An item by its kind code and object code, when the object lies in the kind's range (section 10.7). -/
def itemOf (kind object : Int) : Option Item :=
  let n := object.toNat
  let index := fun (f : Nat → Item) => if inRange 0 35 object then some (f n) else none
  let mover := fun (f : MoverId → Item) => if inRange 1 3 object then some (f (MoverId.ofParam object)) else none
  let bare := fun (i : Item) => if object = 0 then some i else none
  if kind = 1 then (if inRange 1 24 object then some (.gauge n) else none)
  else if kind = 2 then index .indet
  else if kind = 3 then index .caution
  else if kind = 4 then
    (if inRange 0 71 object then some (.corrRefused (n / 2) (if n % 2 = 0 then .plus else .minus)) else none)
  else if kind = 5 then (if inRange 1 255 object then some (.stripRefused n) else none)
  else if kind = 6 then (if inRange 0 63 object then some (.point n) else none)
  else if kind = 7 then bare .settingsDefaulted
  else if kind = 8 then bare .originsCleared
  else if kind = 9 then bare .tideStale
  else if kind = 21 then mover .ended
  else if kind = 22 then mover .moverFault
  else if kind = 41 then index .limit
  else if kind = 42 then (if inRange 1 999 object then some (.stepHeld n) else none)
  else if kind = 43 then bare .halt
  else if kind = 44 then bare .restarted
  else none

/-- The items that the pairs of AK name, none where a code is not in the table. -/
def akItems (ps : List Int) : List (Option Item) := (pairsFrom ps).map fun q => itemOf q.1 q.2

/-- No two equal values in a list. -/
def allDifferent {α : Type} [DecidableEq α] : List α → Bool
  | [] => true
  | x :: xs => !(xs.any fun y => decide (y = x)) && allDifferent xs

/-- The single value of AK is a class weight or 0 (R194). -/
def akSingleGood (x : Int) : Bool := [0, 1, 2, 4].any fun y => decide (x = y)

/-- The values of AK are good (R194). -/
def akValuesGood (ps : List Int) : Bool :=
  if ps.length = 1 then akSingleGood (par ps 1)
  else (akItems ps).all Option.isSome && allDifferent (akItems ps)

/-- Every item named by a pair is pending (R194). -/
def State.akPending (s : State) (ps : List Int) : Bool :=
  decide (ps.length = 1) || ((akItems ps).filterMap id).all s.attention.has

/-- The checks of AK (R194). -/
def akChecks (s : State) (ps : List Int) : List (Bool × RefCode) :=
  [(decide (ps.length = 0) || (decide (1 < ps.length) && decide (ps.length % 2 = 1)) || decide (16 < ps.length), .args),
    (!akValuesGood ps, .range), (s.inRestart, .halt), (!s.akPending ps, .none)]

/-- AK takes an item away (R194). -/
def akRemoves (ps : List Int) (i : Item) : Bool :=
  if ps.length = 1 then decide (par ps 1 = (i.weight : Int)) else (akItems ps).any fun x => decide (x = some i)

/-- The attention set after AK (R194). -/
def AttentionSet.acknowledge (a : AttentionSet) (ps : List Int) : AttentionSet :=
  ⟨a.items.filter fun i => !akRemoves ps i, if ps = [0] then 0 else a.overflow⟩

/-- AK taken (R194): the reply carries the attention code after the removal and how many items went. -/
def State.takeAK (s : State) (ps : List Int) : State :=
  let a := s.attention.acknowledge ps
  (s.setAttention a).reply .AK [fnat a.code, fnat (s.attention.items.length - a.items.length)]

/-- AK (R194). -/
def execAttentionAcknowledge (ps : List Int) (s : State) : Host.Outcome State Fault Refusal :=
  .next (s.consoleRequest .AK ps (akChecks s ps) fun s => s.takeAK ps)

end Sys2Proof.Machine
end

