-- ==== Sys2Proof/Machine/Parser.lean ====
section
/-! DEFINITION. Receiving characters (R185, R186) and the parser (R187, R188), for both links. -/

namespace Sys2Proof.Machine

/-! ## The receive side of a link -/

/-- The receive side of a link. -/
def State.rx (s : State) (l : Link) : ReceiveSide :=
  match l with
  | .console => s.console.rx
  | .shore => s.shore.rx

/-- The receive side of a link takes a value. -/
def State.setRx (s : State) (l : Link) (r : ReceiveSide) : State :=
  match l with
  | .console => s.setConsole { s.console with rx := r }
  | .shore => s.setShore { s.shore with rx := r }

/-- PAUSE, 0x13. -/
def pauseByte : Byte := 0x13#8
/-- RESUME, 0x11. -/
def resumeByte : Byte := 0x11#8

/-- In OPEN, a queue that has come to hold the PAUSE threshold sends PAUSE (R186). -/
def State.pauseIfFull (s : State) (l : Link) : State :=
  let r := s.rx l
  if !r.paused && decide (Config.pauseAt l ≤ r.queue.length) then
    (s.setRx l { r with paused := true }).send (.flow l true)
  else s

/-- In PAUSED, a queue that has come to hold the RESUME threshold or less sends RESUME (R186). -/
def State.resumeIfLow (s : State) (l : Link) : State :=
  let r := s.rx l
  if r.paused && decide (r.queue.length ≤ Config.resumeAt l) then
    (s.setRx l { r with paused := false }).send (.flow l false)
  else s

/-- A character joins the receive queue, or is dropped with the gap flag set when the queue is full (R185). -/
def State.queueCharacter (s : State) (l : Link) (c : Byte) : State :=
  let r := s.rx l
  if r.queue.length < Config.receiveCapacity l then (s.setRx l { r with queue := r.queue ++ [c] }).pauseIfFull l
  else s.setRx l { r with gap := true }

/-- The count of ten-thousandths of a character, rounded up to a whole character: the transmitter stops after the
character it is sending (R186, log 18). -/
def TxLine.toBoundary (t : TxLine) : TxLine :=
  { t with progress := min ((t.line.text.length - 1) * 10000) ((t.progress + 9999) / 10000 * 10000) }

/-- A PAUSE received: the transmit hold is set (R186, R136). -/
def State.holdLink (s : State) (l : Link) : State :=
  match l with
  | .console =>
    if s.console.hold then s else s.setConsole { s.console with hold := true, tx := s.console.tx.map TxLine.toBoundary }
  | .shore => s.setShore { s.shore with hold := true }

/-- A RESUME received: the transmit hold is cleared, and lines move on (R186, R189, R136). -/
def State.unholdLink (s : State) (l : Link) : State :=
  match l with
  | .console => (s.setConsole { s.console with hold := false }).startConsole
  | .shore => s.setShore ({ s.shore with hold := false }).pump

/-! ## Sequences (R187) -/

/-- A character 'A'..'Z'. -/
def isCapital (c : Byte) : Bool := decide (0x41 ≤ c.toNat) && decide (c.toNat ≤ 0x5A)
/-- The value of a decimal digit. -/
def digitOf (c : Byte) : Option Nat := if 0x30 ≤ c.toNat ∧ c.toNat ≤ 0x39 then some (c.toNat - 0x30) else none

/-- The value of a complete parameter (section 10.3). -/
def paramValue (negative : Bool) (digits : List Nat) : Int :=
  let n : Nat := digits.foldl (fun a d => 10 * a + d) 0
  if negative then -(n : Int) else n

/-- A termination (R187): malformed with the letters parsed, or a sequence of two letters and parameters. -/
inductive Ending
  | malformed (letters : Option (Byte × Byte))
  | complete (letters : Byte × Byte) (params : List Int)
  deriving DecidableEq, Repr

/-- The letters held in VERB, when there are two. -/
def twoLetters : List Byte → Option (Byte × Byte)
  | [a, b] => some (a, b)
  | _ => none

/-- The parser in VERB (R187). -/
def verbStep (letters : List Byte) (c : Byte) : Parser × Option Ending :=
  match twoLetters letters with
  | some p =>
    if c = charByte ',' then (.parameter p [] false [], none)
    else if c = charByte ';' then (.ground, some (.complete p []))
    else (.discard (some p), none)
  | none => if isCapital c && decide (letters.length < 2) then (.verb (letters ++ [c]), none) else (.discard none, none)

/-- The parser in PARAMETER (R187). -/
def paramStep (p : Byte × Byte) (params : List Int) (negative : Bool) (digits : List Nat) (c : Byte) :
    Parser × Option Ending :=
  if c = charByte '-' then
    (if !negative && digits.isEmpty then (.parameter p params true [], none) else (.discard (some p), none))
  else if c = charByte ',' then
    (if !digits.isEmpty && decide (params.length < 15) then
      (.parameter p (params ++ [paramValue negative digits]) false [], none)
    else (.discard (some p), none))
  else if c = charByte ';' then
    (if !digits.isEmpty then (.ground, some (.complete p (params ++ [paramValue negative digits])))
    else (.discard (some p), none))
  else
    match digitOf c with
    | some d =>
      if digits.length < 9 then (.parameter p params negative (digits ++ [d]), none) else (.discard (some p), none)
    | none => (.discard (some p), none)

/-- One character moves the parser by its state (R187). -/
def Parser.step (x : Parser) (c : Byte) : Parser × Option Ending :=
  match x with
  | .ground => if c = charByte '#' then (.verb [], none) else (.ground, none)
  | .verb letters => verbStep letters c
  | .parameter p params negative digits => paramStep p params negative digits c
  | .discard letters => if c = charByte ';' then (.ground, some (.malformed letters)) else (.discard letters, none)

/-! ## Termination (R188) -/

/-- The letters of a termination. -/
def Ending.letters : Ending → Option (Byte × Byte)
  | .malformed ls => ls
  | .complete p _ => some p

/-- A terminated sequence is judged (R188): the refusal of the port, or the sequence handed to its owner. -/
def judgeEnding (l : Link) (gap : Bool) (e : Ending) : RefCode ⊕ Sequence :=
  if gap then .inl .lost
  else
    match e with
    | .malformed _ => .inl .form
    | .complete p params =>
      match linkVerbOf l p with
      | some v => .inr ⟨v, params⟩
      | none => .inl .verb

/-- A refusal line of the port itself on a link. -/
def State.portRefusal (s : State) (l : Link) (line : Line) : State :=
  match l with
  | .console => s.consoleLine line
  | .shore => s.shoreReply line

/-- A termination on a link (R188): LOST clears the gap flag; a good sequence is in hand. -/
def State.terminate (s : State) (l : Link) (e : Ending) : State :=
  let r := s.rx l
  match judgeEnding l r.gap e with
  | .inl c => (s.setRx l { r with gap := false }).portRefusal l (.refusal e.letters c)
  | .inr q => s.setRx l { r with inHand := some q }

/-- The parser of a link may take a character (R188, R135). -/
def State.parserReady (s : State) (l : Link) : Bool :=
  (s.rx l).inHand.isNone &&
    match l with
    | .console => s.consoleRoom
    | .shore => s.shoreRoom

/-- The parser of a link takes the oldest queued character (R187). -/
def State.parseOne (s : State) (l : Link) : State :=
  if s.parserReady l then
    match (s.rx l).queue with
    | [] => s
    | c :: rest =>
      let x := (s.rx l).parser.step c
      let s := (s.setRx l { s.rx l with queue := rest, parser := x.1 }).resumeIfLow l
      match x.2 with
      | some e => s.terminate l e
      | none => s
  else s

end Sys2Proof.Machine
end

