-- ==== Sys2Proof/Machine/Faults.lean ====
section
/-! DEFINITION. The Fault Supervisor (chapter 8): the halt stop (R161, R65, R90, R151), class-1 causes (R160), class-2
causes and the fault stop they begin (R159, R87). -/

namespace Sys2Proof.Machine

/-! ## The halt stop -/

/-- The HALTED outcome of a run-slot transfer is recorded, and the run slot and the stack are emptied (R65). -/
def State.haltSlots (s : State) (m : MoverId) : State :=
  let x := s.mover m
  let last := match x.run with
    | some id => some (id, TransferOutcome.halted)
    | none => x.last
  s.setMover m { x with run := none, stack := [], last := last }

/-- Every transfer ends HALTED: claims released, table, queue, run slots and stacks emptied (R65). -/
def State.haltTransfers (s : State) : State :=
  let ids := s.transfers.records.map (·.id)
  let s := (numbers 24).foldl (fun s t => if (s.tank t).claim.isSome then s.releaseTank t else s) s
  let s := allMovers.foldl State.haltSlots s
  let s := s.setTransfers { s.transfers with records := [], queue := [] }
  ids.foldl (fun s id => s.noticeFreed id .halted) s

/-- A mover takes the halt stop (R90): STOPPING with reason HALT, stage VALVES; a FAULTED mover stays FAULTED. The
fault cause of a mover that is not FAULTED is cleared (R161). -/
def State.haltMover (s : State) (m : MoverId) : State :=
  let x := s.mover m
  match x.phase with
  | .faulted => s.setMover m { x with popping := false }
  | .stopping _ _ _ =>
    (s.setMover m { x with phase := .stopping .halt none .valves, popping := false, gaugeDue := false }).setMoverCause m
      none
  | _ =>
    (s.setMover m { x with
      phase := .stopping .halt none .valves, popping := false, timer := s.now, flow := none, gaugeDue := false }).setMoverCause
      m none

/-- The halt stop begins (R161). -/
def State.haltStop (s : State) : State :=
  let s := (s.setFaults { s.faults with state := .haltStopping }).writeAllOff.haltTransfers
  let s := (allMovers.foldl State.haltMover s).haltPour.raise .halt
  s.setFaults { s.faults with confirmation := some s.now }

/-! ## Causes -/

/-- A cause is a member of the cause set. -/
def FaultSupervisor.hasCause (f : FaultSupervisor) (c : Cause) : Bool := f.causes.any fun x => decide (x = c)

/-- A cause joins the cause set, in the order taken; one already there leaves it unchanged (R158). -/
def State.addCause (s : State) (c : Cause) : State :=
  if s.faults.hasCause c then s else s.setFaults { s.faults with causes := s.faults.causes ++ [c] }

/-- A class-1 cause is taken (R160). -/
def State.class1 (s : State) (c : Cause) : State :=
  match s.faults.state with
  | .normal => (s.setFaults { s.faults with causes := [c], first := some c }).haltStop
  | .haltStopping => if s.faults.hasCause c then s else (s.addCause c).raise .halt
  | .halt => if s.faults.hasCause c then s else (s.addCause c).raise .halt
  | .restart => s.addCause c

/-- A phase is STOPPING with reason FAULT. -/
def Phase.faultStopping : Phase → Bool
  | .stopping .fault _ _ => true
  | _ => false

/-- The stack of a mover is returned to pending, each transfer at the head of its class (R50, R87). -/
def State.returnStack (s : State) (m : MoverId) : State :=
  let ids := (s.mover m).stack
  ids.foldl State.enqueueReturned (s.setMover m { s.mover m with stack := [] })

/-- A fault stop begins (R87): STOPPING with reason FAULT, the reservation gone, the stack returned, a scan. -/
def State.faultStop (s : State) (m : MoverId) : State :=
  (((s.enterStop m .fault (some .faulted)).dropReservation m).returnStack m).scan

/-- A mover hands a class-2 cause (R159): a fault stop, or escalation while some mover is in one. -/
def State.class2 (s : State) (m : MoverId) (c : MoverCause) : State :=
  if allMovers.any fun k => (s.mover k).phase.faultStopping then s.class1 (.escalated m c)
  else ((s.setMoverCause m (some c)).raise (.moverFault m)).faultStop m

end Sys2Proof.Machine
end

