-- ==== Sys2Proof/Machine/Movers.lean ====
section
/-! DEFINITION. The movers at a commit (R78): fault causes (R86, R89), phase completions (R72, R73, R76), stop
completions (R81, R82, R88, R90), pops and resumes (R83, R84), progress and no-flow checks (R75, R77). -/

namespace Sys2Proof.Machine

/-! ## Popping and resuming (R83, R84) -/

/-- A transfer taken off the stack is resumed (R84). -/
def State.resume (s : State) (m : MoverId) (id : Nat) : State := (s.takeSlot m id).enterLining m

/-- The pops that follow a stop, at most `n` of them (a stack holds at most two) (R83). -/
def State.popTimes (n : Nat) (s : State) (m : MoverId) : State :=
  match n, (s.mover m).stack.reverse with
  | _, [] => (s.enterPhase m .idle).setMover m { (s.enterPhase m .idle).mover m with popping := false }
  | 0, _ :: _ => s
  | n + 1, id :: rest =>
    let s' := s.setMover m { s.mover m with stack := rest.reverse }
    let free := match s.transfer? id with
      | some t => t.remaining.all s.tankAvailable
      | none => false
    if free then s'.resume m id else State.popTimes n (s'.enqueueReturned id) m

/-- A mover whose run slot has emptied pops its stack (R83). -/
def State.pop (s : State) (m : MoverId) : State :=
  State.popTimes (s.mover m).stack.length (s.setMover m { s.mover m with popping := true }) m

/-! ## Stop completions -/

/-- The readings under which a stop with reason END, PREEMPT or FAULT completes (R81): the quiet reading, and every
claimed tank valve CLOSED. -/
def State.stopReadings (s : State) (m : MoverId) : Bool :=
  decide ((s.mover m).quiet = some true) &&
    match (s.mover m).run with
    | some id => (s.claimedFor id).all fun t => s.readsOff (tankValve s.parts t)
    | none => true

/-- The run slot empties and the claims are released (R57). -/
def State.leaveSlot (s : State) (m : MoverId) (id : Nat) : State :=
  (s.setMover m { s.mover m with run := none }).releaseClaims id

/-- An outcome is recorded in the last-outcome field (R41). -/
def State.recordOutcome (s : State) (m : MoverId) (id : Nat) (o : TransferOutcome) : State :=
  s.setMover m { s.mover m with last := some (id, o) }

/-- The entries whose written target lies below the tank's pump floor (R48). -/
def residueEntries (p : Option Memory) (t : Transfer) : List (Nat × Nat) :=
  (t.entries.filter fun e => decide (e.target < tankFloor p e.tank)).map fun e => (e.tank, e.target)

/-- The end of a transfer asks for its strip residue (R81): a PUMP DISCHARGE that ends COMPLETE. -/
def wantsStrip (t : Transfer) (o : TransferOutcome) : Bool :=
  decide (t.kind = .pump) && decide (t.direction = .discharge) && decide (o = .complete)

/-- The strip residue of a transfer is asked (R48), within the common checks of R44. -/
def State.askStrip (s : State) (t : Transfer) : State :=
  let es := residueEntries s.parts t
  if es.isEmpty || !s.isNormal || !s.modeAdmits then s
  else if s.tableFull then s.raise (.stripRefused t.id)
  else s.admitTransfer ⟨.planned, .strip, .discharge, es, .stripOf t.id, none, false⟩ true

/-- The pending transfer whose reservation names a mover. -/
def State.reservedFor (s : State) (m : MoverId) : Option Transfer :=
  s.transfers.records.find? fun t => decide (t.reservation = some m)

/-- The reservation on a mover is judged (R56 steps 3 and 4): the reserved transfer is assigned, or the reservation
lapses and the mover pops. Without a reservation the mover pops. -/
def State.judgeReservation (s : State) (m : MoverId) : State :=
  match s.reservedFor m with
  | none => s.pop m
  | some t => if t.remaining.all s.tankAvailable then s.assign m t.id else (s.dropReservation m).pop m

/-- The end of a stop with reason END (R81). -/
def State.completeEnd (s : State) (m : MoverId) (id : Nat) (o : TransferOutcome) : State :=
  let s := (s.recordOutcome m id o).raise (.ended m)
  let s := match s.transfer? id with
    | some t => if wantsStrip t o then s.askStrip t else s
    | none => s
  let s := ((s.freeRecord id).leaveSlot m id).noticeFreed id o
  ((s.judgeReservation m).pairWindow false).scan

/-- The end of a stop with reason PREEMPT (R82, R56): the transfer is saved on the stack. -/
def State.completePreempt (s : State) (m : MoverId) (id : Nat) : State :=
  let s := s.setMover m { s.mover m with stack := (s.mover m).stack ++ [id] }
  ((s.leaveSlot m id).judgeReservation m).scan

/-- The end of a stop with reason FAULT (R88). The release makes a scan of its own (R57, log 27). -/
def State.completeFault (s : State) (m : MoverId) (id : Nat) : State :=
  let s := s.recordOutcome m id .faulted
  let s := ((s.freeRecord id).leaveSlot m id).scan
  (((s.noticeFreed id .faulted).pairWindow true).enterPhase m .faulted).scan

/-- The completion check of a stop in stage VALVES (R81, R82, R88, R90). -/
def State.completeStop (s : State) (m : MoverId) (reason : StopReason) (outcome : Option TransferOutcome) : State :=
  match reason with
  | .halt => if (s.mover m).quiet = some true then (s.enterPhase m .idle).scan else s
  | .ended =>
    match (s.mover m).run with
    | some id => if s.stopReadings m then s.completeEnd m id (outcome.getD .complete) else s
    | none => s
  | .preempt =>
    match (s.mover m).run with
    | some id => if s.stopReadings m then s.completePreempt m id else s
    | none => s
  | .fault =>
    match (s.mover m).run with
    | some id => if s.stopReadings m then s.completeFault m id else s
    | none => s

/-- A stop at a commit (R80): stage PUMP ends when the RUN point is SETTLED, and the valves are written OFF; stage
VALVES ends as its reason says. One stage a commit (log 10). -/
def State.stopStep (s : State) (m : MoverId) (reason : StopReason) (outcome : Option TransferOutcome)
    (stage : StopStage) : State :=
  match stage with
  | .pump =>
    if s.runStopped m then
      (s.setMover m { s.mover m with phase := .stopping reason outcome .valves }).writePoints (s.stopValves m) false
    else s
  | .valves => s.completeStop m reason outcome

/-! ## RUNNING (R75, R77) -/

/-- The movement since the flow reference (R77); an absent volume has moved nothing. -/
def State.movement (s : State) (t : Transfer) (r : FlowReference) : Int :=
  match r.volume, (t.activeTank.bind fun k => (s.tank k).volume) with
  | some v, some now => match t.direction with
    | .discharge => (v : Int) - now
    | .fill => (now : Int) - v
  | _, _ => 0

/-- The no-flow check (R77). -/
def State.flowCheck (s : State) (m : MoverId) (t : Transfer) : State :=
  match (s.mover m).flow with
  | none => s
  | some r =>
    if 1 ≤ s.movement t r then s.takeFlow m
    else if r.time + Config.noFlowMs ≤ s.now then s.class2 m .noFlow
    else s

/-- The progress check (R75), and the no-flow check when the entry is not done. -/
def State.progressCheck (s : State) (m : MoverId) : State :=
  match s.runTransfer m with
  | none => s
  | some t =>
    match t.entries[t.active - 1]? with
    | none => s
    | some e =>
      if s.entryMet t e then
        let t' := t.markDone t.active
        let s := s.updTransfer t.id fun _ => t'
        match t'.nextAfter t.active with
        | some k => s.enterSwitching m t' k
        | none => s.enterStop m .ended (some .complete)
      else s.flowCheck m t

/-! ## Phase completions -/

/-- LINING at a commit (R72): STARTING when both valve steps are SETTLED ON. -/
def State.liningStep (s : State) (m : MoverId) : State :=
  match s.runTransfer m with
  | none => s
  | some t => if (s.lineUp m t).all fun a => s.settledAt a true then s.enterStarting m else s

/-- STARTING at a commit (R73): RUNNING when the RUN point is SETTLED ON. -/
def State.startingStep (s : State) (m : MoverId) : State :=
  if s.settledAt (runPoint s.parts m) true then s.enterRunning m else s

/-- SWITCHING at a commit (R76): back to RUNNING when the new tank's valve is SETTLED ON. -/
def State.switchingStep (s : State) (m : MoverId) (previous : Nat) : State :=
  match s.activeTank m with
  | none => s
  | some k => if s.settledAt (tankValve s.parts k) true then s.resumeRunning m previous else s

/-- What a mover does at a commit when no fault is taken (R78 steps 2 and 3): at most one phase completion, or the
RUNNING checks (log 10, log 11). -/
def State.moverStep (s : State) (m : MoverId) : State :=
  match (s.mover m).phase with
  | .idle => s
  | .faulted => s
  | .lining => s.liningStep m
  | .starting => s.startingStep m
  | .running => s.progressCheck m
  | .switching previous => s.switchingStep m previous
  | .stopping reason outcome stage => s.stopStep m reason outcome stage

/-! ## Fault causes (R78 step 1, R86, R89) -/

/-- A disagreement handed at a commit (R35): the point, its role, its command, its grade, whether the value is UNKNOWN. -/
structure Disagreement where
  address : Nat
  role : Role
  on : Bool
  grade : Agreement
  unknown : Bool
  deriving DecidableEq, Repr

/-- The fault cause of a disagreement with its order in the table of R86; none when the table names none. -/
def Disagreement.cause (d : Disagreement) : Option (Nat × MoverCause) :=
  match d.role.isRun, d.on, d.grade with
  | true, true, .overdue => some (2, .pumpNoStart)
  | true, true, .astray => some (3, .pumpStopped)
  | true, false, .overdue => if d.unknown then some (4, .pumpNoStart) else none
  | false, _, .overdue => some (5, .valveTimeout)
  | false, _, .astray => some (6, .valveAstray)
  | _, _, _ => none

/-- GAUGE-LOST is a fault in a phase (R89). -/
def Phase.gaugeFault : Phase → Bool
  | .lining => true
  | .starting => true
  | .running => true
  | .switching _ => true
  | .idle => false
  | .faulted => false
  | .stopping _ _ _ => false

/-- A disagreement on an owned point is a fault, or is handed on, in a phase (R89). -/
def Phase.pointFault : Phase → Bool
  | .lining => true
  | .starting => true
  | .running => true
  | .switching _ => true
  | .idle => false
  | .faulted => false
  | .stopping .halt _ _ => false
  | .stopping _ _ _ => true

/-- The cause with the least order (R78 step 1). -/
def firstCause : List (Nat × MoverCause) → Option (Nat × MoverCause)
  | [] => none
  | c :: rest =>
    match firstCause rest with
    | none => some c
    | some d => if d.1 < c.1 then some d else some c

/-- The first fault cause of a mover at a commit, in the order of the table of R86 (R78 step 1). -/
def faultCauseOf (ph : Phase) (gaugeLost : Bool) (ds : List Disagreement) : Option MoverCause :=
  if ph.gaugeFault && gaugeLost then some .gaugeLost
  else if ph.pointFault then (firstCause (ds.filterMap Disagreement.cause)).map (·.2)
  else none

/-- A mover takes a commit (R78). -/
def State.moverCommit (s : State) (m : MoverId) (gaugeLost : Bool) (ds : List Disagreement) : State :=
  match faultCauseOf (s.mover m).phase gaugeLost ds with
  | some c => s.class2 m c
  | none => s.moverStep m

end Sys2Proof.Machine
end

