-- ==== Sys2Proof/Machine/Tanks.lean ====
section
/-! DEFINITION. The Tank Table at a commit: gauge readings and their conversion (R2, R3), the gauge state (R4), the
GAUGE items and the hand-off (R5), the window rule (R14), the mass change (R6). -/

namespace Sys2Proof.Machine

/-- The volume between two breakpoints (R3 case 3). -/
def interpolate (r : Int) (a b : Int × Int) : Int := a.2 + Int.tdiv ((r - a.1) * (b.2 - a.2)) (b.1 - a.1)

/-- The result of the breakpoints after the first, `a` being the breakpoint before (R3 cases 2 and 3). -/
def convertFrom (r : Int) (a : Int × Int) : List (Int × Int) → Int
  | [] => a.2
  | b :: rest => if r < b.1 then interpolate r a b else convertFrom r b rest

/-- The result of a sounding table for a raw reading (R3). -/
def convertTable (r : Int) : List (Int × Int) → Int
  | [] => 0
  | a :: rest => if r ≤ a.1 then a.2 else convertFrom r a rest

/-- The volume of tank `t` for a raw reading, within 0..capacity (R3). -/
def convertRaw (p : Option Memory) (t : Nat) (raw : Nat) : Nat :=
  min (convertTable raw (soundingTable p t)).toNat (tankCapacity p t)

/-- The good reading of a tank at the commit, none when it is bad (R2). -/
def State.goodReading (s : State) (t : Nat) : Option Nat :=
  let x := s.scanned (tankGauge s.parts t)
  match x.value with
  | some v => if x.fresh && decide (v ≤ 4000) then some v else none
  | none => none

/-- The gauge state after a bad reading (R4). -/
def GaugeState.afterBad : GaugeState → GaugeState
  | .unread => .unread
  | .good => .suspect 1
  | .suspect k => if k < 4 then .suspect (k + 1) else .lost
  | .lost => .lost

/-- The live record after a reading (R4). -/
def TankLive.afterReading (x : TankLive) (volume : Option Nat) : TankLive :=
  match volume with
  | some v => { x with volume := some v, gauge := .good }
  | none => { x with gauge := x.gauge.afterBad }

/-- A move of the gauge state that raises NOTICE GAUGE (R5): GOOD to SUSPECT, SUSPECT to LOST. The second raises an item
that AK removed in SUSPECT anew, although R194 has it not return before GOOD is passed: the model's choice (log 46). -/
def gaugeNotice (before after : GaugeState) : Bool :=
  match before, after with
  | .good, .suspect _ => true
  | .suspect _, .lost => true
  | _, _ => false

/-- The commit lowered a volume (R14); a first volume is no lowering. -/
def lowered (before after : Option Nat) : Option Nat :=
  match before, after with
  | some a, some b => if b < a then some b else none
  | _, _ => none

/-- The window rule (R14) for a tank whose volume fell to `v`. -/
def State.windowRule (s : State) (t v : Nat) : State :=
  if decide (v ≤ tankResidue s.parts t) && s.inExchangeArea then
    s.setOrigin t { (s.tank t).origin with window := .emptiedAtSea }
  else s

/-- One tank takes the commit (R2 to R5, R14). -/
def State.convertTank (s : State) (t : Nat) : State :=
  let x := s.tank t
  let y := x.afterReading ((s.goodReading t).map (convertRaw s.parts t))
  let s := s.setTank t y
  let s := if gaugeNotice x.gauge y.gauge then s.raise (.gauge t) else s
  match lowered x.volume y.volume with
  | some v => s.windowRule t v
  | none => s

/-- The volumes of the defined tanks. -/
def State.volumes (s : State) : List (Option Nat) := (definedTanks s.parts).map fun t => (s.tank t).volume

/-- The Tank Table takes a commit: every defined tank, ascending by number, which is the order in which several tanks raise
their GAUGE items (the model's choice, log 9); then the mass-change event when a volume changed (R5, R6, R100). -/
def State.tanksCommit (s : State) : State :=
  let before := s.volumes
  let s := (definedTanks s.parts).foldl State.convertTank s
  if s.volumes = before then s else s.massChange

/-- GAUGE-LOST is handed to a mover at this commit (R5, R71, R76): its active tank, as it stood before the commit,
enters LOST, or the hand-off was due. -/
def State.gaugeLostHanded (before after : State) (m : MoverId) : Bool :=
  (before.mover m).gaugeDue ||
    match before.activeTank m with
    | some t => decide ((before.tank t).gauge ≠ .lost) && decide ((after.tank t).gauge = .lost)
    | none => false

end Sys2Proof.Machine
end

