-- ==== Sys2Proof/Machine/FieldLoop.lean ====
section
/-! DEFINITION. The Field Loop Controller (chapter 2): drive frames (R27, R38), reports (R29), the commit of a scan
(R30), grading and disagreements (R33 to R36), readings (R37), failed scans (R31). -/

namespace Sys2Proof.Machine

/-! ## Frames -/

/-- The frame sets the allowance start of each drive point that has none (R27). -/
def State.startAllowance (s : State) (a : Nat) : State :=
  let d := s.drive a
  if d.start.isNone then s.setDrive a { d with start := some s.now } else s

/-- A drive frame is sent: the 64 commands, allowance starts, an open window (R27, R38). -/
def State.sendFrame (s : State) (kind : FrameKind) (restart : Bool) : State :=
  let s := s.send (.frame kind (s.loop.drive.toList.map fun d => d.on))
  let s := (drivePoints s.parts).foldl (fun s q => s.startAllowance q.1) s
  s.setLoop { s.loop with window := some ⟨kind, none, s.now, restart⟩ }

/-- A restart frame is requested (R38). -/
def State.sendRestartFrame (s : State) : State :=
  (s.setLoop { s.loop with frameTimer := none, window := none, staging := [] }).sendFrame .full true

/-- A restart attempt begins (R166). -/
def State.beginAttempt (s : State) : State :=
  (s.setFaults { s.faults with attempts := min 65535 (s.faults.attempts + 1), attempt := some s.now }).sendRestartFrame

/-! ## Failed scans -/

/-- A regular scan fails (R31); the third failure in a row hands LOOP-LOST. -/
def State.failScan (s : State) : State :=
  let n := s.loop.failures
  let lost := decide (2 ≤ n)
  let entered := lost && decide (s.loop.state = .good)
  let s := s.setLoop { s.loop with
    staging := [], window := none, fullScan := true, failures := min 3 (n + 1),
    state := if lost then .lost else s.loop.state }
  if entered then s.class1 .loopLost else s

/-- The scan of a restart frame fails (R31, R38, R166): the full-scan flag is set as at every failed scan; the count and
the loop state stay as they were. -/
def State.failRestartScan (s : State) : State :=
  (s.setLoop { s.loop with staging := [], window := none, fullScan := true }).setFaults
    { s.faults with lastAttempt := some .failed }

/-- The scan of a window fails. -/
def State.failWindow (s : State) (w : ScanWindow) : State := if w.restart then s.failRestartScan else s.failScan

/-! ## The commit of a scan (R30) -/

/-- A staged value at an address. -/
def stagedAt (staging : List (Nat × Nat)) (a : Nat) : Option Nat :=
  (staging.find? fun q => decide (q.1 = a)).map (·.2)

/-- The scan image takes the staging image (R30 steps 1 to 3). -/
def FieldLoop.takeImage (l : FieldLoop) : FieldLoop :=
  { l with
    scan := Vector.ofFn fun i : Fin 64 =>
      match stagedAt l.staging i.val with
      | some v => ⟨some v, true⟩
      | none => ⟨(l.scan[i]).value, false⟩
    staging := [], window := none }

/-- The image is committed and a FULL window clears the full-scan flag; a regular scan also ends a loss, while a restart
scan leaves the count and the loop state (R30, R32, R38). -/
def State.takeScan (s : State) (w : ScanWindow) : State :=
  let l := s.loop.takeImage
  let l := { l with fullScan := if w.kind = .full then false else l.fullScan }
  if w.restart then s.setLoop l else s.setLoop { l with failures := 0, state := .good }

/-- The readings of the commit are kept (R37). -/
def State.takeReadings (s : State) : State :=
  let s := s.setLoop { s.loop with allOff := some s.allOffReading }
  allMovers.foldl (fun s m => s.setMover m { s.mover m with quiet := some (s.quietReading m) }) s

/-! ## Grading (R33 to R36) -/

/-- A mover in a phase owns its points (R34). -/
def Phase.owns : Phase → Bool
  | .idle => false
  | .faulted => false
  | .lining => true
  | .starting => true
  | .running => true
  | .switching _ => true
  | .stopping _ _ _ => true

/-- The owner of a drive point by its role (R34). -/
def State.ownerOf (s : State) (r : Role) : Option MoverId :=
  let own := fun m => if (s.mover m).phase.owns then some m else none
  match r with
  | .run m => own m
  | .overboard m => own m
  | .seaChest m => own m
  | .tankValve t =>
    match (s.tank t).claim with
    | some id => s.activeOn id
    | none => none
  | .gauge _ => none
  | .unused => none

/-- The point reads RUNNING (R36). -/
def State.readsRunning (s : State) (a : Nat) : Bool := decide ((s.scanned a).value = some 1)

/-- A disagreement handed at this commit, with its owner (R33, R34). -/
abbrev HandedPoint := Disagreement × Option MoverId

/-- One drive point is graded; a disagreement is added to those handed so far (R33). -/
def State.gradePoint (x : State × List HandedPoint) (q : Nat × Role) : State × List HandedPoint :=
  let s := x.1
  let a := q.1
  let d := s.drive a
  let g := grade d.agreement (s.agrees a) (s.expired a q.2)
  let s' := s.setDrive a { d with agreement := g.1 }
  if g.2 then
    (s', x.2 ++ [(⟨a, q.2, d.on, g.1, decide ((s.scanned a).value = none)⟩, s.ownerOf q.2)])
  else (s', x.2)

/-- Every drive point is graded, ascending (R33). -/
def State.gradePoints (s : State) : State × List HandedPoint := (drivePoints s.parts).foldl State.gradePoint (s, [])

/-- A disagreement without an owner raises NOTICE POINT; a RUN point commanded OFF that reads RUNNING goes to the Fault
Supervisor instead (R35, R36). -/
def State.noticePoint (s : State) (h : HandedPoint) : State :=
  let d := h.1
  if h.2.isNone && !(d.role.isRun && !d.on && s.readsRunning d.address) then s.raise (.point d.address) else s

/-- The disagreements handed to a mover (R35): those it owns, without a RUN point commanded OFF that reads RUNNING. -/
def State.handedTo (s : State) (m : MoverId) (hs : List HandedPoint) : List Disagreement :=
  (hs.filter fun h =>
    decide (h.2 = some m) && !(h.1.role.isRun && !h.1.on && s.readsRunning h.1.address)).map (·.1)

/-- The RUN points handed as PUMP-ASTRAY at this commit (R36). -/
def State.astrayPumps (s : State) : List Nat :=
  ((drivePoints s.parts).filter fun q =>
    q.2.isRun && !(s.drive q.1).on && decide ((s.drive q.1).agreement ≠ .awaiting) && s.readsRunning q.1).map (·.1)

/-! ## The readers of a commit -/

/-- The Fault Supervisor confirms the halt stop (R162). -/
def State.confirmHalt (s : State) : State :=
  if decide (s.faults.state = .haltStopping) && decide (s.loop.allOff = some true) then
    s.setFaults { s.faults with state := .halt, confirmation := none }
  else s

/-- The hand-offs of GAUGE-LOST that were due are made with this commit (R71, R76). -/
def State.clearGaugeDue (s : State) : State :=
  allMovers.foldl (fun s m => s.setMover m { s.mover m with gaugeDue := false }) s

/-- A regular commit (R30), its readers in the order of log 9. It confirms a halt stop that had begun before it (R162);
one that begins within it waits for a later commit, at which its movers end their stops too (log 9). -/
def State.commitScan (s : State) (w : ScanWindow) : State :=
  let graded := ((s.takeScan w).takeReadings).gradePoints
  let s0 := graded.1
  let hs := graded.2
  let pumps := s0.astrayPumps
  let s1 := (hs.foldl State.noticePoint s0).tanksCommit
  let s2 := allMovers.foldl (fun s m => s.moverCommit m (State.gaugeLostHanded s0 s1 m) (s1.handedTo m hs))
    s1.clearGaugeDue
  let s3 := pumps.foldl (fun s a => s.class1 (.pumpAstray a)) s2
  (if s.faults.state = .haltStopping then s3.confirmHalt else s3).pourCommit

/-! ## Reports (R29) -/

/-- A report is in order at an address 0..63 (R29). -/
def ScanWindow.inOrder (w : ScanWindow) (r : Role) (a v : Nat) : Bool :=
  decide (a ≤ 63) &&
    (match w.highest with
    | some h => decide (h < a)
    | none => true) &&
    r.mayReport v

/-- A point report in order is taken (R29). -/
def State.takeReport (s : State) (w : ScanWindow) (r : Role) (a v : Nat) : State :=
  let staging := if r = .unused then s.loop.staging else s.loop.staging ++ [(a, v)]
  s.setLoop { s.loop with staging := staging, window := some { w with highest := some a } }

end Sys2Proof.Machine
end

