-- ==== Sys2Proof/Machine/Margins.lean ====
section
/-! DEFINITION. The Margin Monitor (chapter 6): grading a publication (R119, R124, R125), its consequences (R126 to
R130, R64, R85), and judging a prediction (R131). -/

namespace Sys2Proof.Machine

/-! ## One entry -/

/-- The value of a watched index in a condition (section 6.1). -/
def Condition.valueOf (c : Condition) (i : Nat) : Option Int :=
  if i < 32 then
    (if i % 2 = 0 then (c.shear[i / 2]?).join else (c.bending[i / 2]?).join)
  else if i = 32 then c.trim
  else if i = 33 then c.list
  else if i = 34 then c.ukc
  else c.least.map (·.1)

/-- The order of the states CLEAR, CAUTION, LIMIT, BREACH; the others stand outside it (section 6.3). -/
def MarginState.level : MarginState → Nat
  | .clear => 0
  | .caution => 1
  | .limit => 2
  | .breach => 3
  | .off => 0
  | .indeterminate => 0

/-- CAUTION, LIMIT and BREACH. -/
def MarginState.raised : MarginState → Bool
  | .caution => true
  | .limit => true
  | .breach => true
  | .clear => false
  | .off => false
  | .indeterminate => false

/-- A state qualifies (R124): the percent is at or above its entry threshold, or the base state is at or above it and
the percent is above its release point. -/
def qualifies (base : MarginState) (p threshold level : Nat) : Bool :=
  decide (threshold ≤ p) || (decide (level ≤ base.level) && decide (threshold - 3 < p))

/-- The highest ordered state that qualifies (R123, R124); `caution` is the caution threshold. -/
def newState (base : MarginState) (caution p : Nat) : MarginState :=
  if qualifies base p 115 3 then .breach
  else if qualifies base p 100 2 then .limit
  else if qualifies base p caution 1 then .caution
  else .clear

/-- The sign of the value differs from the entry's while it stands at CAUTION or above (R124). -/
def reversed (old : WatchedEntry) (sign : Sign) : Bool := old.state.raised && decide (old.sign ≠ sign)

/-- The base state (R124). -/
def baseState (old : WatchedEntry) (sign : Sign) : MarginState :=
  if old.sign = sign then
    match old.state with
    | .off => .clear
    | .indeterminate => .clear
    | .clear => .clear
    | .caution => .caution
    | .limit => .limit
    | .breach => .breach
  else .clear

/-- An entry after a grading, with the move that the grading made (R125). -/
structure Graded where
  index : Nat
  before : MarginState
  after : WatchedEntry
  afresh : Bool
  deriving DecidableEq, Repr

/-- A grading that leaves the entry without a value, in state OFF or INDETERMINATE (R120, R124, R125). -/
def gradeWithout (i : Nat) (old : WatchedEntry) (st : MarginState) (stamp : Stamp) : Graded :=
  ⟨i, old.state, ⟨none, none, st, old.sign, if old.state = st then old.stamp else some stamp⟩, false⟩

/-- A grading with a value `v` of percent `p` (R124, R125). -/
def gradeWith (i : Nat) (old : WatchedEntry) (v : Int) (p caution : Nat) (stamp : Stamp) : Graded :=
  let sign := signOf i v
  let st := newState (baseState old sign) caution p
  let afresh := reversed old sign && st.raised
  ⟨i, old.state,
    ⟨some v, some p, st, if st.raised then sign else old.sign,
      if decide (old.state = st) && !afresh then old.stamp else some stamp⟩, afresh⟩

/-- The grading of one entry at a publication (R119, R124). -/
def State.gradeEntry (s : State) (c : Condition) (i : Nat) : Graded :=
  let old := s.watched i
  if entryGraded s.parts s.modes.mode i then
    match c.valueOf i with
    | none => gradeWithout i old .indeterminate c.stamp
    | some v =>
      let code := if i < 32 then s.settings.working.stationCaution else s.settings.working.shipCaution
      gradeWith i old v (percentOf s.parts s.modes.mode.limits s.cond.berth i v) (cautionThreshold code) c.stamp
  else gradeWithout i old .off c.stamp

/-- The entry entered its state (R125). -/
def Graded.entered (g : Graded) : Bool := decide (g.before ≠ g.after.state) || g.afresh

/-- The entry entered LIMIT, or BREACH without a grading at LIMIT between (R126); an entry at LIMIT or BREACH whose sign
reverses and that takes BREACH afresh is taken as an entry into LIMIT too (log 13). -/
def Graded.enteredLimit (g : Graded) : Bool :=
  g.entered &&
    match g.after.state with
    | .limit => true
    | .breach => decide (g.before ≠ .limit) || g.afresh
    | .off => false
    | .clear => false
    | .caution => false
    | .indeterminate => false

/-- The entry came into the blocking set, or entered LIMIT or BREACH afresh (R127). -/
def Graded.cameIn (g : Graded) : Bool :=
  g.after.state.blocks && (!g.before.blocks || (g.afresh && g.after.state.high))

/-! ## Consequences -/

/-- The attention item of a graded entry (R126). -/
def State.raiseGraded (s : State) (g : Graded) : State :=
  if g.enteredLimit then s.raise (.limit g.index)
  else if g.entered then
    match g.after.state with
    | .caution => s.raise (.caution g.index)
    | .indeterminate => s.raise (.indet g.index)
    | .off => s
    | .clear => s
    | .limit => s
    | .breach => s
  else s

/-- The one thing told to the Pour Plan unit (R127). -/
def State.tellBlocking (s : State) (gs : List Graded) : State :=
  let came := gs.filter Graded.cameIn
  if came.isEmpty then
    (if (gs.any fun g => g.before.blocks) && !(gs.any fun g => g.after.state.blocks) then s.judgeRelease else s)
  else if came.any fun g => g.after.state.high then s.block .limit
  else s.block .indet

/-- The recipes asked after a grading, ascending (R129). -/
def State.askGraded (s : State) (g : Graded) : State :=
  if g.enteredLimit then s.askCorrection g.index g.after.sign else s

/-- BREACH is handed to the Fault Supervisor (R130). -/
def State.handBreach (s : State) (g : Graded) : State :=
  if g.entered && decide (g.after.state = .breach) then s.class1 (.breach g.index) else s

/-- A pending CORRECTION whose stop index is CLEAR ends RELIEVED (R64). One that a scan before it has made ACTIVE is no
longer pending: its mover stops (R85). -/
def State.relievePending (s : State) (id : Nat) : State :=
  match s.transfer? id with
  | none => s
  | some t =>
    if (s.transfers.queue.any fun x => decide (x = id)) && decide (t.cls = .correction) && (match t.stopIndex with
      | some i => decide ((s.watched i).state = .clear)
      | none => false) then s.freeAndTell id .relieved
    else s

/-- A mover running a CORRECTION whose stop index is CLEAR stops with outcome RELIEVED (R85). -/
def State.relieveActive (s : State) (m : MoverId) : State :=
  match s.runTransfer m with
  | none => s
  | some t =>
    if decide (t.cls = .correction) && (match t.stopIndex with
      | some i => decide ((s.watched i).state = .clear)
      | none => false) then
      match (s.mover m).phase with
      | .stopping _ _ _ => s
      | .idle => s
      | .faulted => s
      | _ => s.enterStop m .ended (some .relieved)
    else s

/-- The entries and the stamp last graded take a grading. -/
def State.setGraded (s : State) (gs : Vector Graded 36) (stamp : Stamp) : State :=
  s.setMargins ⟨Vector.ofFn fun i : Fin 36 => (gs[i]).after, some stamp⟩

/-- A publication is graded, and its consequences follow in the order of log 12 (R119, R126 to R130, R64, R85). -/
def State.gradePublication (s : State) (c : Condition) : State :=
  let v : Vector Graded 36 := Vector.ofFn fun i : Fin 36 => s.gradeEntry c i.val
  let gs := v.toList
  let s := s.setGraded v c.stamp
  let s := gs.foldl State.raiseGraded s
  let s := s.tellBlocking gs
  let s := gs.foldl State.askGraded s
  let s := gs.foldl State.handBreach s
  let s := s.transfers.queue.foldl State.relievePending s
  allMovers.foldl State.relieveActive s

/-- The Margin Monitor asks again the recipe of every entry standing at LIMIT (R129, R164). -/
def State.retryCorrections (s : State) : State :=
  watchedIndices.foldl
    (fun s i => if (s.watched i).state = .limit then s.askCorrection i (s.watched i).sign else s) s

/-! ## Judging a prediction (R131) -/

/-- The first index that fails a prediction: one without a value, then one at 100 percent or more; none for PASS. The
minimum clearances are those of the berth record as it stands at the judgement, not those that the run read at its start:
the model's choice where a BR came during the run (log 44; R112 has the result handed with the record it read, R131 does
not say which one judges it). -/
def State.judgePrediction (s : State) (c : Condition) : Option Nat :=
  let graded := watchedIndices.filter fun i => entryGraded s.parts s.modes.mode i
  match graded.find? fun i => (c.valueOf i).isNone with
  | some i => some i
  | none =>
    graded.find? fun i =>
      match c.valueOf i with
      | some v => decide (100 ≤ percentOf s.parts s.modes.mode.limits s.cond.berth i v)
      | none => false

end Sys2Proof.Machine
end

