-- ==== Sys2Proof/Machine/Resets.lean ====
section
/-! DEFINITION. The non-volatile stores, the particulars commit taking effect (R202), the four kinds of reset (R205 to
R207), the start (R205) and the end of the restart sequence (R167). -/

namespace Sys2Proof.Machine

/-! ## Store writes -/

/-- A write of the origin store completes (R16): with the rewrite flag a new one begins, else the store is IDLE. -/
def State.completeOriginWrite (s : State) : State :=
  match s.tankTable.writing with
  | none => s
  | some copy =>
    s.setTankTable { s.tankTable with
      store := copy, storeGood := true, rewrite := false,
      writing := if s.tankTable.rewrite then some s.tankTable.origins else none }

/-- The write of the settings store completes (R204). -/
def State.completeSettingsSave (s : State) : State :=
  match s.settings.saving with
  | none => s
  | some record => s.setSettings { s.settings with store := record, storeGood := true, saving := none }

/-- A free value is used, and the counter advances (log 7). -/
def State.useFree (s : State) : State := s.setFreeCount (s.freeCount + 1)

/-- A write of the origin store is cut off (R17): the old entries, the new ones, or a checksum that does not match. -/
def State.cutOriginWrite (s : State) : State :=
  match s.tankTable.writing with
  | none => s
  | some copy =>
    let k := Config.cutWrite s.freeCount
    (s.setTankTable { s.tankTable with
      store := if k = 1 then copy else s.tankTable.store,
      storeGood := if k = 0 then s.tankTable.storeGood else decide (k = 1),
      writing := none, rewrite := false }).useFree

/-- A settings save is cut off (R204): the old record, the new one, or a checksum that does not match. -/
def State.cutSettingsSave (s : State) : State :=
  match s.settings.saving with
  | none => s
  | some record =>
    let k := Config.cutWrite s.freeCount
    (s.setSettings { s.settings with
      store := if k = 1 then record else s.settings.store,
      storeGood := if k = 0 then s.settings.storeGood else decide (k = 1),
      saving := none }).useFree

/-- A word within −999,999,999..999,999,999 (section 11.2). -/
def clampWord (x : Int) : Int := max (-999999999) (min 999999999 x)

/-- A block of words as read after a cut-off write whose checksum does not match (R205): each a free value. -/
def cutBlock (k : Nat) : Memory :=
  ((List.range Config.blockWords).map fun a => (a, clampWord (Config.cutWord k a))).filter fun q => decide (q.2 ≠ 0)

/-- A checksum that does not match a block (R202): the free value gives by how much. -/
def cutSum (k : Nat) (m : Memory) : Nat := (m.checksum + 1 + Config.cutChecksum k % 65535) % 65536

/-- A particulars write is cut off (R202): the old block, the new block, or a checksum that does not match. -/
def State.cutParticularsWrite (s : State) : State :=
  match s.particulars.writing with
  | none => s
  | some block =>
    let k := Config.cutWrite s.freeCount
    let p := { s.particulars with writing := none }
    (s.setParticulars
      (if k = 0 then p
      else if k = 1 then { p with store := block, storeChecksum := block.checksum, storeBlank := false }
      else
        let m := cutBlock s.freeCount
        { p with store := m, storeChecksum := cutSum s.freeCount m, storeBlank := false })).useFree

/-- Every write in progress is cut off by a loss of power (R17, R202, R204). -/
def State.cutWrites (s : State) : State := s.cutOriginWrite.cutSettingsSave.cutParticularsWrite

/-! ## A particulars commit takes effect (R202) -/

/-- A number is defined in both blocks, so that its record is kept (R19, R97, R137). -/
def keptNumber (defined : Option Memory → Nat → Bool) (old new : Option Memory) (n : Nat) : Bool :=
  defined old n && defined new n

/-- The Tank Table rebuilds its records, and clears the origins of numbers newly or no longer defined (R19). -/
def State.rebuildTanks (s : State) (old new : Option Memory) : State :=
  let s' := s.setTankTable { s.tankTable with
    tanks := Vector.ofFn fun i : Fin 24 =>
      if keptNumber tankDefined old new (i.val + 1) then s.tankTable.tanks[i]
      else if tankDefined old (i.val + 1) || tankDefined new (i.val + 1) then TankLive.blank
      else s.tankTable.tanks[i] }
  if (numbers 24).any fun t => decide (tankDefined old t ≠ tankDefined new t) then s'.originChanged else s'

/-- The Field Loop Controller compares the old and new role of each address (R23). -/
def State.rebuildRoles (s : State) (old new : Option Memory) : State :=
  let same := fun a => decide (roleOf old a = roleOf new a)
  s.setLoop { s.loop with
    scan := Vector.ofFn fun i : Fin 64 => if same i.val then s.loop.scan[i] else ⟨none, false⟩
    drive := Vector.ofFn fun i : Fin 64 => if same i.val then s.loop.drive[i] else ⟨false, .awaiting, none⟩
    fullScan := s.loop.fullScan || !((List.range 64).all same) }

/-- The fixed item records are rebuilt (R97). -/
def State.rebuildItems (s : State) (old new : Option Memory) : State :=
  s.setCond { s.cond with
    items := Vector.ofFn fun i : Fin 8 =>
      if keptNumber itemDefined old new (i.val + 1) then s.cond.items[i] else ⟨0, false⟩ }

/-- The hold records are rebuilt (R137). -/
def State.rebuildHolds (s : State) (old new : Option Memory) : State :=
  s.setPour { s.pour with
    holds := Vector.ofFn fun i : Fin 9 =>
      if keptNumber holdDefined old new (i.val + 1) then s.pour.holds[i] else ⟨0, false⟩ }

/-- The entries of stations that the new particulars do not define are OFF (R118, log 22). -/
def State.rebuildMargins (s : State) (new : Option Memory) : State :=
  s.setMargins { s.margins with
    entries := Vector.ofFn fun i : Fin 36 =>
      let e := s.margins.entries[i]
      if i.val < 32 ∧ stationDefined new (i.val / 2 + 1) = false then { e with value := none, percent := none, state := .off }
      else e }

/-- The commit takes effect (R202), its reply apart. -/
def State.commitBlock (s : State) (block : Memory) : State :=
  let old := s.parts
  let s := s.setParticulars { s.particulars with
    inUse := some block, store := block, storeChecksum := block.checksum, storeBlank := false, writing := none }
  ((((s.rebuildTanks old (some block)).rebuildRoles old (some block)).rebuildItems old (some block)).rebuildHolds old
    (some block)).rebuildMargins (some block) |>.massChange

/-- A particulars write in progress completes and takes effect before a reset acts (R202). -/
def State.completeParticulars (s : State) : State :=
  match s.particulars.writing with
  | none => s
  | some block => s.commitBlock block

/-- Every store write in progress completes, and the one called for by the rewrite flag (R17, R202, R204). -/
def State.completeWrites (s : State) : State :=
  s.completeParticulars.completeSettingsSave.completeOriginWrite.completeOriginWrite

/-! ## Volatile records (the reset tables of each chapter) -/

/-- The tanks as after a reset, each with the origin given for it (R22, R18). -/
def tanksFrom (origins : Vector OriginEntry 24) : Vector TankLive 24 :=
  Vector.ofFn fun i : Fin 24 => { TankLive.blank with origin := origins[i] }

/-- What every kind of reset clears (R22, R39, R69, R95, R117, R134, R157, R183, R196); the Fault Supervisor, Mode
Control, the stores and what a POWER reset clears beside these stand apart. -/
def State.clearVolatile (s : State) : State :=
  { s with
    tankTable := { s.tankTable with tanks := tanksFrom s.tankTable.store, writing := none, rewrite := false }
    loop := FieldLoop.blank
    transfers := ⟨[], [], 0⟩
    movers := Movers.blank s.now
    cond := { s.cond with
      stamp := 0, evaluation := none, again := false, request := none, prediction := none, published := none }
    pour := { s.pour with steps := [], clearance := none, grantTimer := none }
    margins := MarginMonitor.blank
    composer := ⟨.idle, 0⟩
    attention := ⟨[], 0⟩
    console := ConsolePort.blank s.console.rate
    shore := ShorePort.blank s.shore.rate }

/-- What only a POWER reset clears (R117, R157, R197): items, berth record, tide, holds, location code. -/
def State.clearPower (s : State) : State :=
  { s with
    cond := { s.cond with items := Vector.replicate 8 ⟨0, false⟩, berth := none, tide := ⟨.unset, 0, s.now⟩ }
    pour := { s.pour with holds := Vector.replicate 9 ⟨0, false⟩ }
    modes := { s.modes with location := none } }

/-- A POWER, LINE or COMMAND reset acts (R170, R206, R207): everything volatile is cleared, the cause record changes,
and the part stands as `condition` says until its start checks end. -/
def State.resetTo (s : State) (cause : ResetCause) (condition : RunCondition) : State :=
  { s.clearVolatile with
    faults := FaultSupervisor.blank
    particulars := { s.particulars with inUse := none, edit := none }
    modes := { s.modes with
      mode := .standby, exchangeArea := false, resetCause := cause, condition := condition, resetAsked := none } }

/-! ## The end of a start or of the restart sequence -/

/-- The watched entries as the reset ends, by the mode (R134). -/
def State.resetMargins (s : State) : State :=
  let graded := fun i => decide (i < 34) && entryGraded s.parts s.modes.mode i
  s.setMargins ⟨Vector.ofFn fun i : Fin 36 =>
    ⟨none, none, if graded i.val then .indeterminate else .off, if i.val < 34 then .plus else .minus, none⟩, none⟩

/-- A tide FRESH or STALE whose age has reached 900 s is STALE, and TIDE-STALE is raised (R117). -/
def State.judgeTide (s : State) : State :=
  let t := s.cond.tide
  if decide (t.state ≠ .unset) && decide (t.since + Config.tideStaleMs ≤ s.now) then
    (s.setCond { s.cond with tide := { t with state := .stale } }).raise .tideStale
  else s

/-- The common end of a start and of the restart sequence (R39, R101, R196): frame timer and first frame, FULL; an
evaluation; RESUME once on each link. -/
def State.endReset (s : State) : State :=
  let s := s.setLoop { s.loop with frameTimer := some (s.now + Config.frameMs) }
  let s := ((s.sendFrame .full false).setMovers (Movers.blank s.now)).requestEvaluation
  (s.send (.flow .console false)).send (.flow .shore false)

/-! ## Start (R205) -/

/-- Check 1, particulars. -/
def State.startParticulars (s : State) : State :=
  let p := s.particulars
  if !p.storeBlank && decide (p.store.checksum = p.storeChecksum) then
    s.setParticulars { p with inUse := some p.store, edit := none }
  else s.setParticulars { p with inUse := none, edit := some p.store }

/-- Check 2, settings. -/
def State.startSettings (s : State) : State :=
  if s.settings.storeGood then s.setSettings { s.settings with working := s.settings.store }
  else (s.setSettings { s.settings with working := Settings.defaults }).raise .settingsDefaulted

/-- Check 3, origins (R17): loaded, or cleared, written and ORIGINS-CLEARED raised. -/
def State.startOrigins (s : State) : State :=
  if s.tankTable.storeGood then s.setTankTable { s.tankTable with tanks := tanksFrom s.tankTable.store }
  else
    let blank := Vector.replicate 24 OriginEntry.blank
    (s.setTankTable { s.tankTable with tanks := tanksFrom blank, store := blank, storeGood := true }).raise
      .originsCleared

/-- Check 4, mode. -/
def State.startMode (s : State) : State :=
  s.setModes { s.modes with mode := if s.parts.isNone then .commission else .standby, exchangeArea := false }

/-- The start checks end (R205). -/
def State.endStart (s : State) : State :=
  let s := s.startParticulars.startSettings.startOrigins.startMode
  let s := s.setModes { s.modes with condition := .running }
  let s := s.setConsole { s.console with rate := s.settings.working.consoleRate }
  let s := s.setShore { s.shore with rate := s.settings.working.shoreRate }
  s.resetMargins.judgeTide.endReset

/-! ## The end of the restart sequence (R167) -/

/-- The working copy is reloaded from the settings store when its checksum matches (R207). -/
def State.reloadSettings (s : State) : State :=
  if s.settings.storeGood then s.setSettings { s.settings with working := s.settings.store } else s

/-- The restart sequence ends (R167). -/
def State.endRestart (s : State) : State :=
  let attempts := s.faults.attempts
  let last := s.faults.lastAttempt
  let s := s.completeWrites.clearVolatile
  let s := (s.setParticulars { s.particulars with edit := none }).reloadSettings
  let s := s.setModes { s.modes with
    mode := .standby, exchangeArea := false, resetCause := { s.modes.resetCause with restart := true } }
  let s := s.setFaults ⟨.halt, [.restarted], some .restarted, none, none, none, none, attempts, last, none⟩
  ((s.resetMargins.raise .restarted).raise .halt).judgeTide.endReset

/-! ## Restart scans (R38, R166) -/

/-- The scan of a restart frame completes: the sequence ends, or the next attempt waits for the attempt timer. -/
def State.commitRestartScan (s : State) (w : ScanWindow) : State :=
  let s := s.takeScan w
  let quiet := s.allOffReading
  let s := s.setLoop { s.loop with allOff := some quiet }
  if quiet then s.endRestart else s.setFaults { s.faults with lastAttempt := some .notQuiet }

/-- The end-of-scan report is taken in an open window (R30, R38). -/
def State.commitWindow (s : State) (w : ScanWindow) : State :=
  if w.restart then s.commitRestartScan w else s.commitScan w

end Sys2Proof.Machine
end

