-- ==== Sys2Proof/Machine/Events.lean ====
section
/-! DEFINITION. The events of the part: characters and lines of the links, the field loop, runs, timers, store writes,
and resets. An event that cannot happen in a state changes nothing there (log 3). -/

namespace Sys2Proof.Machine

/-! ## Links -/

/-- CHARACTER_RECEIVED (R184 to R186). -/
def execCharacterReceived (l : Link) (c : Byte) (stopValid : Bool) (s : State) : Host.Outcome State Fault Refusal :=
  let c := if stopValid then c else 0
  .next (if !s.running then s
    else if c = pauseByte then s.holdLink l
    else if c = resumeByte then s.unholdLink l
    else s.queueCharacter l c)

/-- PAUSE_RECEIVED (R186, R136). -/
def execPauseReceived (l : Link) (s : State) : Host.Outcome State Fault Refusal :=
  .next (if s.running then s.holdLink l else s)

/-- RESUME_RECEIVED (R186, R136). -/
def execResumeReceived (l : Link) (s : State) : Host.Outcome State Fault Refusal :=
  .next (if s.running then s.unholdLink l else s)

/-- PARSER_TAKES_CHARACTER (R187, R188). -/
def execParserTakesCharacter (l : Link) (s : State) : Host.Outcome State Fault Refusal := .next (s.parseOne l)

/-- The LF of the RS reply has been sent (R206). -/
def State.markReset (s : State) (l : Line) : State :=
  match s.modes.resetAsked with
  | some r =>
    if l = .reply .RS [] then s.setModes { s.modes with resetAsked := some { r with replySent := true } } else s
  | none => s

/-- The LF of the console line in transmission is sent (R173, R189); under the hold no line finishes (R186). -/
def State.lineDone (s : State) : State :=
  match s.console.tx, s.console.hold with
  | some t, false =>
    (((s.send (.line .console t.line)).setConsole { s.console with tx := none }).markReset t.line).startConsole
  | _, _ => s

/-- LINE_SENT (R173, R189). -/
def execLineSent (s : State) : Host.Outcome State Fault Refusal := .next s.lineDone

/-- The LF of the shore line in transmission is sent (R136); a hold lets it finish. -/
def State.shoreLineDone (s : State) : State :=
  match s.shore.tx with
  | some t => (s.send (.line .shore t.line)).setShore ({ s.shore with tx := none }).pump
  | none => s

/-- SHORE_LINE_SENT (R136). -/
def execShoreLineSent (s : State) : Host.Outcome State Fault Refusal := .next s.shoreLineDone

/-! ## Field loop -/

/-- The frame timer expires (R27): a window still open fails first (R31), then the frame goes out. -/
def State.frameExpiry (s : State) : State :=
  match s.loop.frameTimer with
  | none => s
  | some due =>
    let s := s.reach due
    let s := match s.loop.window with
      | some w => s.failWindow w
      | none => s
    let s := s.setLoop { s.loop with frameTimer := some (due + Config.frameMs) }
    s.sendFrame (if s.loop.fullScan then .full else .routine) false

/-- FRAME_TIMER_EXPIRY (R27). -/
def execFrameTimerExpiry (s : State) : Host.Outcome State Fault Refusal := .next s.frameExpiry

/-- The end-of-scan report is taken while the window is OPEN (R30). -/
def State.endOfScan (s : State) : State :=
  match s.loop.window with
  | some w => s.commitWindow w
  | none => s

/-- A point report (R29): at address 127 it is the end-of-scan report; out of order it fails the scan. -/
def State.report (s : State) (a v : Nat) : State :=
  match s.loop.window with
  | none => s
  | some w =>
    if a = 127 then s.commitWindow w
    else
      let r := roleOf s.parts a
      if w.inOrder r a v then s.takeReport w r a v else s.failWindow w

/-- POINT_REPORT (R29). -/
def execPointReport (addr : Byte) (value : BitVec 16) (s : State) : Host.Outcome State Fault Refusal :=
  .next (s.report addr.toNat value.toNat)

/-- END_OF_SCAN_REPORT (R30). -/
def execEndOfScanReport (s : State) : Host.Outcome State Fault Refusal := .next s.endOfScan

/-- The 250 ms limit ends with the window open (R28). -/
def State.scanLimit (s : State) : State :=
  match s.loop.window with
  | some w => (s.reach (w.sentAt + Config.scanLimitMs)).failWindow w
  | none => s

/-- SCAN_LIMIT_EXPIRY (R28). -/
def execScanLimitExpiry (s : State) : Host.Outcome State Fault Refusal := .next s.scanLimit

/-! ## Runs -/

/-- An evaluation run completes (R104). -/
def State.evaluationDone (s : State) : State :=
  match s.cond.evaluation with
  | none => s
  | some r =>
    let c := r.compute
    let s := (s.setCond { s.cond with published := some c }).gradePublication c
    (s.setCond { s.cond with evaluation := none }).nextRun

/-- EVALUATION_COMPLETES (R104). -/
def execEvaluationCompletes (s : State) : Host.Outcome State Fault Refusal := .next s.evaluationDone

/-- The tolerance of a grant: 2 percent, truncated, or 20 t when the 2 percent are less (R147, section 7.12: "4800 × 2 /
100 = 96, above 20"; log 40). -/
def tolerance (granted : Nat) : Nat := max 20 (granted * 2 / 100)

/-- A grant (R147): GRANTED, granted tonnes, ceiling, grant timer, GR as the reply. -/
def State.grant (s : State) (x : PourStep) : State :=
  let g := x.remaining
  let s := s.updStep x.id fun y => { y with state := .granted, granted := some g, ceiling := some (y.tally + g + tolerance g) }
  (s.setPour { s.pour with grantTimer := some s.now }).endClearance (.pour .GR [fnat x.id, fnat g])

/-- A SETTLED prediction reaches the Pour Plan unit (R147, R131). -/
def State.settled (s : State) (c : Condition) : State :=
  match s.pour.clearance with
  | none => s
  | some id =>
    match s.judgePrediction c with
    | some i => s.endClearance (.pour .HO [fnat id, .word "PREDICT", fnat i])
    | none =>
      match s.step? id with
      | some x => s.grant x
      | none => s

/-- The comparison of a prediction run with the stamp now (R112). -/
def State.judgeRun (s : State) (q : PredictionRequest) (r : RunInputs) : State :=
  if r.stamp = s.cond.stamp then (s.setCond { s.cond with request := none }).settled r.compute
  else if q.runs < 3 then s.setCond { s.cond with request := some { q with running := false } }
  else (s.setCond { s.cond with request := none }).endClearanceHold "UNSETTLED"

/-- A prediction run completes (R112, R113). -/
def State.predictionDone (s : State) : State :=
  match s.cond.prediction with
  | none => s
  | some run =>
    let s := s.setCond { s.cond with prediction := none }
    let s := if run.withdrawn then s
      else match s.cond.request with
        | some q => s.judgeRun q run.inputs
        | none => s
    s.nextRun

/-- PREDICTION_COMPLETES (R112). -/
def execPredictionCompletes (s : State) : Host.Outcome State Fault Refusal := .next s.predictionDone

/-! ## Timers -/

/-- The tide age reaches 900 s with the tide FRESH (R99). -/
def State.tideExpires (s : State) : State :=
  let t := s.cond.tide
  if s.running && decide (t.state = .fresh) then
    let s := s.reach (t.since + Config.tideStaleMs)
    ((s.setCond { s.cond with tide := { t with state := .stale } }).raise .tideStale).requestEvaluation
  else s

/-- TIDE_EXPIRY (R99). -/
def execTideExpiry (s : State) : Host.Outcome State Fault Refusal := .next s.tideExpires

/-- The grant of a step expires (R148). -/
def State.expireGrant (s : State) (x : PourStep) : State :=
  if x.state = .granted then
    (s.updStep x.id fun y => { y with state := .ready, granted := none }).pourMessage .EX [fnat x.id]
  else s

/-- The grant timer expires (R148). -/
def State.grantExpires (s : State) : State :=
  match s.pour.grantTimer with
  | none => s
  | some t =>
    let s := (s.reach (t + Config.grantMs)).stopGrant
    s.pour.steps.foldl State.expireGrant s

/-- GRANT_TIMER_EXPIRY (R148). -/
def execGrantTimerExpiry (s : State) : Host.Outcome State Fault Refusal := .next s.grantExpires

/-- The restart sequence begins (R165). -/
def State.beginRestart (s : State) : State :=
  (s.setFaults { s.faults with
    state := .restart, attempts := 0, lastAttempt := none, confirmation := none }).beginAttempt

/-- The confirmation timer expires in HALT-STOPPING (R162, R165). -/
def State.confirmationExpires (s : State) : State :=
  match s.faults.confirmation, s.faults.state with
  | some t, .haltStopping => (s.reach (t + Config.confirmMs)).beginRestart
  | _, _ => s

/-- CONFIRMATION_TIMER_EXPIRY (R165). -/
def execConfirmationTimerExpiry (s : State) : Host.Outcome State Fault Refusal := .next s.confirmationExpires

/-- The attempt timer expires in RESTART (R166). -/
def State.attemptExpires (s : State) : State :=
  match s.faults.attempt, s.faults.state with
  | some t, .restart => (s.reach (t + Config.attemptMs)).beginAttempt
  | _, _ => s

/-- ATTEMPT_TIMER_EXPIRY (R166). -/
def execAttemptTimerExpiry (s : State) : Host.Outcome State Fault Refusal := .next s.attemptExpires

/-! ## Store writes -/

/-- ORIGIN_STORE_WRITE_COMPLETE (R16). -/
def execOriginStoreWriteComplete (s : State) : Host.Outcome State Fault Refusal := .next s.completeOriginWrite

/-- The commit takes effect, with its reply (R202). -/
def State.commitEffect (s : State) : State :=
  match s.particulars.writing with
  | none => s
  | some block => (s.commitBlock block).reply .PK [.word "COMMITTED", fnat block.checksum]

/-- PARTICULARS_COMMIT_TAKES_EFFECT (R202). -/
def execParticularsCommitTakesEffect (s : State) : Host.Outcome State Fault Refusal := .next s.commitEffect

/-- SETTINGS_SAVE_COMPLETE (R204). -/
def execSettingsSaveComplete (s : State) : Host.Outcome State Fault Refusal := .next s.completeSettingsSave

/-! ## Resets -/

/-- A POWER reset (R206): writes still in progress are cut off; the cause record holds POWER only. -/
def State.powerUp (s : State) : State :=
  (s.cutWrites.resetTo ⟨true, false, false, false⟩ .startChecks).clearPower

/-- POWER_RESET (R206). -/
def execPowerReset (s : State) : Host.Outcome State Fault Refusal := .next s.powerUp

/-- A LINE reset (R206): writes in progress complete first; the part stays in reset until RESET_RELEASE. -/
def State.lineDown (s : State) : State :=
  if s.modes.condition = .unpowered then s
  else s.completeWrites.resetTo { s.modes.resetCause with line := true } .inReset

/-- LINE_RESET (R206). -/
def execLineReset (s : State) : Host.Outcome State Fault Refusal := .next s.lineDown

/-- A COMMAND reset (R206): once the RS reply has been sent, or 2 s after RS. -/
def State.commandResets (s : State) : State :=
  match s.modes.resetAsked with
  | none => s
  | some r =>
    let s := if r.replySent then s else s.reach (r.since + Config.commandResetMs)
    s.completeWrites.resetTo { s.modes.resetCause with command := true } .startChecks

/-- COMMAND_RESET (R206). -/
def execCommandReset (s : State) : Host.Outcome State Fault Refusal := .next s.commandResets

/-- START (R205). -/
def execStart (s : State) : Host.Outcome State Fault Refusal :=
  .next (if s.modes.condition = .startChecks then s.endStart else s)

/-- A loss of power (section 11.7): writes in progress are cut off, and nothing volatile is left. -/
def State.powerDown (s : State) : State :=
  if s.modes.condition = .unpowered then s else s.cutWrites.resetTo s.modes.resetCause .unpowered

/-- LOSS_OF_POWER (section 11.7). -/
def execLossOfPower (s : State) : Host.Outcome State Fault Refusal := .next s.powerDown

/-- RESET_RELEASE (R205): the start checks begin. -/
def execResetRelease (s : State) : Host.Outcome State Fault Refusal :=
  .next (if s.modes.condition = .inReset then s.setModes { s.modes with condition := .startChecks } else s)

end Sys2Proof.Machine
end

