-- ==== Sys2Proof/Machine/FaultVerbs.lean ====
section
/-! DEFINITION. The fault verbs FQ and FA (sections 8.3, 8.5). -/

namespace Sys2Proof.Machine

/-- The checks of FQ. -/
def fqChecks (ps : List Int) : List (Bool × RefCode) := [(decide (ps.length ≠ 0), .args)]

/-- A cause as a field. -/
def fcause? : Option Cause → Field
  | some c => .cause c
  | none => .empty

/-- The fields of the FQ reply (R169). -/
def State.fqFields (s : State) : List Field :=
  let f := s.faults
  [.word f.state.word, fcause? f.first, fnat f.causes.length, fnat? (f.confirmation.map s.secondsSince),
    fwhen (decide (0 < f.attempts)) (fnat f.attempts), fword? (f.lastAttempt.map AttemptOutcome.word),
    .word s.loop.state.word, fnat s.loop.failures, fbit? s.loop.allOff, fword? (f.cause1.map MoverCause.word),
    fword? (f.cause2.map MoverCause.word), fword? (f.cause3.map MoverCause.word)] ++ f.causes.map Field.cause

/-- FQ (R169). -/
def execFaultQuery (ps : List Int) (s : State) : Host.Outcome State Fault Refusal :=
  .next (s.consoleRequest .FQ ps (fqChecks ps) fun s => s.reply .FQ s.fqFields)

/-- The fault state is NORMAL or HALT-STOPPING (R164). -/
def State.notHalted (s : State) : Bool := s.isNormal || decide (s.faults.state = .haltStopping)

/-- Any watched entry stands at BREACH (R164). -/
def State.breached (s : State) : Bool := watchedIndices.any fun i => decide ((s.watched i).state = .breach)

/-- The checks of FA (R164). -/
def faChecks (s : State) (ps : List Int) : List (Bool × RefCode) :=
  [(decide (ps.length ≠ 0), .args), (s.inRestart, .halt), (s.notHalted, .state), (s.breached, .state),
    (decide (s.loop.state = .lost), .state), (s.attention.has .restarted, .state)]

/-- The fault state is left (R164 step 1): causes, first cause and restart attempts gone (log 26). -/
def State.leaveHalt (s : State) : State :=
  s.setFaults { s.faults with state := .normal, causes := [], first := none, attempts := 0, lastAttempt := none }

/-- FA taken (R164). -/
def State.takeFA (s : State) : State :=
  (((s.leaveHalt).retryCorrections.pairWindow true).judgeRelease).reply .FA [.word FaultState.normal.word]

/-- FA (R164). -/
def execFaultAcknowledge (ps : List Int) (s : State) : Host.Outcome State Fault Refusal :=
  .next (s.consoleRequest .FA ps (faChecks s ps) State.takeFA)

end Sys2Proof.Machine
end

