-- ==== Sys2Proof/Machine/MarginVerbs.lean ====
section
/-! DEFINITION. The watched quantity verb WQ (section 6.7). -/

namespace Sys2Proof.Machine

/-- The sign that a parameter names: 0 for +, 1 for − (R133). -/
def Sign.ofParam (x : Int) : Sign := if x = 1 then .minus else .plus

/-- The checks of WQ (R133). -/
def wqChecks (s : State) (ps : List Int) : List (Bool × RefCode) :=
  [(decide (2 < ps.length), .args),
    ((decide (1 ≤ ps.length) && !inRange 0 35 (par ps 1)) || (decide (ps.length = 2) && !inRange 0 1 (par ps 2)), .range),
    (s.inRestart, .halt)]

/-- How many entries stand in a state. -/
def State.countState (s : State) (st : MarginState) : Nat :=
  (watchedIndices.filter fun i => decide ((s.watched i).state = st)).length

/-- The fields of WQ without parameters (R132). -/
def State.wqTable (s : State) : List Field :=
  [.word s.modes.mode.limits.word, fnat (cautionThreshold s.settings.working.stationCaution),
    fnat (cautionThreshold s.settings.working.shipCaution), fstamp? s.margins.graded, fnat (s.countState .caution),
    fnat (s.countState .limit), fnat (s.countState .breach), fnat (s.countState .indeterminate)] ++
    s.blockingSet.map fnat

/-- Field 3 of WQ: the station, or the hold giving the least air clearance (R133). -/
def State.wqObject (s : State) (i : Nat) : Field :=
  if i < 32 then fnat (i / 2 + 1)
  else if i = 35 then fwhen (s.watched i).value.isSome s.leastHold
  else .empty

/-- Field 8 of WQ: the applicable limit of the set in use, or the required clearance of the berth record (R121, R122,
R133); empty in state OFF, and where there is no set of limits or no berth record to give it (log 36). -/
def State.wqLimit (s : State) (i : Nat) : Field :=
  let set := s.modes.mode.limits
  if (s.watched i).state = .off then .empty
  else if i < 34 then fwhen (decide (set ≠ .off)) (fnat (upperLimit s.parts set i (s.watched i).sign))
  else fwhen s.cond.berth.isSome (fnat (requiredClearance s.cond.berth i))

/-- The fields of WQ with an index (R133). -/
def State.wqEntry (s : State) (i : Nat) : List Field :=
  let e := s.watched i
  [fnat i, .word (quantityWord i), s.wqObject i, fint? e.value, fnat? e.percent, .word e.state.word, .word e.sign.word,
    s.wqLimit i, fstamp? e.stamp, .word (if (recipeSlot s.parts i e.sign).isSome then "SET" else "EMPTY"),
    fnat? ((s.recipeTransfer i e.sign).map fun t => t.id)]

/-- The fields of WQ with an index and a sign (R133); the sign is written + or − (log 38). -/
def State.wqSlot (s : State) (i : Nat) (sign : Sign) : List Field :=
  let r := recipeSlot s.parts i sign
  [fnat i, .word sign.word, fword? (r.map fun x => x.direction.word), fnat? (r.map fun x => x.volume),
    fnat? (r.bind fun x => x.tanks[0]?), fnat? (r.bind fun x => x.tanks[1]?)]

/-- The fields of the WQ reply. -/
def State.wqFields (s : State) (ps : List Int) : List Field :=
  if ps.length = 0 then s.wqTable
  else if ps.length = 1 then s.wqEntry (parN ps 1)
  else s.wqSlot (parN ps 1) (Sign.ofParam (par ps 2))

/-- WQ (R132, R133). -/
def execWatchedQuantityQuery (ps : List Int) (s : State) : Host.Outcome State Fault Refusal :=
  .next (s.consoleRequest .WQ ps (wqChecks s ps) fun s => s.reply .WQ (s.wqFields ps))

end Sys2Proof.Machine
end

