-- ==== Sys2Proof/Machine/ModeVerbs.lean ====
section
/-! DEFINITION. The verbs of Mode Control and of the two stores: MD, LC, PW, PK, SS, SV, RS, RQ, RC (chapter 11). -/

namespace Sys2Proof.Machine

/-! ## MD (R198, R199) -/

/-- Any mover is in a phase other than IDLE (R198). -/
def State.moverBusy (s : State) : Bool := allMovers.any fun m => decide ((s.mover m).phase ≠ .idle)

/-- The checks of MD (R198). -/
def mdChecks (s : State) (ps : List Int) : List (Bool × RefCode) :=
  [(decide (ps.length ≠ 1), .args), (!inRange 0 3 (par ps 1), .range), (s.inRestart, .halt),
    (decide (par ps 1 = 3) && !s.pour.steps.isEmpty, .state),
    (decide (par ps 1 ≠ 3) && decide (s.modes.mode = .commission) && s.parts.isNone, .state),
    (s.moverBusy || !s.transfers.records.isEmpty || s.pourActive, .busy)]

/-- Leaving a mode (R199). -/
def State.leaveMode (s : State) (old : Mode) : State :=
  match old with
  | .passage => s.setModes { s.modes with exchangeArea := false }
  | .berth => s.endClearance (refusalLine .CQ .mode)
  | .commission => s.setParticulars { s.particulars with edit := none }
  | .standby => s

/-- Entering a mode (R199). The words of particulars marked invalid are those read from the store (log 39). -/
def State.enterMode (s : State) (new : Mode) : State :=
  match new with
  | .berth => (s.pairWindow true).judgeRelease
  | .commission => s.setParticulars { s.particulars with edit := some (s.parts.getD s.particulars.store) }
  | .passage => s
  | .standby => s

/-- The mode changes (R199). -/
def State.changeMode (s : State) (new : Mode) : State :=
  let old := s.modes.mode
  if old = new then s else ((s.setModes { s.modes with mode := new }).leaveMode old).enterMode new

/-- MD taken (R199). -/
def State.takeMD (s : State) (ps : List Int) : State :=
  let new := Mode.ofParam (par ps 1)
  ((s.changeMode new).requestEvaluation).reply .MD [fnat new.number]

/-- MD (R198, R199). -/
def execMode (ps : List Int) (s : State) : Host.Outcome State Fault Refusal :=
  .next (s.consoleRequest .MD ps (mdChecks s ps) fun s => s.takeMD ps)

/-! ## LC (R200) -/

/-- The checks of LC. -/
def lcChecks (s : State) (ps : List Int) : List (Bool × RefCode) :=
  [(decide (ps.length ≠ 2), .args), (!(inRange 1 9999 (par ps 1) && inRange 0 1 (par ps 2)), .range),
    (decide (s.modes.mode ≠ .passage), .mode), (s.inRestart, .halt)]

/-- LC taken (R200). -/
def State.takeLC (s : State) (ps : List Int) : State :=
  (s.setModes { s.modes with location := some (parN ps 1), exchangeArea := decide (par ps 2 = 1) }).reply .LC
    [fnat (parN ps 1), fnat (parN ps 2)]

/-- LC (R200). -/
def execLocation (ps : List Int) (s : State) : Host.Outcome State Fault Refusal :=
  .next (s.consoleRequest .LC ps (lcChecks s ps) fun s => s.takeLC ps)

/-! ## PW (R201) -/

/-- The checks of PW. -/
def pwChecks (s : State) (ps : List Int) : List (Bool × RefCode) :=
  [(decide (ps.length < 2) || decide (16 < ps.length), .args),
    (!inRange 0 2839 (par ps 1) || decide (2839 < par ps 1 + (ps.length - 2 : Nat)), .range), (s.inRestart, .halt),
    (decide (s.modes.mode ≠ .commission), .lock)]

/-- The edit copy, empty words where there is none. -/
def State.editCopy (s : State) : Memory := s.particulars.edit.getD []

/-- PW taken (R201): values at consecutive addresses of the edit copy. -/
def State.takePW (s : State) (ps : List Int) : State :=
  (s.setParticulars { s.particulars with
    edit := some (Memory.writeAll s.editCopy (parN ps 1) (ps.drop 1)) }).reply .PW
      [fnat (parN ps 1), fnat (ps.length - 1)]

/-- PW (R201). -/
def execParticularsWrite (ps : List Int) (s : State) : Host.Outcome State Fault Refusal :=
  .next (s.consoleRequest .PW ps (pwChecks s ps) fun s => s.takePW ps)

/-! ## PK (R202) -/

/-- The checks of PK. -/
def pkChecks (s : State) (ps : List Int) : List (Bool × RefCode) :=
  [(decide (ps.length ≠ 0), .args), (s.inRestart, .halt), (decide (s.modes.mode ≠ .commission), .lock)]

/-- PK taken (R202): rejected at the first word that fails, or the write begins and the sequence stays in hand. -/
def State.takePK (s : State) : State :=
  match firstBadWord s.editCopy with
  | some a => s.reply .PK [.word "REJECTED", fnat a]
  | none =>
    (s.setParticulars { s.particulars with writing := some s.editCopy }).setConsole
      { s.console with rx := { s.console.rx with inHand := some ⟨.PK, []⟩ } }

/-- PK (R202). -/
def execParticularsCommit (ps : List Int) (s : State) : Host.Outcome State Fault Refusal :=
  .next (s.consoleRequest .PK ps (pkChecks s ps) State.takePK)

/-! ## SS and SV (R203, R204) -/

/-- A value in the range of a settings item (section 11.3). -/
def settingGood (item value : Int) : Bool :=
  (inRange 1 4 item && inRange 0 7 value) || (inRange 5 7 item && inRange 0 1 value)

/-- The checks of SS (R203). -/
def ssChecks (s : State) (ps : List Int) : List (Bool × RefCode) :=
  [(decide (ps.length = 1) || decide (2 < ps.length), .args),
    (decide (ps.length = 2) && !settingGood (par ps 1) (par ps 2), .range), (s.inRestart, .halt)]

/-- An item of the working copy takes a value (R203). -/
def Settings.set (w : Settings) (item : Nat) (v : Nat) : Settings :=
  match item with
  | 1 => { w with consoleRate := v }
  | 2 => { w with shoreRate := v }
  | 3 => { w with stationCaution := v }
  | 4 => { w with shipCaution := v }
  | 5 => { w with noticeLine := decide (v = 1) }
  | 6 => { w with moverLine := decide (v = 1) }
  | 7 => { w with shipLine := decide (v = 1) }
  | _ => w

/-- The fields of the SS reply (R203). -/
def SettingsStore.fields (x : SettingsStore) : List Field :=
  [fnat x.working.consoleRate, fnat x.working.shoreRate, fnat x.working.stationCaution, fnat x.working.shipCaution,
    fbit x.working.noticeLine, fbit x.working.moverLine, fbit x.working.shipLine,
    .word (if x.saving.isSome then "SAVING" else "IDLE")]

/-- SS taken (R203). -/
def State.takeSS (s : State) (ps : List Int) : State :=
  let s := if ps.length = 2 then
      s.setSettings { s.settings with working := s.settings.working.set (parN ps 1) (parN ps 2) }
    else s
  s.reply .SS s.settings.fields

/-- SS (R203). -/
def execSettingsSet (ps : List Int) (s : State) : Host.Outcome State Fault Refusal :=
  .next (s.consoleRequest .SS ps (ssChecks s ps) fun s => s.takeSS ps)

/-- The checks of SV (R204). -/
def svChecks (s : State) (ps : List Int) : List (Bool × RefCode) :=
  [(decide (ps.length ≠ 0), .args), (s.inRestart, .halt), (s.settings.saving.isSome, .busy)]

/-- SV taken (R204). -/
def State.takeSV (s : State) : State :=
  (s.setSettings { s.settings with saving := some s.settings.working }).reply .SV [.word "SAVING"]

/-- SV (R204). -/
def execSettingsSave (ps : List Int) (s : State) : Host.Outcome State Fault Refusal :=
  .next (s.consoleRequest .SV ps (svChecks s ps) State.takeSV)

/-! ## RS, RQ, RC (R206, R207) -/

/-- The checks of RS and RC (R206, R207). -/
def bareChecks (s : State) (ps : List Int) : List (Bool × RefCode) :=
  [(decide (ps.length ≠ 0), .args), (s.inRestart, .halt)]

/-- RS taken (R206): the reply is placed, and the parser takes no further character. -/
def State.takeRS (s : State) : State :=
  (s.setModes { s.modes with resetAsked := some ⟨s.now, false⟩ }).reply .RS []

/-- RS (R206). -/
def execCommandResetRequest (ps : List Int) (s : State) : Host.Outcome State Fault Refusal :=
  .next (s.consoleRequest .RS ps (bareChecks s ps) State.takeRS)

/-- The fields of the RQ reply (R207). -/
def ResetCause.fields (c : ResetCause) : List Field := [fbit c.power, fbit c.line, fbit c.command, fbit c.restart]

/-- RQ (R207). -/
def execResetCauseQuery (ps : List Int) (s : State) : Host.Outcome State Fault Refusal :=
  .next (s.consoleRequest .RQ ps [(decide (ps.length ≠ 0), .args)] fun s => s.reply .RQ s.modes.resetCause.fields)

/-- RC taken (R207). -/
def State.takeRC (s : State) : State :=
  (s.setModes { s.modes with resetCause := ⟨false, false, false, false⟩ }).reply .RC []

/-- RC (R207). -/
def execResetCauseClear (ps : List Int) (s : State) : Host.Outcome State Fault Refusal :=
  .next (s.consoleRequest .RC ps (bareChecks s ps) State.takeRC)

end Sys2Proof.Machine
end

