-- ==== Sys2Proof/Machine/MoverVerbs.lean ====
section
/-! DEFINITION. The mover verbs MQ and MR (section 4.7). -/

namespace Sys2Proof.Machine

/-- The checks that MQ and MR share (R91, R92): ARGS, RANGE, HALT. -/
def moverChecks (s : State) (ps : List Int) : List (Bool × RefCode) :=
  [(decide (ps.length ≠ 1), .args), (!inRange 1 3 (par ps 1), .range), (s.inRestart, .halt)]

/-- The stop reason shown in MQ. -/
def Phase.reason? : Phase → Option StopReason
  | .stopping r _ _ => some r
  | _ => none

/-- The stop outcome shown in MQ. -/
def Phase.outcome? : Phase → Option TransferOutcome
  | .stopping _ o _ => o
  | _ => none

/-- The stop stage shown in MQ. -/
def Phase.stage? : Phase → Option StopStage
  | .stopping _ _ g => some g
  | _ => none

/-- The fields of the MQ reply (R92). -/
def State.mqFields (s : State) (m : MoverId) : List Field :=
  let x := s.mover m
  let t := s.runTransfer m
  [.word m.word, .word m.kind.word, .word x.phase.word, fword? (x.phase.reason?.map StopReason.word),
    fword? (x.phase.outcome?.map TransferOutcome.word), fword? (x.phase.stage?.map StopStage.word), fnat? x.run,
    fnat? (t.map fun y => y.active), fnat? (s.activeTank m), fnat? x.stack[0]?, fnat? x.stack[1]?,
    fnat (s.secondsSince x.timer), fnat? (x.flow.bind fun f => f.volume),
    fnat? (x.flow.map fun f => s.secondsSince f.time), fnat? (x.last.map (·.1)),
    fword? (x.last.map fun q => q.2.word),
    fwhen (decide (x.phase = .faulted) || x.phase.faultStopping) (fword? ((s.moverCause m).map MoverCause.word)),
    fbit? x.quiet]

/-- MQ (R92). -/
def execMoverQuery (ps : List Int) (s : State) : Host.Outcome State Fault Refusal :=
  .next (s.consoleRequest .MQ ps (moverChecks s ps) fun s => s.reply .MQ (s.mqFields (MoverId.ofParam (par ps 1))))

/-- A mover may be reset (R91): FAULTED, its quiet reading true. -/
def State.resettable (s : State) (m : MoverId) : Bool :=
  decide ((s.mover m).phase = .faulted) && decide ((s.mover m).quiet = some true)

/-- The checks of MR (R91). -/
def mrChecks (s : State) (ps : List Int) : List (Bool × RefCode) :=
  moverChecks s ps ++ [(!s.resettable (MoverId.ofParam (par ps 1)), .state)]

/-- MR taken (R91): the fault cause cleared, the mover IDLE, and a scan. -/
def State.takeMR (s : State) (ps : List Int) : State :=
  let m := MoverId.ofParam (par ps 1)
  (((s.setMoverCause m none).enterPhase m .idle).reply .MR [.word m.word, .word Phase.idle.word]).scan

/-- MR (R91). -/
def execMoverReset (ps : List Int) (s : State) : Host.Outcome State Fault Refusal :=
  .next (s.consoleRequest .MR ps (mrChecks s ps) fun s => s.takeMR ps)

end Sys2Proof.Machine
end

