-- ==== Sys2Proof/Machine/TransferVerbs.lean ====
section
/-! DEFINITION. The transfer verbs XA, XC, XR, XQ (sections 3.2, 3.5, 3.6) and the retirement of a transfer (R61,
R62). -/

namespace Sys2Proof.Machine

/-! ## XA (R45) -/

/-- A pair (tank, target) in its ranges, and within the capacity of a defined tank (R45, R138). -/
def pairGood (p : Option Memory) (q : Int × Int) : Bool :=
  inRange 1 24 q.1 && inRange 0 65535 q.2 &&
    (!tankDefined p q.1.toNat || decide (q.2 ≤ (tankCapacity p q.1.toNat : Int)))

/-- The pairs of a request are good, and no tank is named twice (R45, R138). -/
def pairsGood (p : Option Memory) (qs : List (Int × Int)) : Bool := qs.all (pairGood p) && noRepeat (qs.map (·.1))

/-- Every tank of a request is defined. -/
def pairsDefined (p : Option Memory) (qs : List (Int × Int)) : Bool := qs.all fun q => tankDefined p q.1.toNat

/-- The pairs as numbers. -/
def pairsNat (qs : List (Int × Int)) : List (Nat × Nat) := qs.map fun q => (q.1.toNat, q.2.toNat)

/-- The entries of XA. -/
def xaPairs (ps : List Int) : List (Int × Int) := pairsFrom (ps.drop 3)

/-- The checks of XA (R45). -/
def xaChecks (s : State) (ps : List Int) : List (Bool × RefCode) :=
  [(!([5, 7, 9, 11].any fun n => decide (ps.length = n)), .args),
    (!(inRange 0 1 (par ps 1) && inRange 0 1 (par ps 2) && inRange 0 1 (par ps 3)) ||
      (decide (par ps 1 = 1) && decide (par ps 2 = 1)) || !pairsGood s.parts (xaPairs ps), .range),
    (!s.modeAdmits, .mode), (!s.isNormal, .halt), (!pairsDefined s.parts (xaPairs ps), .none), (s.tableFull, .full)]

/-- The transfer that XA asks for (R45). -/
def xaAdmission (ps : List Int) : Admission :=
  ⟨.planned, if par ps 1 = 1 then .strip else .pump, if par ps 2 = 1 then .fill else .discharge,
    pairsNat (xaPairs ps), .console, none, decide (par ps 3 = 1)⟩

/-- The state of a transfer by the place of its record (R41). -/
def State.transferWord (s : State) (id : Nat) : String :=
  if (s.activeOn id).isSome then "ACTIVE" else if (s.stackedOn id).isSome then "STACKED" else "PENDING"

/-- The mover of a transfer, absent while PENDING (R41). -/
def State.moverOf (s : State) (id : Nat) : Option MoverId :=
  match s.activeOn id with
  | some m => some m
  | none => s.stackedOn id

/-- The mover reserved for a transfer. -/
def State.reservationOf (s : State) (id : Nat) : Option MoverId := (s.transfer? id).bind fun t => t.reservation

/-- XA taken (R45): the reply states the transfer after the scan. -/
def State.takeXA (s : State) (ps : List Int) : State :=
  let id := s.nextId
  let s := s.admitTransfer (xaAdmission ps) true
  s.reply .XA [fnat id, .word (s.transferWord id), fword? ((s.activeOn id).map MoverId.word),
    fword? ((s.reservationOf id).map MoverId.word)]

/-- XA (R45). -/
def execTransferAdmit (ps : List Int) (s : State) : Host.Outcome State Fault Refusal :=
  .next (s.consoleRequest .XA ps (xaChecks s ps) fun s => s.takeXA ps)

/-! ## XQ (R66, R67) -/

/-- The word, the argument and the sign of a source (R67). -/
def Source.fields : Source → List Field
  | .console => [.word "CONSOLE", .empty, .empty]
  | .step x => [.word "STEP", fnat x, .empty]
  | .recipe i sign => [.word "RECIPE", fnat i, .word sign.word]
  | .stripOf x => [.word "STRIP-OF", fnat x, .empty]

/-- The fields of a transfer (R67). -/
def State.xqFields (s : State) (t : Transfer) : List Field :=
  [fnat t.id, .word t.cls.word, .word t.kind.word, .word t.direction.word, .word (s.transferWord t.id),
    fword? ((s.moverOf t.id).map MoverId.word), fword? (t.reservation.map MoverId.word)] ++ t.source.fields ++
  [fnat? t.stopIndex, fbit t.reverify, fnat t.active] ++
    t.entries.flatMap fun e => [fnat e.tank, fnat e.target, fbit e.done]

/-- The fields of the table (R66). -/
def State.xqTable (s : State) : List Field :=
  [fnat s.transfers.records.length, fnat s.transfers.queue.length, fnat s.transfers.counter] ++
    s.transfers.queue.map fnat

/-- The transfer that an id parameter names is not in use. -/
def State.noTransfer (s : State) (ps : List Int) : Bool := (s.transfer? (parN ps 1)).isNone

/-- The checks of XQ (R66, R67). -/
def xqChecks (s : State) (ps : List Int) : List (Bool × RefCode) :=
  [(decide (1 < ps.length), .args), (decide (ps.length = 1) && !inRange 1 255 (par ps 1), .range),
    (s.inRestart, .halt), (decide (ps.length = 1) && s.noTransfer ps, .none)]

/-- XQ taken. -/
def State.takeXQ (s : State) (ps : List Int) : State :=
  if ps.length = 1 then
    match s.transfer? (parN ps 1) with
    | some t => s.reply .XQ (s.xqFields t)
    | none => s
  else s.reply .XQ s.xqTable

/-- XQ (R66, R67). -/
def execTransferQuery (ps : List Int) (s : State) : Host.Outcome State Fault Refusal :=
  .next (s.consoleRequest .XQ ps (xqChecks s ps) fun s => s.takeXQ ps)

/-! ## XC (R58 to R60) -/

/-- A mover is STOPPING. -/
def Phase.isStopping : Phase → Bool
  | .stopping _ _ _ => true
  | .idle => false
  | .lining => false
  | .starting => false
  | .running => false
  | .switching _ => false
  | .faulted => false

/-- The source is STEP or RECIPE (R58). -/
def Source.isStepOrRecipe : Source → Bool
  | .step _ => true
  | .recipe _ _ => true
  | .console => false
  | .stripOf _ => false

/-- The transfer is ACTIVE and its mover is STOPPING (R58). -/
def State.activeStopping (s : State) (id : Nat) : Bool :=
  match s.activeOn id with
  | some m => (s.mover m).phase.isStopping
  | none => false

/-- The position from 1 of a tank's entry in the list of a transfer. -/
def Transfer.entryOf (t : Transfer) (tank : Nat) : Option Nat :=
  (numbers t.entries.length).find? fun i => decide ((t.entries[i - 1]?).map (·.tank) = some tank)

/-- The entry at a position is done. -/
def Transfer.entryDone (t : Transfer) (i : Nat) : Bool :=
  match t.entries[i - 1]? with
  | some e => e.done
  | none => false

/-- The further checks of a change of a target (R58), of an append (R59) and of a removal (R60). -/
def xcFurther (s : State) (t : Transfer) (ps : List Int) : List (Bool × RefCode) :=
  let tank := parN ps 2
  let active := (s.activeOn t.id).isSome
  match decide (ps.length = 3), t.entryOf tank with
  | true, some i => [(t.entryDone i, .state)]
  | true, none =>
    [(active && decide ((s.tank tank).lock = .locked), .state),
      (decide ((s.tank tank).claim ≠ none) && decide ((s.tank tank).claim ≠ some t.id), .claim),
      (decide (4 ≤ t.entries.length), .full)]
  | false, none => [(true, .none)]
  | false, some i =>
    [(t.entryDone i || decide (t.remaining.length ≤ 1) || (active && decide (t.active = i)), .state)]

/-- The checks of XC (R58 to R60). -/
def xcChecks (s : State) (ps : List Int) : List (Bool × RefCode) :=
  [(!(decide (ps.length = 2) || decide (ps.length = 3)), .args),
    (!inRange 1 255 (par ps 1) || !inRange 1 24 (par ps 2) ||
      (decide (ps.length = 3) && !pairGood s.parts (par ps 2, par ps 3)), .range),
    (s.inRestart, .halt), (s.noTransfer ps || !tankDefined s.parts (parN ps 2), .none)] ++
  match s.transfer? (parN ps 1) with
  | none => []
  | some t => (t.source.isStepOrRecipe || s.activeStopping t.id, .state) :: xcFurther s t ps

/-- The target of the entry at a position becomes a value (R58). -/
def Transfer.setTarget (t : Transfer) (i target : Nat) : Transfer :=
  { t with entries := t.entries.mapIdx fun k e => if k + 1 = i then { e with target := target } else e }

/-- An entry is appended as the last (R59). -/
def Transfer.append (t : Transfer) (tank target : Nat) : Transfer :=
  { t with entries := t.entries ++ [⟨tank, target, false⟩] }

/-- The positions from 1 of the entries whose done flag is clear: those that are still to be worked (section 3.1). -/
def openPositions (es : List Entry) : List Nat :=
  (numbers es.length).filter fun i => decide ((es[i - 1]?).map (·.done) = some false)

/-- The entry at a position is removed, and the active index names the same entry as before (R60). When the active entry
itself is removed, a transfer that has never been assigned keeps active index 1 (section 3.1, R53); of any other, the
index names an entry still to be worked, and which one is the free value `pick` (log 35). -/
def Transfer.removeEntry (t : Transfer) (i pick : Nat) : Transfer :=
  let es := t.entries.eraseIdx (i - 1)
  { t with
    entries := es,
    active :=
      if i < t.active then t.active - 1
      else if i = t.active then
        (if t.assigned then ((openPositions es)[pick % (openPositions es).length]?).getD 1 else 1)
      else t.active }

/-- A removal (R60): for an ACTIVE transfer the tank's claim is released, and a scan follows (R57). -/
def State.xcRemove (s : State) (t : Transfer) (i tank : Nat) : State :=
  let s' := s.updTransfer t.id fun x => x.removeEntry i (Config.freeActive s.freeCount)
  let s' := if decide (i = t.active) && t.assigned then s'.setFreeCount (s.freeCount + 1) else s'
  if (s.activeOn t.id).isSome then s'.releaseTank tank else s'

/-- The change that XC makes, its scan apart (R58 to R60). -/
def State.xcChange (s : State) (t : Transfer) (ps : List Int) : State :=
  let tank := parN ps 2
  match decide (ps.length = 3), t.entryOf tank with
  | true, some i => s.updTransfer t.id fun x => x.setTarget i (parN ps 3)
  | true, none =>
    let s' := s.updTransfer t.id fun x => x.append tank (parN ps 3)
    if (s.activeOn t.id).isSome then s'.claimTanks [tank] t.id else s'
  | false, some i => s.xcRemove t i tank
  | false, none => s

/-- A scan follows an XC of a PENDING transfer (R51), and the release of a removed tank (R57). -/
def State.xcScans (s : State) (t : Transfer) (ps : List Int) : Bool :=
  (s.moverOf t.id).isNone || ((s.activeOn t.id).isSome && decide (ps.length = 2))

/-- XC taken (R58): the reply is the transfer's XQ reply after the change, and the scan follows (log 15). -/
def State.takeXC (s : State) (ps : List Int) : State :=
  match s.transfer? (parN ps 1) with
  | none => s
  | some t =>
    let s' := s.xcChange t ps
    let fields := match s'.transfer? t.id with
      | some x => s'.xqFields x
      | none => []
    let s' := s'.reply .XQ fields
    if s.xcScans t ps then s'.scan else s'

/-- XC (R58). -/
def execTransferChange (ps : List Int) (s : State) : Host.Outcome State Fault Refusal :=
  .next (s.consoleRequest .XC ps (xcChecks s ps) fun s => s.takeXC ps)

/-! ## Retirement (R61, R62) -/

/-- The answers of a retirement (R62). -/
inductive RetireAnswer
  | retired | retiring | ending
  deriving DecidableEq, Repr

/-- The word of an answer. -/
def RetireAnswer.word : RetireAnswer → String
  | .retired => "RETIRED" | .retiring => "RETIRING" | .ending => "ENDING"

/-- A mover is STOPPING with reason END, FAULT or HALT (R61). -/
def Phase.ending : Phase → Bool
  | .stopping .preempt _ _ => false
  | .stopping _ _ _ => true
  | .idle => false
  | .lining => false
  | .starting => false
  | .running => false
  | .switching _ => false
  | .faulted => false

/-- The answer of a retirement, by the state of the transfer (R61, R62). -/
def State.retireAnswer (s : State) (id : Nat) : RetireAnswer :=
  match s.activeOn id with
  | some m => if (s.mover m).phase.ending then .ending else .retiring
  | none => .retired

/-- A transfer is removed from a mover's stack, one above it moving down (R61). -/
def State.unstack (s : State) (m : MoverId) (id : Nat) : State :=
  s.setMover m { s.mover m with stack := (s.mover m).stack.filter fun x => decide (x ≠ id) }

/-- A transfer is retired, by its state (R61, R62). -/
def State.retire (s : State) (id : Nat) : State :=
  match s.activeOn id with
  | some m => if (s.mover m).phase.ending then s else s.enterStop m .ended (some .retired)
  | none =>
    match s.stackedOn id with
    | some m => (s.unstack m id).freeAndTell id .retired
    | none => if (s.transfer? id).isSome then s.freeAndTell id .retired else s

/-- The transfer's source is STEP (R61). -/
def State.sourceIsStep (s : State) (id : Nat) : Bool :=
  match s.transfer? id with
  | some t => match t.source with
    | .step _ => true
    | .console => false
    | .recipe _ _ => false
    | .stripOf _ => false
  | none => false

/-- The checks of XR (R61). -/
def xrChecks (s : State) (ps : List Int) : List (Bool × RefCode) :=
  [(decide (ps.length ≠ 1), .args), (!inRange 1 255 (par ps 1), .range), (s.inRestart, .halt),
    (s.noTransfer ps, .none),
    (s.sourceIsStep (parN ps 1) || decide (s.retireAnswer (parN ps 1) = .ending), .state)]

/-- XR taken (R61). -/
def State.takeXR (s : State) (ps : List Int) : State :=
  let id := parN ps 1
  (s.retire id).reply .XR [fnat id, .word (s.retireAnswer id).word]

/-- XR (R61). -/
def execTransferRetire (ps : List Int) (s : State) : Host.Outcome State Fault Refusal :=
  .next (s.consoleRequest .XR ps (xrChecks s ps) fun s => s.takeXR ps)

end Sys2Proof.Machine
end

