-- ==== Sys2Proof/Machine/PlanVerbs.lean ====
section
/-! DEFINITION. The console verbs of the plan PA, PI, PC, PR and HC (sections 7.2, 7.3, 7.5). -/

namespace Sys2Proof.Machine

/-! ## HC (R137) -/

/-- The checks of HC. -/
def hcChecks (s : State) (ps : List Int) : List (Bool × RefCode) :=
  [(decide (ps.length ≠ 2), .args), (!(inRange 1 9 (par ps 1) && inRange 0 999999 (par ps 2)), .range),
    (s.inRestart, .halt), (!holdDefined s.parts (parN ps 1), .none),
    (s.pour.steps.any fun x => decide (x.hold = parN ps 1) && x.pourOpen, .busy)]

/-- HC taken (R137). -/
def State.takeHC (s : State) (ps : List Int) : State :=
  let s := (s.setHoldRecord (parN ps 1) ⟨parN ps 2, true⟩).massChange
  s.reply .HC [fnat (parN ps 1), fnat (parN ps 2), fstamp s.cond.stamp]

/-- HC (R137). -/
def execHoldCargo (ps : List Int) (s : State) : Host.Outcome State Fault Refusal :=
  .next (s.consoleRequest .HC ps (hcChecks s ps) fun s => s.takeHC ps)

/-! ## The parameters of a step (R138) -/

/-- The linked pairs of PA, after step id, hold, tonnes and lead. -/
def paPairs (ps : List Int) : List (Int × Int) := pairsFrom (ps.drop 4)

/-- The values of PA are good (R138). -/
def paValuesGood (p : Option Memory) (ps : List Int) : Bool :=
  inRange 1 999 (par ps 1) && inRange 1 9 (par ps 2) && inRange 1 30000 (par ps 3) && inRange 0 9999 (par ps 4) &&
    pairsGood p (paPairs ps) && (decide (par ps 4 = 0) || !(paPairs ps).isEmpty)

/-- The holds and tanks that PA names are defined (R138). -/
def paDefined (p : Option Memory) (ps : List Int) : Bool :=
  holdDefined p (parN ps 2) && pairsDefined p (paPairs ps)

/-- The linked list of a request, no volume at pairing taken. -/
def linksOf (qs : List (Int × Int)) : List LinkedEntry := (pairsNat qs).map fun q => ⟨q.1, q.2, none, false⟩

/-- The new step of PA (R138). -/
def paStep (ps : List Int) : PourStep :=
  { id := parN ps 1, hold := parN ps 2, planned := parN ps 3, tally := 0, lead := parN ps 4, links := linksOf (paPairs ps),
    pairing := .unpaired, state := .planned, granted := none, ceiling := none, cause := none }

/-- The plan holds 48 steps. -/
def State.planFull (s : State) : Bool := decide (Config.stepCount ≤ s.pour.steps.length)

/-- A step id is in the plan. -/
def State.inPlan (s : State) (id : Nat) : Bool := (s.step? id).isSome

/-- The position of a step in the plan, from 1. -/
def State.positionOf (s : State) (id : Nat) : Nat := (s.pour.steps.findIdx fun x => decide (x.id = id)) + 1

/-- The state of a step as a field. -/
def State.stepWord (s : State) (id : Nat) : Field := fword? ((s.step? id).map fun x => x.state.word)

/-! ## PA (R138) -/

/-- The checks of PA. -/
def paChecks (s : State) (ps : List Int) : List (Bool × RefCode) :=
  [(!([4, 6, 8, 10, 12].any fun n => decide (ps.length = n)), .args), (!paValuesGood s.parts ps, .range),
    (decide (s.modes.mode = .commission), .mode), (s.inRestart, .halt), (!paDefined s.parts ps, .none),
    (s.inPlan (parN ps 1), .state), (s.planFull, .full)]

/-- PA taken (R138, R140). -/
def State.takePA (s : State) (ps : List Int) : State :=
  let id := parN ps 1
  let s := (s.setPour { s.pour with steps := s.pour.steps ++ [paStep ps] }).judgeWindow
  s.reply .PA [fnat id, fnat (s.positionOf id), s.stepWord id]

/-- PA (R138). -/
def execPlanAppend (ps : List Int) (s : State) : Host.Outcome State Fault Refusal :=
  .next (s.consoleRequest .PA ps (paChecks s ps) fun s => s.takePA ps)

/-! ## PI (R139) -/

/-- The named step is the head and stands GRANTED, POURING or HELD (R139). -/
def State.headFixed (s : State) (id : Nat) : Bool :=
  s.isHead id &&
    match s.headStep with
    | some x => x.pourOpen || decide (x.state = .held)
    | none => false

/-- A clearance is in progress for a step. -/
def State.underClearance (s : State) (id : Nat) : Bool := decide (s.pour.clearance = some id)

/-- The checks of PI. -/
def piChecks (s : State) (ps : List Int) : List (Bool × RefCode) :=
  let q := ps.drop 1
  let named := parN ps 1
  [(!([5, 7, 9, 11, 13].any fun n => decide (ps.length = n)), .args),
    (!(inRange 1 999 (par ps 1) && paValuesGood s.parts q), .range),
    (decide (s.modes.mode = .commission), .mode), (s.inRestart, .halt),
    (!s.inPlan named || !paDefined s.parts q, .none), (s.inPlan (parN q 1) || s.headFixed named, .state),
    (s.isHead named && s.underClearance named, .busy), (s.planFull, .full)]

/-- A step is placed directly before the one named (R139). -/
def insertBefore (x : PourStep) (named : Nat) (steps : List PourStep) : List PourStep :=
  let before := fun y : PourStep => decide (y.id ≠ named)
  steps.takeWhile before ++ x :: steps.dropWhile before

/-- PI taken (R139, R140). -/
def State.takePI (s : State) (ps : List Int) : State :=
  let q := ps.drop 1
  let id := parN q 1
  let s := (s.setPour { s.pour with steps := insertBefore (paStep q) (parN ps 1) s.pour.steps }).judgeWindow
  s.reply .PI [fnat id, fnat (s.positionOf id), s.stepWord id]

/-- PI (R139). -/
def execPlanInsert (ps : List Int) (s : State) : Host.Outcome State Fault Refusal :=
  .next (s.consoleRequest .PI ps (piChecks s ps) fun s => s.takePI ps)

/-! ## PC (R144) -/

/-- The linked pairs of PC, after step id, tonnes and lead. -/
def pcPairs (ps : List Int) : List (Int × Int) := pairsFrom (ps.drop 3)

/-- The planned tonnes are above the step's tally; passes for a step not in the plan (R144). -/
def State.tonnesAboveTally (s : State) (ps : List Int) : Bool :=
  match s.step? (parN ps 1) with
  | some x => decide ((x.tally : Int) < par ps 2)
  | none => true

/-- The values of PC are good (R144). -/
def pcValuesGood (s : State) (ps : List Int) : Bool :=
  inRange 1 999 (par ps 1) && inRange 1 30000 (par ps 2) && inRange 0 9999 (par ps 3) &&
    pairsGood s.parts (pcPairs ps) && (decide (par ps 3 = 0) || !(pcPairs ps).isEmpty) && s.tonnesAboveTally ps

/-- The step is neither PLANNED nor READY (R144). -/
def State.notWaiting (s : State) (id : Nat) : Bool :=
  match s.step? id with
  | some x => !(decide (x.state = .planned) || decide (x.state = .ready))
  | none => false

/-- The checks of PC. -/
def pcChecks (s : State) (ps : List Int) : List (Bool × RefCode) :=
  [(!([3, 5, 7, 9, 11].any fun n => decide (ps.length = n)), .args), (!pcValuesGood s ps, .range),
    (s.inRestart, .halt), (!s.inPlan (parN ps 1) || !pairsDefined s.parts (pcPairs ps), .none),
    (s.notWaiting (parN ps 1), .state), (s.underClearance (parN ps 1), .busy)]

/-- The new linked list differs from the old in any tank, target or order (R144). -/
def linksDiffer (x : PourStep) (ps : List Int) : Bool :=
  decide (x.links.map (fun e => (e.tank, e.target)) ≠ pairsNat (pcPairs ps))

/-- The step after PC, before it is judged again (R144). -/
def PourStep.changed (x : PourStep) (ps : List Int) : PourStep :=
  if linksDiffer x ps then
    { x with planned := parN ps 2, lead := parN ps 3, links := linksOf (pcPairs ps), pairing := .unpaired,
             state := .planned }
  else { x with planned := parN ps 2, lead := parN ps 3, state := .planned }

/-- The transfer of a RUNNING pairing. -/
def Pairing.running? : Pairing → Option Nat
  | .running id => some id
  | .unpaired => none
  | .done _ => none

/-- The Transfer Table still holds a transfer for a step (R62). -/
def State.isStepTransfer (s : State) (id step : Nat) : Bool :=
  match s.transfer? id with
  | some t => decide (t.source = .step step)
  | none => false

/-- The retirement of a paired transfer (R62); one no longer in use for the step changes nothing. -/
def State.retirePaired (s : State) (pairing : Pairing) (step : Nat) : State :=
  match pairing.running? with
  | some id => if s.isStepTransfer id step then s.retire id else s
  | none => s

/-- The Transfer Table's answer to the retirement of a paired transfer (R62); none when the pairing is not RUNNING. -/
def State.pairedAnswer (s : State) (pairing : Pairing) (step : Nat) : Option RetireAnswer :=
  pairing.running?.map fun id => if s.isStepTransfer id step then s.retireAnswer id else .retired

/-- PC taken (R144). -/
def State.takePC (s : State) (ps : List Int) : State :=
  let id := parN ps 1
  match s.step? id with
  | none => s
  | some x =>
    let s := s.updStep id fun y => y.changed ps
    let s := if linksDiffer x ps then s.retirePaired x.pairing id else s
    let s := (s.judgePairing true id).judgeReady id
    s.reply .PC [fnat id, s.stepWord id, fword? ((s.step? id).map fun y => y.pairing.word)]

/-- PC (R144). -/
def execPlanChange (ps : List Int) (s : State) : Host.Outcome State Fault Refusal :=
  .next (s.consoleRequest .PC ps (pcChecks s ps) fun s => s.takePC ps)

/-! ## PR (R145) -/

/-- The step is GRANTED or POURING (R145). -/
def State.stepPouring (s : State) (id : Nat) : Bool :=
  match s.step? id with
  | some x => x.pourOpen
  | none => false

/-- The checks of PR. -/
def prChecks (s : State) (ps : List Int) : List (Bool × RefCode) :=
  [(decide (ps.length ≠ 1), .args), (!inRange 1 999 (par ps 1), .range), (s.inRestart, .halt),
    (!s.inPlan (parN ps 1), .none), (s.stepPouring (parN ps 1), .state), (s.underClearance (parN ps 1), .busy)]

/-- A step is removed from the plan. -/
def State.removeStep (s : State) (id : Nat) : State :=
  s.setPour { s.pour with steps := s.pour.steps.filter fun x => decide (x.id ≠ id) }

/-- PR taken (R145). -/
def State.takePR (s : State) (ps : List Int) : State :=
  let id := parN ps 1
  match s.step? id with
  | none => s
  | some x =>
    let answer := s.pairedAnswer x.pairing id
    let s := (((s.removeStep id).retirePaired x.pairing id).judgeWindow)
    s.reply .PR [fnat id, fword? (answer.map RetireAnswer.word)]

/-- PR (R145). -/
def execPlanRetire (ps : List Int) (s : State) : Host.Outcome State Fault Refusal :=
  .next (s.consoleRequest .PR ps (prChecks s ps) fun s => s.takePR ps)

end Sys2Proof.Machine
end

