-- ==== Sys2Proof/Machine/ReportVerbs.lean ====
section
/-! DEFINITION. The report verbs RP and RA (sections 9.1, 9.7). -/

namespace Sys2Proof.Machine

/-- The checks of RP (R172). -/
def rpChecks (s : State) (ps : List Int) : List (Bool × RefCode) :=
  [(decide (ps.length ≠ 1), .args), (!inRange 1 4 (par ps 1), .range), (decide (s.modes.mode = .commission), .mode),
    (s.inRestart, .halt), (decide (par ps 1 = 4) && !s.departureHolds, .state),
    (decide (s.composer.state ≠ .idle), .busy)]

/-- RP taken (R172): WAITING, and the RP reply joins the reply queue, marked as the one the header follows. -/
def State.takeRP (s : State) (ps : List Int) : State :=
  let kind := ReportKind.ofParam (par ps 1)
  let s := s.setComposer ⟨.waiting kind, 0⟩
  (s.setConsole { s.console with rx := { s.console.rx with inHand := none } }).joinReplies
    ⟨.reply .RP [fnat kind.number], true⟩

/-- RP (R172). -/
def execReport (ps : List Int) (s : State) : Host.Outcome State Fault Refusal :=
  .next (s.consoleRequest .RP ps (rpChecks s ps) fun s => s.takeRP ps)

/-- The checks of RA (R181). -/
def raChecks (s : State) (ps : List Int) : List (Bool × RefCode) :=
  [(decide (ps.length ≠ 0), .args), (s.inRestart, .halt), (decide (s.composer.state = .idle), .state)]

/-- The queued RP reply no longer calls for a header: its report was dropped (R181). -/
def QueuedLine.plain (q : QueuedLine) : QueuedLine := { q with isRp := false }

/-- The report that was WAITING is dropped (R181). -/
def State.dropReport (s : State) : State :=
  (s.setComposerState .idle).setConsole { s.console with
    replies := s.console.replies.map QueuedLine.plain, buffer := s.console.buffer.map QueuedLine.plain }

/-- RA taken (R181). -/
def State.takeRA (s : State) : State :=
  match s.composer.state with
  | .idle => s
  | .waiting kind => s.dropReport.reply .RA [fnat kind.number, .word "DROPPED"]
  | .composing kind sect cursor start abort =>
    (s.setComposerState (.composing kind sect cursor start (some (abort.getD .ra)))).reply .RA
      [fnat kind.number, .word "ABORTED"]

/-- RA (R181). -/
def execReportAbort (ps : List Int) (s : State) : Host.Outcome State Fault Refusal :=
  .next (s.consoleRequest .RA ps (raChecks s ps) State.takeRA)

end Sys2Proof.Machine
end

