-- ==== Sys2Proof/Machine/ShoreVerbs.lean ====
section
/-! DEFINITION. The shore verbs CQ, CS, CT, CE, DQ (sections 7.6 to 7.9). -/

namespace Sys2Proof.Machine

/-! ## CQ (R146) -/

/-- The checks of CQ before the HALT place (R146 steps 1 to 3). -/
def cqChecks (s : State) (ps : List Int) : List (Bool × RefCode) :=
  [(decide (ps.length ≠ 1), .args), (!inRange 1 999 (par ps 1), .range), (decide (s.modes.mode ≠ .berth), .mode)]

/-- The step is READY with remaining tonnes above 0 (R146). -/
def State.readyToPour (s : State) (id : Nat) : Bool :=
  match s.step? id with
  | some x => decide (x.state = .ready) && decide (0 < x.remaining)
  | none => false

/-- The checks of CQ after the HALT place (R146 steps 5 to 7). -/
def cqStepChecks (s : State) (id : Nat) : List (Bool × RefCode) :=
  [(!s.inPlan id, .none), (!s.readyToPour id, .state), (!s.isHead id, .head)]

/-- A clearance starts (R146): the prediction is asked, and the sequence stays in hand (R135). -/
def State.startClearance (s : State) (ps : List Int) (x : PourStep) : State :=
  let s := s.setPour { s.pour with clearance := some x.id }
  let s := s.setShore { s.shore with rx := { s.shore.rx with inHand := some ⟨.CQ, ps⟩ } }
  s.askPrediction x.id x.hold x.remaining

/-- CQ past its checks (R146 step 8). -/
def State.judgeClearance (s : State) (ps : List Int) : State :=
  let id := parN ps 1
  match s.blockingReading with
  | some c => s.shoreReply (.pour .HO (hoFields id c.word))
  | none =>
    match s.step? id with
    | some x => s.startClearance ps x
    | none => s

/-- CQ taken (R146): the HALT place, the step's checks, the blocking reading. -/
def State.takeCQ (s : State) (ps : List Int) : State :=
  let id := parN ps 1
  if !s.isNormal then s.shoreReply (.pour .HO (hoFields id "HALT"))
  else
    match firstRefusal (cqStepChecks s id) with
    | some c => s.shoreRefuse .CQ c
    | none => s.judgeClearance ps

/-- CQ (R146). -/
def execClearanceQuery (ps : List Int) (s : State) : Host.Outcome State Fault Refusal :=
  .next (s.shoreRequest .CQ ps (cqChecks s ps) fun s => s.takeCQ ps)

/-! ## CS (R149) -/

/-- A step is in one of two states. -/
def State.stepIn (s : State) (id : Nat) (a b : StepState) : Bool :=
  match s.step? id with
  | some x => decide (x.state = a) || decide (x.state = b)
  | none => false

/-- The checks of CS (R149). -/
def csChecks (s : State) (ps : List Int) : List (Bool × RefCode) :=
  let id := parN ps 1
  [(decide (ps.length ≠ 1), .args), (!inRange 1 999 (par ps 1), .range), (decide (s.modes.mode ≠ .berth), .mode),
    (!s.isNormal, .halt), (!s.inPlan id, .none), (s.stepIn id .planned .pouring, .state), (!s.isHead id, .head),
    (s.stepIn id .ready .held, .late)]

/-- The granted tonnes of a step. -/
def State.grantedOf (s : State) (id : Nat) : Option Nat := (s.step? id).bind fun x => x.granted

/-- CS taken (R149): the GRANTED step is POURING, and the grant timer stops. -/
def State.takeCS (s : State) (ps : List Int) : State :=
  let id := parN ps 1
  let s := (s.updStep id fun x => { x with state := .pouring }).stopGrant
  s.shoreReply (.reply .CS [fnat id, fnat? (s.grantedOf id)])

/-- CS (R149). -/
def execChuteStart (ps : List Int) (s : State) : Host.Outcome State Fault Refusal :=
  .next (s.shoreRequest .CS ps (csChecks s ps) fun s => s.takeCS ps)

/-! ## CT and CE (R153, R154) -/

/-- A tally that its step can take: not below the step's tally, the hold's mass not above 999,999; passes for a step
not in the plan (R153). -/
def State.tallyGood (s : State) (ps : List Int) : Bool :=
  match s.step? (parN ps 1) with
  | some x =>
    decide ((x.tally : Int) ≤ par ps 2) &&
      decide (((s.holdRecord x.hold).mass : Int) + (par ps 2 - x.tally) ≤ 999999)
  | none => true

/-- The step is not POURING or HELD (R153). -/
def State.notTallied (s : State) (id : Nat) : Bool := !s.stepIn id .pouring .held

/-- The checks of CT and CE (R153, R154). -/
def tallyChecks (s : State) (ps : List Int) : List (Bool × RefCode) :=
  [(decide (ps.length ≠ 2), .args),
    (!(inRange 1 999 (par ps 1) && inRange 0 99999 (par ps 2)) || !s.tallyGood ps, .range), (s.inRestart, .halt),
    (!s.inPlan (parN ps 1), .none), (s.notTallied (parN ps 1), .state)]

/-- The tonnes of a tally join the hold's cargo mass, as a mass-change event (R153, R100). -/
def State.addTally (s : State) (x : PourStep) (tally : Nat) : State :=
  let r := s.holdRecord x.hold
  ((s.updStep x.id fun y => { y with tally := tally }).setHoldRecord x.hold
    { r with mass := r.mass + (tally - x.tally) }).massChange

/-- A tally is above the ceiling (R153). -/
def overrun (x : PourStep) (tally : Nat) : Bool :=
  match x.ceiling with
  | some c => decide (c < tally)
  | none => false

/-- The overrun of a CT (R153): a step already HELD with OVERRUN is sent nothing. -/
def State.judgeOverrun (s : State) (x : PourStep) (tally : Nat) : State :=
  if overrun x tally && decide (x.cause ≠ some .overrun) then s.holdStep x.id .overrun else s

/-- The fields of the CT and CE replies (R153, R154). -/
def State.tallyFields (s : State) (x : PourStep) (tally : Nat) : List Field :=
  [fnat x.id, fnat tally, fnat (s.holdRecord x.hold).mass, fstamp s.cond.stamp]

/-- CT taken (R153). -/
def State.takeCT (s : State) (ps : List Int) : State :=
  match s.step? (parN ps 1) with
  | none => s
  | some x =>
    let tally := parN ps 2
    let s := (s.addTally x tally).judgeOverrun x tally
    s.shoreReply (.reply .CT (s.tallyFields x tally))

/-- CT (R153). -/
def execChuteTally (ps : List Int) (s : State) : Host.Outcome State Fault Refusal :=
  .next (s.shoreRequest .CT ps (tallyChecks s ps) fun s => s.takeCT ps)

/-- CE taken (R154): the step is removed, and the window judged. -/
def State.takeCE (s : State) (ps : List Int) : State :=
  match s.step? (parN ps 1) with
  | none => s
  | some x =>
    let tally := parN ps 2
    let s := ((s.addTally x tally).removeStep x.id).judgeWindow
    s.shoreReply (.reply .CE (s.tallyFields x tally))

/-- CE (R154). -/
def execChuteEnd (ps : List Int) (s : State) : Host.Outcome State Fault Refusal :=
  .next (s.shoreRequest .CE ps (tallyChecks s ps) fun s => s.takeCE ps)

/-! ## DQ (R155) -/

/-- The checks of DQ. -/
def dqChecks (s : State) (ps : List Int) : List (Bool × RefCode) :=
  [(decide (ps.length ≠ 0), .args), (s.inRestart, .halt)]

/-- The fields of the DQ reply (R155). -/
def State.dqFields (s : State) : List Field :=
  s.publishedStamp :: s.drFields ++ [s.shown fun c => c.ukc, s.shown fun c => c.least.map (·.1), s.leastHold]

/-- DQ (R155). -/
def execDraftQuery (ps : List Int) (s : State) : Host.Outcome State Fault Refusal :=
  .next (s.shoreRequest .DQ ps (dqChecks s ps) fun s => s.shoreReply (.reply .DQ s.dqFields))

end Sys2Proof.Machine
end

