-- ==== Sys2Proof/Machine/TankVerbs.lean ====
section
/-! DEFINITION. The tank verbs TQ, TO, TL, TU (sections 1.3, 1.4, 1.6). -/

namespace Sys2Proof.Machine

/-- The suspect count shown in TQ. -/
def GaugeState.count? : GaugeState → Option Nat
  | .suspect k => some k
  | .unread => none
  | .good => none
  | .lost => none

/-- The fields of the TQ reply (R20). -/
def State.tqFields (s : State) (t : Nat) : List Field :=
  let x := s.tank t
  [fnat t, .word (sideWord (pword s.parts (tankBase t + 1))), fnat (tankCapacity s.parts t), fnat? x.volume,
    fnat? x.mass, .word x.gauge.word, fnat? x.gauge.count?, .word (s.motion t).word, fnat? x.claim, .word x.lock.word,
    .word x.origin.exchange.word, .word x.origin.window.word, fbit x.origin.more] ++ x.origin.codes.map fnat

/-- The checks of a verb that names one tank (R21): RANGE, HALT, NONE. -/
def tankChecks1 (s : State) (ps : List Int) : List (Bool × RefCode) :=
  [(!inRange 1 24 (par ps 1), .range), (s.inRestart, .halt), (!tankDefined s.parts (parN ps 1), .none)]

/-- The tank is claimed (R21). -/
def State.tankClaimed (s : State) (t : Nat) : Bool := (s.tank t).claim.isSome

/-- The checks of TQ. -/
def tqChecks (s : State) (ps : List Int) : List (Bool × RefCode) :=
  (decide (ps.length ≠ 1), .args) :: tankChecks1 s ps

/-- TQ (R20). -/
def execTankQuery (ps : List Int) (s : State) : Host.Outcome State Fault Refusal :=
  .next (s.consoleRequest .TQ ps (tqChecks s ps) fun s => s.reply .TQ (s.tqFields (parN ps 1)))

/-- The values of TO lie in their ranges, and two codes differ (R15). -/
def toValuesGood (ps : List Int) : Bool :=
  inRange 0 1 (par ps 2) && inRange 0 1 (par ps 3) && ((ps.drop 3).all (inRange 1 9999)) && noRepeat (ps.drop 3)

/-- The checks of TO (R15, R21). -/
def toChecks (s : State) (ps : List Int) : List (Bool × RefCode) :=
  [(decide (ps.length < 3) || decide (5 < ps.length), .args),
    (!inRange 1 24 (par ps 1) || !toValuesGood ps, .range), (s.inRestart, .halt),
    (!tankDefined s.parts (parN ps 1), .none), (s.tankClaimed (parN ps 1), .claim)]

/-- The origin fields that TO declares; the window is unchanged (R15). -/
def declaredOrigin (ps : List Int) (old : OriginEntry) : OriginEntry :=
  ⟨(ps.drop 3).map Int.toNat, decide (par ps 3 = 1), if par ps 2 = 1 then .exchanged else .notExchanged, old.window⟩

/-- TO taken (R15): its reply is the TQ reply (log 15). -/
def State.takeTO (s : State) (ps : List Int) : State :=
  let t := parN ps 1
  let s := s.setOrigin t (declaredOrigin ps (s.tank t).origin)
  s.reply .TQ (s.tqFields t)

/-- TO (R15). -/
def execTankOriginDeclare (ps : List Int) (s : State) : Host.Outcome State Fault Refusal :=
  .next (s.consoleRequest .TO ps (toChecks s ps) fun s => s.takeTO ps)

/-- The checks of TL (R8, R21). -/
def tlChecks (s : State) (ps : List Int) : List (Bool × RefCode) :=
  (decide (ps.length ≠ 1), .args) :: tankChecks1 s ps ++ [(s.tankClaimed (parN ps 1), .claim)]

/-- The lock of a tank takes a value. -/
def State.setLock (s : State) (t : Nat) (l : Lock) : State := s.setTank t { s.tank t with lock := l }

/-- TL taken (R8). -/
def State.takeTL (s : State) (ps : List Int) : State :=
  (s.setLock (parN ps 1) .locked).reply .TL [fnat (parN ps 1), .word Lock.locked.word]

/-- TL (R8). -/
def execTankLock (ps : List Int) (s : State) : Host.Outcome State Fault Refusal :=
  .next (s.consoleRequest .TL ps (tlChecks s ps) fun s => s.takeTL ps)

/-- TU taken (R9): a change from LOCKED to FREE has the arbiter scan. -/
def State.takeTU (s : State) (ps : List Int) : State :=
  let t := parN ps 1
  let changed := decide ((s.tank t).lock = .locked)
  let s := (s.setLock t .free).reply .TU [fnat t, .word Lock.free.word]
  if changed then s.scan else s

/-- TU (R9). -/
def execTankUnlock (ps : List Int) (s : State) : Host.Outcome State Fault Refusal :=
  .next (s.consoleRequest .TU ps (tqChecks s ps) fun s => s.takeTU ps)

end Sys2Proof.Machine
end

