-- ==== Sys2Proof/Machine/Dispatch.lean ====
section
/-! DEFINITION. The meaning of each command: one arm per constructor of Instr, each a direct call. -/

namespace Sys2Proof.Machine

/-- The effect of a command on everything but the queue of waiting commands. -/
def exec (i : Instr) (s : State) : Host.Outcome State Fault Refusal :=
  match i with
  | .identify ps => Sys2Proof.Machine.execIdentify ps s
  | .mode ps => Sys2Proof.Machine.execMode ps s
  | .location ps => Sys2Proof.Machine.execLocation ps s
  | .berthRecord ps => Sys2Proof.Machine.execBerthRecord ps s
  | .tide ps => Sys2Proof.Machine.execTide ps s
  | .fixedWeight ps => Sys2Proof.Machine.execFixedWeight ps s
  | .tankQuery ps => Sys2Proof.Machine.execTankQuery ps s
  | .tankOriginDeclare ps => Sys2Proof.Machine.execTankOriginDeclare ps s
  | .tankLock ps => Sys2Proof.Machine.execTankLock ps s
  | .tankUnlock ps => Sys2Proof.Machine.execTankUnlock ps s
  | .transferAdmit ps => Sys2Proof.Machine.execTransferAdmit ps s
  | .transferChange ps => Sys2Proof.Machine.execTransferChange ps s
  | .transferRetire ps => Sys2Proof.Machine.execTransferRetire ps s
  | .transferQuery ps => Sys2Proof.Machine.execTransferQuery ps s
  | .moverQuery ps => Sys2Proof.Machine.execMoverQuery ps s
  | .moverReset ps => Sys2Proof.Machine.execMoverReset ps s
  | .planAppend ps => Sys2Proof.Machine.execPlanAppend ps s
  | .planInsert ps => Sys2Proof.Machine.execPlanInsert ps s
  | .planChange ps => Sys2Proof.Machine.execPlanChange ps s
  | .planRetire ps => Sys2Proof.Machine.execPlanRetire ps s
  | .holdCargo ps => Sys2Proof.Machine.execHoldCargo ps s
  | .conditionQuery ps => Sys2Proof.Machine.execConditionQuery ps s
  | .watchedQuantityQuery ps => Sys2Proof.Machine.execWatchedQuantityQuery ps s
  | .report ps => Sys2Proof.Machine.execReport ps s
  | .reportAbort ps => Sys2Proof.Machine.execReportAbort ps s
  | .attentionQuery ps => Sys2Proof.Machine.execAttentionQuery ps s
  | .attentionAcknowledge ps => Sys2Proof.Machine.execAttentionAcknowledge ps s
  | .faultQuery ps => Sys2Proof.Machine.execFaultQuery ps s
  | .faultAcknowledge ps => Sys2Proof.Machine.execFaultAcknowledge ps s
  | .settingsSet ps => Sys2Proof.Machine.execSettingsSet ps s
  | .settingsSave ps => Sys2Proof.Machine.execSettingsSave ps s
  | .particularsWrite ps => Sys2Proof.Machine.execParticularsWrite ps s
  | .particularsCommit ps => Sys2Proof.Machine.execParticularsCommit ps s
  | .commandResetRequest ps => Sys2Proof.Machine.execCommandResetRequest ps s
  | .resetCauseQuery ps => Sys2Proof.Machine.execResetCauseQuery ps s
  | .resetCauseClear ps => Sys2Proof.Machine.execResetCauseClear ps s
  | .clearanceQuery ps => Sys2Proof.Machine.execClearanceQuery ps s
  | .chuteStart ps => Sys2Proof.Machine.execChuteStart ps s
  | .chuteTally ps => Sys2Proof.Machine.execChuteTally ps s
  | .chuteEnd ps => Sys2Proof.Machine.execChuteEnd ps s
  | .draftQuery ps => Sys2Proof.Machine.execDraftQuery ps s
  | .characterReceived l c stopValid => Sys2Proof.Machine.execCharacterReceived l c stopValid s
  | .pauseReceived l => Sys2Proof.Machine.execPauseReceived l s
  | .resumeReceived l => Sys2Proof.Machine.execResumeReceived l s
  | .parserTakesCharacter l => Sys2Proof.Machine.execParserTakesCharacter l s
  | .lineSent => Sys2Proof.Machine.execLineSent s
  | .shoreLineSent => Sys2Proof.Machine.execShoreLineSent s
  | .frameTimerExpiry => Sys2Proof.Machine.execFrameTimerExpiry s
  | .pointReport addr value => Sys2Proof.Machine.execPointReport addr value s
  | .endOfScanReport => Sys2Proof.Machine.execEndOfScanReport s
  | .scanLimitExpiry => Sys2Proof.Machine.execScanLimitExpiry s
  | .evaluationCompletes => Sys2Proof.Machine.execEvaluationCompletes s
  | .predictionCompletes => Sys2Proof.Machine.execPredictionCompletes s
  | .tideExpiry => Sys2Proof.Machine.execTideExpiry s
  | .grantTimerExpiry => Sys2Proof.Machine.execGrantTimerExpiry s
  | .confirmationTimerExpiry => Sys2Proof.Machine.execConfirmationTimerExpiry s
  | .attemptTimerExpiry => Sys2Proof.Machine.execAttemptTimerExpiry s
  | .originStoreWriteComplete => Sys2Proof.Machine.execOriginStoreWriteComplete s
  | .particularsCommitTakesEffect => Sys2Proof.Machine.execParticularsCommitTakesEffect s
  | .settingsSaveComplete => Sys2Proof.Machine.execSettingsSaveComplete s
  | .powerReset => Sys2Proof.Machine.execPowerReset s
  | .lineReset => Sys2Proof.Machine.execLineReset s
  | .commandReset => Sys2Proof.Machine.execCommandReset s
  | .start => Sys2Proof.Machine.execStart s
  | .lossOfPower => Sys2Proof.Machine.execLossOfPower s
  | .resetRelease => Sys2Proof.Machine.execResetRelease s

end Sys2Proof.Machine
end

