-- ==== Sys2Proof/Machine/Ticks.lean ====
section
/-! DEFINITION. The passing of time (log 1): one millisecond, in which the lines in transmission go on (log 18). -/

namespace Sys2Proof.Machine

/-- A line in transmission after a millisecond at a rate code: ten bits a character (R184), so `baud` ten-thousandths of
a character a millisecond, and never past the LF, whose sending is LINE_SENT or SHORE_LINE_SENT. -/
def TxLine.advance (rate : Nat) (t : TxLine) : TxLine :=
  { t with progress := min ((t.line.text.length - 1) * 10000) (t.progress + Config.baud rate) }

/-- One millisecond passes. The console line stands still under the hold (R186); the shore line goes on (R136). -/
def State.tick (s : State) : State :=
  let s := s.setNow (s.now + 1)
  let s := s.setConsole { s.console with
    tx := if s.console.hold then s.console.tx else s.console.tx.map (TxLine.advance s.console.rate) }
  s.setShore { s.shore with tx := s.shore.tx.map (TxLine.advance s.shore.rate) }

end Sys2Proof.Machine
end

