-- ==== Sys2Proof/Safety.lean ====
section
/-! DEFINITION. The vocabulary of the statements: which request a link takes, the lines a link still has to send, the
writing of a sequence, and the invariants that every step keeps. Nothing here is part of the machine. -/

namespace Sys2Proof.Machine

/-! ## Requests and lines -/

/-- The command that a sequence of a verb stands for (section 10.5, section 7.1). -/
def Verb.command : Verb → List Int → Instr
  | .ID => .identify | .MD => .mode | .LC => .location | .BR => .berthRecord | .TD => .tide | .FW => .fixedWeight
  | .TQ => .tankQuery | .TO => .tankOriginDeclare | .TL => .tankLock | .TU => .tankUnlock | .XA => .transferAdmit
  | .XC => .transferChange | .XR => .transferRetire | .XQ => .transferQuery | .MQ => .moverQuery | .MR => .moverReset
  | .PA => .planAppend | .PI => .planInsert | .PC => .planChange | .PR => .planRetire | .HC => .holdCargo
  | .KQ => .conditionQuery | .WQ => .watchedQuantityQuery | .RP => .report | .RA => .reportAbort
  | .AQ => .attentionQuery | .AK => .attentionAcknowledge | .FQ => .faultQuery | .FA => .faultAcknowledge
  | .SS => .settingsSet | .SV => .settingsSave | .PW => .particularsWrite | .PK => .particularsCommit
  | .RS => .commandResetRequest | .RQ => .resetCauseQuery | .RC => .resetCauseClear | .CQ => .clearanceQuery
  | .CS => .chuteStart | .CT => .chuteTally | .CE => .chuteEnd | .DQ => .draftQuery

/-- The console takes a request of a verb (R188, log 4): the part runs, no particulars commit holds the parser, and
the sequence in hand is this one, or none is in hand and the parser could have terminated this one without a gap. -/
def ConsoleTakes (s : State) (v : Verb) (ps : List Int) : Prop :=
  s.modes.condition = .running ∧ s.particulars.writing = none ∧
    (s.console.rx.inHand = some ⟨v, ps⟩ ∨
      (s.console.rx.inHand = none ∧ s.console.replies.length < 8 ∧ s.console.rx.gap = false ∧
        s.modes.resetAsked = none))

/-- The shore takes a request of a verb (R135, log 4): the part runs, no clearance is in progress, and the sequence in
hand is this one, or none is in hand, no reply waits in its slot or in the buffer, and there is no gap. -/
def ShoreTakes (s : State) (v : Verb) (ps : List Int) : Prop :=
  s.modes.condition = .running ∧ s.pour.clearance = none ∧
    (s.shore.rx.inHand = some ⟨v, ps⟩ ∨
      (s.shore.rx.inHand = none ∧ s.shore.rx.gap = false ∧ s.shore.replyPending = false))

/-- The lines that the console still has to send, in the order in which they go: in transmission, in the buffer, in
the reply queue (R189). -/
def ConsolePort.outgoing (p : ConsolePort) : List Line :=
  p.tx.toList.map TxLine.line ++ p.buffer.toList.map QueuedLine.line ++ p.replies.map QueuedLine.line

/-- The lines that the shore link still has to send, in order: in transmission, in the buffer, in the slots (R136). -/
def ShorePort.outgoing (p : ShorePort) : List Line :=
  p.tx.toList.map TxLine.line ++ p.buffer.toList.map Prod.snd ++ p.slots.map Prod.snd

/-- The Shore Port once its lines have moved on (R136): under the hold nothing moves; with a line in transmission the line
that arose earliest stands in the buffer; with none, the first line of buffer and slots is in transmission and the next in
the buffer. -/
def ShorePort.movedOn (p : ShorePort) : ShorePort :=
  let lines := p.buffer.toList ++ p.slots
  if p.hold = true then p
  else if p.tx ≠ none then { p with buffer := lines.head?, slots := lines.tail }
  else { p with tx := lines.head?.map fun q => ⟨q.2, 0⟩, buffer := lines[1]?, slots := lines.drop 2 }

/-! ## Sequences as characters (section 10.3) -/

/-- The characters of a sequence: '#', two letters, each parameter after a ',', ';' (section 10.3). -/
def Sequence.bytes (q : Sequence) : List Byte :=
  ('#' :: q.verb.chars.1 :: q.verb.chars.2 :: (q.params.flatMap fun p => ',' :: intText p) ++ [';']).map charByte

/-- The parser over a run of characters, with the terminations it made on the way. -/
def Parser.run : Parser → List Byte → Parser × List Ending
  | x, [] => (x, [])
  | x, c :: cs =>
    let y := x.step c
    let z := Parser.run y.1 cs
    (z.1, y.2.toList ++ z.2)

/-! ## Resets -/

/-- From `s` to `t` every store write in progress has completed, as before a LINE, COMMAND or RESTART reset acts: the
particulars and the settings being written are in their stores, and the origin store holds the copy being written, or the
origins as they stood where a second write was due; where a commit took effect the origins of the numbers that it newly
defines or no longer defines are cleared, and no write is left (R17, R19, R202, R204, R206). -/
def WritesCompleted (s t : State) : Prop :=
  let block := s.particulars.writing
  let differs := fun n : Nat => ∃ m ∈ block.toList, tankDefined s.parts n ≠ tankDefined (some m) n
  let changed := ∃ n ∈ List.range 25, 1 ≤ n ∧ differs n
  (t.settings.saving = none ∧ t.particulars.writing = none ∧ t.tankTable.writing = none ∧ t.tankTable.rewrite = false) ∧
    t.settings.store = s.settings.saving.getD s.settings.store ∧
    t.settings.storeGood = (s.settings.storeGood || s.settings.saving.isSome) ∧
    (t.particulars.store = block.getD s.particulars.store ∧
      t.particulars.storeChecksum = (block.map fun m => m.checksum).getD s.particulars.storeChecksum ∧
      t.particulars.storeBlank = (s.particulars.storeBlank && block.isNone)) ∧
    (changed → t.tankTable.storeGood = true ∧ ∀ n, 1 ≤ n → n ≤ 24 →
      t.tankTable.store[n - 1]? = some (if differs n then OriginEntry.blank else (s.tank n).origin)) ∧
    (¬ changed → s.tankTable.writing = none →
      t.tankTable.store = s.tankTable.store ∧ t.tankTable.storeGood = s.tankTable.storeGood) ∧
    ∀ copy, ¬ changed → s.tankTable.writing = some copy → t.tankTable.storeGood = true ∧
      t.tankTable.store = if s.tankTable.rewrite = true then s.tankTable.origins else copy

/-- From `s` to `t` the fixed items, the hold masses, the berth record and the location are kept, as through a LINE,
COMMAND or RESTART reset; a commit that completes clears the items and holds that it newly defines or no longer defines
(R97, R117, R137, R157, R197). -/
def MassesKept (s t : State) : Prop :=
  let kept := fun (defined : Option Memory → Nat → Bool) (n : Nat) =>
    ∀ m ∈ s.particulars.writing.toList, defined s.parts n = true ∧ defined (some m) n = true
  t.cond.berth = s.cond.berth ∧ t.modes.location = s.modes.location ∧
    (∀ n, 1 ≤ n → n ≤ 8 → t.itemRecord n = if kept itemDefined n then s.itemRecord n else ⟨0, false⟩) ∧
    ∀ n, 1 ≤ n → n ≤ 9 → t.holdRecord n = if kept holdDefined n then s.holdRecord n else ⟨0, false⟩

/-! ## Invariants -/

/-- A block of words in canonical form that lists addresses of the block alone (section 11.2). -/
def Memory.good (m : Memory) : Prop := Memory.wf m = true ∧ ∀ q ∈ m, q.1 < Config.blockWords

/-- Every block of the Particulars Store is good. -/
def ParticularsGood (s : State) : Prop :=
  (∀ m, s.particulars.inUse = some m → m.good) ∧ s.particulars.store.good ∧
    (∀ m, s.particulars.writing = some m → m.good) ∧ (∀ m, s.particulars.edit = some m → m.good)

/-- The attention set is within its bounds: 64 items, each at most once, an overflow count of at most 255 (R191). -/
def AttentionSet.Good (a : AttentionSet) : Prop :=
  a.items.length ≤ Config.attentionCount ∧ a.items.Nodup ∧ a.overflow ≤ 255

/-- The links are within their bounds: the receive queues (R185), the reply queue with room for the reply of the
sequence in hand (R188), one line in each slot (R136). -/
def LinksGood (s : State) : Prop :=
  s.console.rx.queue.length ≤ Config.receiveCapacity .console ∧
    s.shore.rx.queue.length ≤ Config.receiveCapacity .shore ∧
    s.console.replies.length ≤ Config.replyCount ∧
    ((s.console.rx.inHand ≠ none ∨ s.particulars.writing ≠ none) → s.console.replies.length < Config.replyCount) ∧
    (s.shore.slots.map Prod.fst).Nodup

/-- Only a drive point is commanded ON, only in fault state NORMAL, and the valve of a tank only while the tank is claimed
(R24 to R26). -/
def DriveGood (s : State) : Prop :=
  ∀ a, (s.drive a).on = true → (roleOf s.parts a).isDrive = true ∧ s.faults.state = .normal ∧
    ∀ n, roleOf s.parts a = .tankValve n → (s.tank n).claim ≠ none

/-- A part that does not run has nothing in progress: no command ON, no window, no frame timer, no run, no commit, and
fault state NORMAL (R39, R117, R170). -/
def AtRest (s : State) : Prop :=
  s.modes.condition ≠ .running →
    (∀ a, (s.drive a).on = false) ∧ s.loop.window = none ∧ s.loop.frameTimer = none ∧ s.cond.evaluation = none ∧
      s.cond.prediction = none ∧ s.particulars.writing = none ∧ s.faults.state = .normal

/-- The drive invariant. -/
def DriveSafe (s : State) : Prop := DriveGood s ∧ AtRest s

/-- The ids in the run slots and on the stacks. -/
def State.placed (s : State) : List Nat :=
  allMovers.flatMap fun m => (s.mover m).run.toList ++ (s.mover m).stack

/-- Every record in use stands in one place: the pending queue, a run slot or a stack, and these hold nothing else. At most
16 records are in use, each with its own id 1..255; one that holds a reservation is pending; a part that does not run has
none (R41, R42, R44, R54, R69). -/
def TransfersPlaced (s : State) : Prop :=
  (s.transfers.records.map Transfer.id).Nodup ∧
    (s.transfers.queue ++ s.placed).Perm (s.transfers.records.map Transfer.id) ∧
    s.transfers.records.length ≤ Config.transferCount ∧
    (∀ t ∈ s.transfers.records, 1 ≤ t.id ∧ t.id ≤ 255 ∧ (t.reservation ≠ none → t.id ∈ s.transfers.queue)) ∧
    (s.modes.condition ≠ .running → s.transfers.records = [])

/-- A step stands GRANTED or POURING, or a clearance is in progress. -/
def State.pourAllowed (s : State) : Prop :=
  s.pour.clearance ≠ none ∨ ∃ x ∈ s.pour.steps, x.state = .granted ∨ x.state = .pouring

/-- The plan names each step once; only its head is GRANTED, POURING or HELD, and a clearance is for its head, READY; while
a clearance, a grant or a pour stands, no watched entry blocks, the fault state is NORMAL and the mode BERTH; a part that
does not run has no step and no clearance (section 7.7, R127, R146 to R151, R157). -/
def PourSafe (s : State) : Prop :=
  (s.pour.steps.map PourStep.id).Nodup ∧
    (∀ x ∈ s.pour.steps, x.state = .granted ∨ x.state = .pouring ∨ x.state = .held → s.pour.steps.head? = some x) ∧
    (∀ id, s.pour.clearance = some id → ∃ x, s.pour.steps.head? = some x ∧ x.id = id ∧ x.state = .ready) ∧
    (s.pourAllowed → (∀ i ∈ List.range 36, (s.watched i).state ≠ .limit ∧ (s.watched i).state ≠ .breach ∧
      (s.watched i).state ≠ .indeterminate) ∧ s.faults.state = .normal ∧ s.modes.mode = .berth) ∧
    (s.modes.condition ≠ .running → s.pour.steps = [] ∧ s.pour.clearance = none)

end Sys2Proof.Machine
end

