-- ==== Sys2Proof/WellFormed.lean ====
section
/-! DEFINITION. Which command terms the links can carry: a sequence has at most 16 parameters, each of 1 to 9 decimal
digits with an optional sign (section 10.3). The meanings are total and do not ask for this form. -/

namespace Sys2Proof

/-- A parameter that nine decimal digits and a sign can write (section 10.3). -/
def paramWellFormed (p : Int) : Bool :=
  decide (-999999999 ≤ p) && decide (p ≤ 999999999)

/-- At most 16 parameters, each one that the grammar can write (section 10.3, R187). -/
def paramsWellFormed (ps : List Int) : Bool :=
  decide (ps.length ≤ 16) && ps.all paramWellFormed

/-- A command term that the links can bring. An event row has no operand to check but the point report's address,
which is 0..127 in the layout of section 2.4 only for an answer in order: a byte above is a report out of order and
is a command like any other (R29). -/
def Instr.wellFormed : Instr → Bool
  | .identify ps => paramsWellFormed ps
  | .mode ps => paramsWellFormed ps
  | .location ps => paramsWellFormed ps
  | .berthRecord ps => paramsWellFormed ps
  | .tide ps => paramsWellFormed ps
  | .fixedWeight ps => paramsWellFormed ps
  | .tankQuery ps => paramsWellFormed ps
  | .tankOriginDeclare ps => paramsWellFormed ps
  | .tankLock ps => paramsWellFormed ps
  | .tankUnlock ps => paramsWellFormed ps
  | .transferAdmit ps => paramsWellFormed ps
  | .transferChange ps => paramsWellFormed ps
  | .transferRetire ps => paramsWellFormed ps
  | .transferQuery ps => paramsWellFormed ps
  | .moverQuery ps => paramsWellFormed ps
  | .moverReset ps => paramsWellFormed ps
  | .planAppend ps => paramsWellFormed ps
  | .planInsert ps => paramsWellFormed ps
  | .planChange ps => paramsWellFormed ps
  | .planRetire ps => paramsWellFormed ps
  | .holdCargo ps => paramsWellFormed ps
  | .conditionQuery ps => paramsWellFormed ps
  | .watchedQuantityQuery ps => paramsWellFormed ps
  | .report ps => paramsWellFormed ps
  | .reportAbort ps => paramsWellFormed ps
  | .attentionQuery ps => paramsWellFormed ps
  | .attentionAcknowledge ps => paramsWellFormed ps
  | .faultQuery ps => paramsWellFormed ps
  | .faultAcknowledge ps => paramsWellFormed ps
  | .settingsSet ps => paramsWellFormed ps
  | .settingsSave ps => paramsWellFormed ps
  | .particularsWrite ps => paramsWellFormed ps
  | .particularsCommit ps => paramsWellFormed ps
  | .commandResetRequest ps => paramsWellFormed ps
  | .resetCauseQuery ps => paramsWellFormed ps
  | .resetCauseClear ps => paramsWellFormed ps
  | .clearanceQuery ps => paramsWellFormed ps
  | .chuteStart ps => paramsWellFormed ps
  | .chuteTally ps => paramsWellFormed ps
  | .chuteEnd ps => paramsWellFormed ps
  | .draftQuery ps => paramsWellFormed ps
  | .characterReceived _ _ _ => true
  | .pauseReceived _ => true
  | .resumeReceived _ => true
  | .parserTakesCharacter _ => true
  | .lineSent => true
  | .shoreLineSent => true
  | .frameTimerExpiry => true
  | .pointReport _ _ => true
  | .endOfScanReport => true
  | .scanLimitExpiry => true
  | .evaluationCompletes => true
  | .predictionCompletes => true
  | .tideExpiry => true
  | .grantTimerExpiry => true
  | .confirmationTimerExpiry => true
  | .attemptTimerExpiry => true
  | .originStoreWriteComplete => true
  | .particularsCommitTakesEffect => true
  | .settingsSaveComplete => true
  | .powerReset => true
  | .lineReset => true
  | .commandReset => true
  | .start => true
  | .lossOfPower => true
  | .resetRelease => true

end Sys2Proof
end

