-- ==== Sys2Proof/Certificates/Slice0/Obligations.lean ====
section
/-! DEFINITION. The statements about the model, for the provers. A statement says what it rests on in its docstring; the
list with ids and citations is OBLIGATIONS.json. -/

section

open Sys2Proof Sys2Proof.Machine

/-! ## The queue, the links -/

/-- A step of a state with a command at the front of its queue is that command's effect on the state with the queue's
rest (the queue and the order of its commands are the model's, log 1). -/
def Obligations.StepRunsTheFrontCommand : Prop :=
  (∀ (c : Instr) (s : State), step (s.setPending (c :: s.pending)) = exec c s) ∧
    ∀ (c : Instr) (rest : List Instr) (s : State), s.pending = c :: rest → step s = exec c (s.setPending rest)

/-- With an empty queue one millisecond passes and only the lines in transmission go on (the model's choice, log 1 and
log 18). -/
def Obligations.EmptyQueueLetsAMillisecondPass : Prop :=
  ∀ s : State, s.pending = [] →
    ∃ t : State, step s = .next t ∧
      t = ((s.setNow (s.now + 1)).setConsole { s.console with tx := t.console.tx }).setShore
        { s.shore with tx := t.shore.tx } ∧
      (s.console.hold = true → t.console.tx = s.console.tx) ∧
      (s.console.hold = false → t.console.tx = s.console.tx.map fun x =>
        { x with progress := min ((x.line.text.length - 1) * 10000) (x.progress + Config.baud s.console.rate) }) ∧
      t.shore.tx = s.shore.tx.map fun x =>
        { x with progress := min ((x.line.text.length - 1) * 10000) (x.progress + Config.baud s.shore.rate) }

/-- Every command answers a next state, and the queue of waiting commands is as it was: no command stops the part, and
none puts a command into the queue. -/
def Obligations.EveryCommandAnswersNextAndKeepsTheQueue : Prop :=
  ∀ (c : Instr) (s : State), ∃ t : State, exec c s = .next t ∧ t.pending = s.pending

/-- A request row whose sequence the link does not take changes nothing, and the first one after a dropped character is
refused LOST and clears the gap flag (log 4). -/
def Obligations.RequestsOutOfTurn : Prop :=
  (∀ v ∈ consoleVerbs, ∀ (ps : List Int) (s : State),
    ((s.modes.condition ≠ .running ∨ s.particulars.writing ≠ none ∨
        (∃ q, s.console.rx.inHand = some q ∧ q ≠ ⟨v, ps⟩) ∨
        (s.console.rx.inHand = none ∧ (8 ≤ s.console.replies.length ∨ s.modes.resetAsked ≠ none))) →
      exec (v.command ps) s = .next s) ∧
    (s.modes.condition = .running → s.particulars.writing = none → s.console.rx.inHand = none →
      s.console.replies.length < 8 → s.modes.resetAsked = none → s.console.rx.gap = true →
      exec (v.command ps) s =
        .next ((s.setConsole { s.console with rx := { s.console.rx with gap := false } }).refuse v .lost))) ∧
  (∀ v ∈ shoreVerbs, ∀ (ps : List Int) (s : State),
    ((s.modes.condition ≠ .running ∨ s.pour.clearance ≠ none ∨
        (∃ q, s.shore.rx.inHand = some q ∧ q ≠ ⟨v, ps⟩) ∨
        (s.shore.rx.inHand = none ∧ s.shore.replyPending = true)) →
      exec (v.command ps) s = .next s) ∧
    (s.modes.condition = .running → s.pour.clearance = none → s.shore.rx.inHand = none →
      s.shore.replyPending = false → s.shore.rx.gap = true →
      exec (v.command ps) s =
        .next ((s.setShore { s.shore with rx := { s.shore.rx with gap := false } }).shoreRefuse v .lost)))

/-- A console reply ends the sequence in hand and is the newest line of the link. Nothing but the Console Port, the
composer and the shore link's lines changes, and while no report is asked nothing but the Console Port, whose lines go
in the order in which they joined (R189). While the buffer is empty and the composer does not stream, the oldest line of the
reply queue moves into the buffer, and from there into an idle transmitter without a hold, the buffer being filled again as
ReportsAreComposed says (R173, R189; the moves are made in the event itself, log 45). A line that arises for a slot of the
Shore Port takes the place of a line that waits there, or is the newest; lines move on in order into the buffer and into
transmission while the hold is clear, and nothing else changes (R136). A shore reply also ends the sequence in hand. -/
def Obligations.LinesArePlaced : Prop :=
  (∀ (s : State) (l : Line),
    let t := s.consoleLine l
    t = ((s.setConsole t.console).setComposer t.composer).setShore t.shore ∧
      t.console.rx = { s.console.rx with inHand := none } ∧ t.console.hold = s.console.hold ∧
      t.console.rate = s.console.rate ∧ t.shore.rx = s.shore.rx ∧ t.shore.hold = s.shore.hold ∧
      t.shore.rate = s.shore.rate ∧ t.console.outgoing.getLast? = some l ∧
      (s.composer.state = .idle →
        let lines := s.console.buffer.toList ++ s.console.replies ++ [⟨l, false⟩]
        let busy := s.console.tx ≠ none ∨ s.console.hold = true
        t = s.setConsole t.console ∧ t.console.outgoing = s.console.outgoing ++ [l] ∧
          t.console.tx = (if busy then s.console.tx else lines.head?.map fun q => ⟨q.line, 0⟩) ∧
          t.console.buffer = (if busy then lines.head? else lines[1]?) ∧
          t.console.replies = (if busy then lines.tail else lines.drop 2))) ∧
  (∀ (s : State) (l : Line), s.consoleLine l =
    (s.setConsole { s.console with rx := { s.console.rx with inHand := none } }).joinReplies ⟨l, false⟩) ∧
  (∀ (s : State) (q : QueuedLine),
    let queue := s.console.replies ++ [q]
    let yields := match s.composer.state with
      | .composing _ _ _ _ _ => false
      | _ => true
    s.joinReplies q =
      (if s.console.buffer = none ∧ yields = true then
        s.setConsole { s.console with buffer := queue.head?, replies := queue.tail }
      else s.setConsole { s.console with replies := queue }).startConsole) ∧
  (∀ s : State, (s.console.tx ≠ none ∨ s.console.hold = true ∨ s.console.buffer = none) → s.startConsole = s) ∧
  (∀ (s : State) (k : ShoreSlot) (l : Line), s.shoreSend k l = s.setShore
    ({ s.shore with
        slots := if s.shore.slots.any fun q => decide (q.1 = k) then
            s.shore.slots.map fun q => if q.1 = k then (k, l) else q
          else s.shore.slots ++ [(k, l)] } : ShorePort).movedOn) ∧
  (∀ (s : State) (k : ShoreSlot) (l : Line),
    let t := s.shoreSend k l
    t = s.setShore t.shore ∧ t.shore.rx = s.shore.rx ∧ t.shore.hold = s.shore.hold ∧ t.shore.rate = s.shore.rate ∧
      t.shore.outgoing = s.shore.tx.toList.map TxLine.line ++ s.shore.buffer.toList.map Prod.snd ++
        (if s.shore.slots.any fun q => decide (q.1 = k) then
          s.shore.slots.map fun q => if q.1 = k then l else q.2
        else s.shore.slots.map Prod.snd ++ [l])) ∧
  ∀ (s : State) (l : Line),
    s.shoreReply l =
      (s.setShore { s.shore with rx := { s.shore.rx with inHand := none } }).shoreSend .reply l

/-- The parser's table of moves, and the bound of 16 parameters that follows from it (R187). -/
def Obligations.ParserMovesByItsState : Prop :=
  (∀ c : Byte,
    Parser.ground.step c = (if c = charByte '#' then (.verb [], none) else (.ground, none)) ∧
    (∀ ls : List Byte, ls.length < 2 →
      (Parser.verb ls).step c =
        (if 0x41 ≤ c.toNat ∧ c.toNat ≤ 0x5A then (.verb (ls ++ [c]), none) else (.discard none, none))) ∧
    (∀ a b : Byte,
      (Parser.verb [a, b]).step c =
        (if c = charByte ',' then (.parameter (a, b) [] false [], none)
        else if c = charByte ';' then (.ground, some (.complete (a, b) []))
        else (.discard (some (a, b)), none))) ∧
    (∀ (ls : Byte × Byte) (ps : List Int) (neg : Bool) (ds : List Nat),
      (Parser.parameter ls ps neg ds).step c =
        (if c = charByte '-' ∧ neg = false ∧ ds = [] then (.parameter ls ps true [], none)
        else if (0x30 ≤ c.toNat ∧ c.toNat ≤ 0x39) ∧ ds.length < 9 then
          (.parameter ls ps neg (ds ++ [c.toNat - 0x30]), none)
        else if c = charByte ',' ∧ ds ≠ [] ∧ ps.length < 15 then
          (.parameter ls (ps ++ [paramValue neg ds]) false [], none)
        else if c = charByte ';' ∧ ds ≠ [] then (.ground, some (.complete ls (ps ++ [paramValue neg ds])))
        else (.discard (some ls), none))) ∧
    (∀ ls : Option (Byte × Byte),
      (Parser.discard ls).step c =
        (if c = charByte ';' then (.ground, some (.malformed ls)) else (.discard ls, none)))) ∧
  ∀ (cs : List Byte) (p : Byte × Byte) (ps : List Int),
    Ending.complete p ps ∈ (Parser.run .ground cs).2 → ps.length ≤ 16

/-- Every sequence that the grammar can write, of every verb and every list of parameters, is read back by the parser
as itself, with one termination and nothing left over; a link hands on its own verbs and refuses the others VERB
(section 10.3, R187, R188). -/
def Obligations.ParserReadsEveryWrittenSequence : Prop :=
  ∀ (l : Link) (v : Verb) (ps : List Int), paramsWellFormed ps = true →
    Parser.run .ground (Sequence.bytes ⟨v, ps⟩) = (.ground, [.complete v.letters ps]) ∧
      (v ∈ linkVerbs l → judgeEnding l false (.complete v.letters ps) = .inr ⟨v, ps⟩) ∧
      (v ∉ linkVerbs l → judgeEnding l false (.complete v.letters ps) = .inl .verb)

/-- The parser of a link takes the oldest queued character when it may: the character leaves the queue and moves the
parser, RESUME is sent when a paused queue has fallen to its mark, and a termination is refused LOST, FORM or VERB by the
port or puts the sequence in hand. It takes nothing otherwise (R186 to R188, R135). -/
def Obligations.ParserTakesTheOldestCharacter : Prop :=
  ∀ (l : Link) (s : State),
    let ready := s.modes.condition = .running ∧ (s.rx l).inHand = none ∧
      match l with
      | .console => s.console.replies.length < 8 ∧ s.particulars.writing = none ∧ s.modes.resetAsked = none
      | .shore => s.shore.replyPending = false ∧ s.pour.clearance = none
    ((¬ ready ∨ (s.rx l).queue = []) → exec (.parserTakesCharacter l) s = .next s) ∧
    ∀ (c : Byte) (rest : List Byte), (s.rx l).queue = c :: rest → ready →
      let x := (s.rx l).parser.step c
      let u := s.setRx l { s.rx l with queue := rest, parser := x.1 }
      let t := if (s.rx l).paused = true ∧ rest.length ≤ Config.resumeAt l then
          (u.setRx l { u.rx l with paused := false }).send (.flow l false)
        else u
      let open' := t.setRx l { t.rx l with gap := false }
      exec (.parserTakesCharacter l) s = .next
        (match x.2 with
        | none => t
        | some e =>
          if (s.rx l).gap = true then open'.portRefusal l (.refusal e.letters .lost)
          else
            match e with
            | .malformed ls => open'.portRefusal l (.refusal ls .form)
            | .complete p ps =>
              match linkVerbOf l p with
              | some v => t.setRx l { t.rx l with inHand := some ⟨v, ps⟩ }
              | none => open'.portRefusal l (.refusal (some p) .verb))

/-- A received character: 0x13 is PAUSE and 0x11 RESUME; any other joins the receive queue, with PAUSE sent when an open
queue has come to its mark, or is dropped with the gap flag set when the queue is full. One without a valid stop bit
counts as 0x00 (R184 to R186). PAUSE sets the transmit hold of its link and loses no line; the console line in
transmission goes on to the end of its character at most (log 18). RESUME clears the hold, and the lines that wait move on,
a buffered line into an empty transmission and the lines behind it after it (R186, R136; in the event of the RESUME itself,
log 45). -/
def Obligations.CharactersAndFlowControlAreReceived : Prop :=
  (∀ (l : Link) (c : Byte) (stopValid : Bool) (s : State),
    let b : Byte := if stopValid = true then c else 0
    let r := s.rx l
    let u := s.setRx l { r with queue := r.queue ++ [b] }
    exec (.characterReceived l c stopValid) s = .next
      (if s.modes.condition ≠ .running then s
      else if b = 0x13 then s.holdLink l
      else if b = 0x11 then s.unholdLink l
      else if Config.receiveCapacity l ≤ r.queue.length then s.setRx l { r with gap := true }
      else if r.paused = false ∧ Config.pauseAt l ≤ r.queue.length + 1 then
        (u.setRx l { u.rx l with paused := true }).send (.flow l true)
      else u)) ∧
  ∀ s : State, s.modes.condition = .running →
    (∀ l : Link, exec (.pauseReceived l) s = .next (s.holdLink l) ∧ exec (.resumeReceived l) s = .next (s.unholdLink l)) ∧
    (exec (.resumeReceived .console) s = .next (s.setConsole { s.console with hold := false }).startConsole) ∧
    (exec (.resumeReceived .shore) s = .next (s.setShore ({ s.shore with hold := false } : ShorePort).movedOn)) ∧
    (∃ t : State, exec (.pauseReceived .console) s = .next t ∧ t = s.setConsole t.console ∧ t.console.hold = true ∧
      t.console.rx = s.console.rx ∧ t.console.rate = s.console.rate ∧ t.console.outgoing = s.console.outgoing ∧
      t.console.buffer = s.console.buffer ∧ t.console.replies = s.console.replies) ∧
    (exec (.pauseReceived .shore) s = .next (s.setShore { s.shore with hold := true })) ∧
    (∃ t : State, exec (.resumeReceived .console) s = .next t ∧
      t = ((s.setConsole t.console).setComposer t.composer).setShore t.shore ∧ t.console.hold = false ∧
      t.console.rx = s.console.rx ∧ t.console.rate = s.console.rate ∧
      (∀ x, s.console.tx = some x → t = s.setConsole { s.console with hold := false }) ∧
      (s.console.tx = none → t.console.tx = s.console.buffer.map fun q => ⟨q.line, 0⟩) ∧
      (s.composer.state = .idle → t.console.outgoing = s.console.outgoing)) ∧
    (∃ t : State, exec (.resumeReceived .shore) s = .next t ∧ t = s.setShore t.shore ∧ t.shore.hold = false ∧
      t.shore.rx = s.shore.rx ∧ t.shore.rate = s.shore.rate ∧ t.shore.outgoing = s.shore.outgoing)

/-- The end of a line in transmission: the line has been sent and is gone from the part, and the next buffered line goes
into transmission. On the console no line ends under the transmit hold, and the end of the RS reply is noted; on the
shore link a hold lets the line end, and then no line moves: without one the buffered line goes into transmission and the
line that arose earliest into the buffer (R136, R173, R186, R189, R206; the hold at the end of a character, log 18). The
console's buffer is filled again as ReportsAreComposed says. Without a line in transmission the event changes nothing
(log 3). -/
def Obligations.LinesAreSent : Prop :=
  (∀ (s : State) (x : TxLine), s.console.tx = some x → s.console.hold = false →
    ∃ t : State, exec .lineSent s = .next t ∧
      t = ((((s.setSent (s.sent ++ [.line .console x.line])).setModes t.modes).setConsole t.console).setComposer
        t.composer).setShore t.shore ∧
      t.modes = (if x.line = .reply .RS [] then
        { s.modes with resetAsked := s.modes.resetAsked.map fun r => { r with replySent := true } } else s.modes) ∧
      t.console.rx = s.console.rx ∧ t.console.hold = false ∧ t.console.rate = s.console.rate ∧
      t.console.tx = (s.console.buffer.map fun q => ⟨q.line, 0⟩) ∧
      (s.composer.state = .idle → t.console.outgoing = s.console.outgoing.tail ∧
        t.console.buffer = (if s.console.buffer = none then none else s.console.replies.head?) ∧
        t.console.replies = (if s.console.buffer = none then s.console.replies else s.console.replies.tail)) ∧
      t = (((s.setSent (s.sent ++ [.line .console x.line])).setModes t.modes).setConsole
        { s.console with tx := none }).startConsole) ∧
  (∀ s : State, (s.console.tx = none ∨ s.console.hold = true) → exec .lineSent s = .next s) ∧
  (∀ (s : State) (x : TxLine), s.shore.tx = some x →
    ∃ t : State, exec .shoreLineSent s = .next t ∧
      t = (s.setSent (s.sent ++ [.line .shore x.line])).setShore t.shore ∧ t.shore.rx = s.shore.rx ∧
      t.shore.hold = s.shore.hold ∧ t.shore.rate = s.shore.rate ∧ t.shore.outgoing = s.shore.outgoing.tail ∧
      t.shore = ({ s.shore with tx := none } : ShorePort).movedOn ∧
      (s.shore.hold = true → t.shore.tx = none ∧ t.shore.buffer = s.shore.buffer ∧ t.shore.slots = s.shore.slots) ∧
      (s.shore.hold = false → ∀ b, s.shore.buffer = some b →
        t.shore.tx = some ⟨b.2, 0⟩ ∧ t.shore.buffer = s.shore.slots.head? ∧ t.shore.slots = s.shore.slots.tail)) ∧
  (∀ s : State, s.shore.tx = none → exec .shoreLineSent s = .next s)

/-! ## The tank verbs -/

/-- TQ, MQ and FQ: their checks in order, and the fields of their replies (R20, R92, R169; times in whole seconds,
truncated, log 24). -/
def Obligations.RecordsAreQueried : Prop :=
  (∀ (s : State) (ps : List Int), ConsoleTakes s .TQ ps →
    let n := parN ps 1
    let x := s.tank n
    exec (.tankQuery ps) s = .next
      (if ps.length ≠ 1 then s.refuse .TQ .args
      else if ¬ (1 ≤ par ps 1 ∧ par ps 1 ≤ 24) then s.refuse .TQ .range
      else if s.faults.state = .restart then s.refuse .TQ .halt
      else if tankDefined s.parts n = false then s.refuse .TQ .none
      else s.reply .TQ ([fnat n, .word (sideWord (pword s.parts (tankBase n + 1))), fnat (tankCapacity s.parts n),
        fnat? x.volume, fnat? (x.volume.map fun v => v * 1025 / 1000), .word x.gauge.word,
        (match x.gauge with
          | .suspect k => fnat k
          | _ => .empty),
        .word (s.motion n).word, fnat? x.claim, .word x.lock.word, .word x.origin.exchange.word,
        .word x.origin.window.word, .num (if x.origin.more = true then 1 else 0)] ++ x.origin.codes.map fnat))) ∧
  (∀ (s : State) (ps : List Int), ConsoleTakes s .MQ ps →
    let m : MoverId := if par ps 1 = 1 then .m1 else if par ps 1 = 2 then .m2 else .m3
    let x := s.mover m
    let t := x.run.bind s.transfer?
    exec (.moverQuery ps) s = .next
      (if ps.length ≠ 1 then s.refuse .MQ .args
      else if ¬ (1 ≤ par ps 1 ∧ par ps 1 ≤ 3) then s.refuse .MQ .range
      else if s.faults.state = .restart then s.refuse .MQ .halt
      else s.reply .MQ
        ([.word m.word, .word m.kind.word, .word x.phase.word] ++
          (match x.phase with
            | .stopping reason outcome stage =>
              [.word reason.word, fword? (outcome.map TransferOutcome.word), .word stage.word]
            | _ => [.empty, .empty, .empty]) ++
          [fnat? x.run, fnat? (t.map fun y => y.active), fnat? (t.bind Transfer.activeTank), fnat? x.stack[0]?,
            fnat? x.stack[1]?, fnat ((s.now - x.timer) / 1000), fnat? (x.flow.bind fun f => f.volume),
            fnat? (x.flow.map fun f => (s.now - f.time) / 1000), fnat? (x.last.map fun q => q.1),
            fword? (x.last.map fun q => q.2.word),
            (match x.phase with
              | .faulted => fword? ((s.moverCause m).map MoverCause.word)
              | .stopping .fault _ _ => fword? ((s.moverCause m).map MoverCause.word)
              | _ => .empty),
            (match x.quiet with
              | some b => .num (if b = true then 1 else 0)
              | none => .empty)]))) ∧
  ∀ (s : State) (ps : List Int), ConsoleTakes s .FQ ps →
    let f := s.faults
    let cause := fun c : Option MoverCause => fword? (c.map MoverCause.word)
    exec (.faultQuery ps) s = .next
      (if ps.length ≠ 0 then s.refuse .FQ .args
      else s.reply .FQ ([.word f.state.word,
        (match f.first with
          | some c => .cause c
          | none => .empty),
        fnat f.causes.length, fnat? (f.confirmation.map fun t => (s.now - t) / 1000),
        (if f.attempts = 0 then .empty else fnat f.attempts), fword? (f.lastAttempt.map AttemptOutcome.word),
        .word s.loop.state.word, fnat s.loop.failures,
        (match s.loop.allOff with
          | some b => .num (if b = true then 1 else 0)
          | none => .empty),
        cause f.cause1, cause f.cause2, cause f.cause3] ++ f.causes.map Field.cause))

/-- TL locks an unclaimed tank; TU frees it, and has the arbiter scan when the lock changed (R8, R9, R21). TO declares the
origin fields of a tank, its window kept; a change has the origin store written (R15, R16; its reply is the TQ reply,
log 15). -/
def Obligations.TanksAreLockedAndDeclared : Prop :=
  (∀ (s : State) (ps : List Int),
    let n := parN ps 1
    (ConsoleTakes s .TL ps → exec (.tankLock ps) s = .next
      (if ps.length ≠ 1 then s.refuse .TL .args
      else if ¬ (1 ≤ par ps 1 ∧ par ps 1 ≤ 24) then s.refuse .TL .range
      else if s.faults.state = .restart then s.refuse .TL .halt
      else if tankDefined s.parts n = false then s.refuse .TL .none
      else if (s.tank n).claim ≠ none then s.refuse .TL .claim
      else (s.setTank n { s.tank n with lock := .locked }).reply .TL [fnat n, .word "LOCKED"])) ∧
    (ConsoleTakes s .TU ps → exec (.tankUnlock ps) s = .next
      (if ps.length ≠ 1 then s.refuse .TU .args
      else if ¬ (1 ≤ par ps 1 ∧ par ps 1 ≤ 24) then s.refuse .TU .range
      else if s.faults.state = .restart then s.refuse .TU .halt
      else if tankDefined s.parts n = false then s.refuse .TU .none
      else
        let t := (s.setTank n { s.tank n with lock := .free }).reply .TU [fnat n, .word "FREE"]
        if (s.tank n).lock = .locked then t.scan else t))) ∧
  ∀ (s : State) (ps : List Int), ConsoleTakes s .TO ps →
    let n := parN ps 1
    let codes := ps.drop 3
    let o : OriginEntry := ⟨codes.map Int.toNat, decide (par ps 3 = 1),
      if par ps 2 = 1 then .exchanged else .notExchanged, (s.tank n).origin.window⟩
    let set := s.setTank n { s.tank n with origin := o }
    let t := if (s.tank n).origin = o then s
      else if s.tankTable.writing = none then
        set.setTankTable { set.tankTable with writing := some set.tankTable.origins }
      else set.setTankTable { set.tankTable with rewrite := true }
    exec (.tankOriginDeclare ps) s = .next
      (if ¬ (3 ≤ ps.length ∧ ps.length ≤ 5) then s.refuse .TO .args
      else if ¬ (1 ≤ par ps 1 ∧ par ps 1 ≤ 24 ∧ 0 ≤ par ps 2 ∧ par ps 2 ≤ 1 ∧ 0 ≤ par ps 3 ∧ par ps 3 ≤ 1 ∧
          (∀ c ∈ codes, 1 ≤ c ∧ c ≤ 9999) ∧ codes.Nodup) then s.refuse .TO .range
      else if s.faults.state = .restart then s.refuse .TO .halt
      else if tankDefined s.parts n = false then s.refuse .TO .none
      else if (s.tank n).claim ≠ none then s.refuse .TO .claim
      else t.reply .TQ (t.tqFields n))

/-! ## The transfer verbs -/

/-- XA: its checks in order; the transfer is enrolled, the arbiter scans, and the reply states where it then stands
(R44, R45). A scan changes the Transfer Table, the movers, the drive image and the claims of tanks, and nothing else.
The id of an admission is the first number after the counter, counting upward and wrapping from 255 to 1, that no
record in use has; the counter becomes it. It is never 0, and there is one while the table is not full. The counter is 0
after a reset, and a halt leaves it (R42). The record takes what its source asks for, every entry not done, active index 1,
no reservation, never assigned, and joins the queue as a new transfer does (R44, R50). -/
def Obligations.TransferIsAdmittedWithItsId : Prop :=
  (∀ s : State,
    let u := s.scan
    u = (((s.setTransfers u.transfers).setMovers u.movers).setLoop { s.loop with drive := u.loop.drive }).setTankTable
        { s.tankTable with tanks := u.tankTable.tanks } ∧
      ∀ n, u.tank n = { s.tank n with claim := (u.tank n).claim }) ∧
  (∀ (s : State) (ps : List Int), ConsoleTakes s .XA ps →
    let qs := pairsFrom (ps.drop 3)
    let id := s.nextId
    let a : Admission := ⟨.planned, if par ps 1 = 1 then .strip else .pump, if par ps 2 = 1 then .fill else .discharge,
      qs.map fun q => (q.1.toNat, q.2.toNat), .console, none, decide (par ps 3 = 1)⟩
    let t := (s.enrol a).scan
    exec (.transferAdmit ps) s = .next
      (if ¬ (ps.length = 5 ∨ ps.length = 7 ∨ ps.length = 9 ∨ ps.length = 11) then s.refuse .XA .args
      else if ¬ (0 ≤ par ps 1 ∧ par ps 1 ≤ 1 ∧ 0 ≤ par ps 2 ∧ par ps 2 ≤ 1 ∧ 0 ≤ par ps 3 ∧ par ps 3 ≤ 1 ∧
          ¬ (par ps 1 = 1 ∧ par ps 2 = 1) ∧ (qs.map Prod.fst).Nodup ∧
          ∀ q ∈ qs, 1 ≤ q.1 ∧ q.1 ≤ 24 ∧ 0 ≤ q.2 ∧ q.2 ≤ 65535 ∧
            (tankDefined s.parts q.1.toNat = true → q.2 ≤ tankCapacity s.parts q.1.toNat)) then s.refuse .XA .range
      else if ¬ (s.modes.mode = .berth ∨ s.modes.mode = .passage) then s.refuse .XA .mode
      else if s.faults.state ≠ .normal then s.refuse .XA .halt
      else if ∃ q ∈ qs, tankDefined s.parts q.1.toNat = false then s.refuse .XA .none
      else if 16 ≤ s.transfers.records.length then s.refuse .XA .full
      else t.reply .XA [fnat id, .word (t.transferWord id), fword? ((t.activeOn id).map MoverId.word),
        fword? ((t.reservationOf id).map MoverId.word)])) ∧
  (∀ (s : State) (a : Admission), s.transfers.records.length < 16 →
    let id := s.nextId
    1 ≤ id ∧ id ≤ 255 ∧ (s.transfer? id).isNone = true ∧
      (∃ k < 255, id = (s.transfers.counter + k) % 255 + 1 ∧
        ∀ j < k, (s.transfer? ((s.transfers.counter + j) % 255 + 1)).isSome = true) ∧
      (s.enrol a).transfers.counter = id ∧ (s.enrol a).transfers.records = s.transfers.records ++ [a.record id] ∧
      (a.record id).id = id) ∧
  (∀ (s : State) (a : Admission),
    let id := s.nextId
    a.record id = {
      id := id, cls := a.cls, kind := a.kind, direction := a.direction
      entries := a.entries.map fun q => { tank := q.1, target := q.2, done := false }
      active := 1, source := a.source, stopIndex := a.stopIndex, reverify := a.reverify, reservation := none
      assigned := false } ∧
    s.enrol a = (s.setTransfers { s.transfers with
      records := s.transfers.records ++ [a.record id], counter := id }).enqueueNew id) ∧
  (∀ s : State, s.haltStop.transfers.counter = s.transfers.counter ∧ s.haltStop.transfers.records = []) ∧
  (∀ s : State, s.clearVolatile.transfers.counter = 0) ∧
  (∀ s : State, s.transfers.counter = 0 → s.transfers.records = [] → s.nextId = 1)

/-- XC: its checks in order; a change of a target, an append with the claim of the tank for an ACTIVE transfer, or a
removal with the release of the tank; the reply is the XQ reply after the change, and the scan follows (R57 to R60, log
15, log 32). A removal of the active entry leaves index 1 while the transfer has never been assigned (R53), and else an entry
not done, which one a free value (log 35). -/
def Obligations.TransferIsChanged : Prop :=
  (∀ (es : List Entry) (pick : Nat), (∃ e ∈ es, e.done = false) →
    ∃ e, es[((openPositions es)[pick % (openPositions es).length]?).getD 1 - 1]? = some e ∧ e.done = false) ∧
  ∀ (s : State) (ps : List Int), ConsoleTakes s .XC ps →
    let tank := parN ps 2
    let target := parN ps 3
    let setting := decide (ps.length = 3)
    exec (.transferChange ps) s = .next
      (if ¬ (ps.length = 2 ∨ ps.length = 3) then s.refuse .XC .args
      else if ¬ (1 ≤ par ps 1 ∧ par ps 1 ≤ 255 ∧ 1 ≤ par ps 2 ∧ par ps 2 ≤ 24 ∧
          (ps.length = 3 → 0 ≤ par ps 3 ∧ par ps 3 ≤ 65535 ∧
            (tankDefined s.parts tank = true → par ps 3 ≤ tankCapacity s.parts tank))) then s.refuse .XC .range
      else if s.faults.state = .restart then s.refuse .XC .halt
      else
        match s.transfer? (parN ps 1) with
        | none => s.refuse .XC .none
        | some t =>
          let active := (s.activeOn t.id).isSome
          if tankDefined s.parts tank = false then s.refuse .XC .none
          else if t.source.isStepOrRecipe = true ∨ s.activeStopping t.id = true then s.refuse .XC .state
          else
            match setting, t.entryOf tank with
            | true, some i =>
              if t.entryDone i = true then s.refuse .XC .state
              else
                let u := s.updTransfer t.id fun x => x.setTarget i target
                let v := u.reply .XQ (u.xqFields (t.setTarget i target))
                if (s.moverOf t.id).isNone then v.scan else v
            | true, none =>
              if active = true ∧ (s.tank tank).lock = .locked then s.refuse .XC .state
              else if (s.tank tank).claim ≠ none ∧ (s.tank tank).claim ≠ some t.id then s.refuse .XC .claim
              else if 4 ≤ t.entries.length then s.refuse .XC .full
              else
                let u := s.updTransfer t.id fun x => x.append tank target
                let u := if active then u.setTank tank { u.tank tank with claim := some t.id } else u
                let v := u.reply .XQ (u.xqFields { t with entries := t.entries ++ [⟨tank, target, false⟩] })
                if (s.moverOf t.id).isNone then v.scan else v
            | false, none => s.refuse .XC .none
            | false, some i =>
              if t.entryDone i = true ∨ t.remaining.length ≤ 1 ∨ (active = true ∧ t.active = i) then
                s.refuse .XC .state
              else
                let es := t.entries.eraseIdx (i - 1)
                let pick := Config.freeActive s.freeCount
                let t' : Transfer := { t with
                  entries := es
                  active :=
                    if i < t.active then t.active - 1
                    else if i = t.active then
                      (if t.assigned = true then ((openPositions es)[pick % (openPositions es).length]?).getD 1 else 1)
                    else t.active }
                let u := s.updTransfer t.id fun x => x.removeEntry i pick
                let u := if i = t.active ∧ t.assigned = true then u.setFreeCount (s.freeCount + 1) else u
                let u := if active then u.releaseTank tank else u
                let v := u.reply .XQ (u.xqFields t')
                if (s.moverOf t.id).isNone = true ∨ active = true then v.scan else v)

/-- XR: its checks in order; a PENDING or STACKED transfer is freed at once with outcome RETIRED, an ACTIVE one has its
mover stop with reason END and outcome RETIRED (R61). -/
def Obligations.TransferIsRetired : Prop :=
  ∀ (s : State) (ps : List Int), ConsoleTakes s .XR ps →
    let id := parN ps 1
    exec (.transferRetire ps) s = .next
      (if ps.length ≠ 1 then s.refuse .XR .args
      else if ¬ (1 ≤ par ps 1 ∧ par ps 1 ≤ 255) then s.refuse .XR .range
      else if s.faults.state = .restart then s.refuse .XR .halt
      else
        match s.transfer? id with
        | none => s.refuse .XR .none
        | some t =>
          match t.source, s.activeOn id with
          | .step _, _ => s.refuse .XR .state
          | _, some m =>
            if (s.mover m).phase.ending = true then s.refuse .XR .state
            else (s.enterStop m .ended (some .retired)).reply .XR [fnat id, .word "RETIRING"]
          | _, none =>
            match s.stackedOn id with
            | some m =>
              ((s.setMover m { s.mover m with stack := (s.mover m).stack.filter fun x => decide (x ≠ id)
                  }).freeAndTell id .retired).reply .XR [fnat id, .word "RETIRED"]
            | none => (s.freeAndTell id .retired).reply .XR [fnat id, .word "RETIRED"])

/-- XQ: its checks in order, the fields of the table and those of one transfer (R66, R67). -/
def Obligations.TransferQueryReports : Prop :=
  ∀ (s : State) (ps : List Int), ConsoleTakes s .XQ ps →
    let id := parN ps 1
    exec (.transferQuery ps) s = .next
      (if 1 < ps.length then s.refuse .XQ .args
      else if ps.length = 1 ∧ ¬ (1 ≤ par ps 1 ∧ par ps 1 ≤ 255) then s.refuse .XQ .range
      else if s.faults.state = .restart then s.refuse .XQ .halt
      else if ps.length = 0 then
        s.reply .XQ ([fnat s.transfers.records.length, fnat s.transfers.queue.length, fnat s.transfers.counter] ++
          s.transfers.queue.map fnat)
      else
        match s.transfer? id with
        | none => s.refuse .XQ .none
        | some t =>
          let active := s.activeOn t.id
          let stacked := s.stackedOn t.id
          s.reply .XQ ([fnat t.id, .word t.cls.word, .word t.kind.word, .word t.direction.word,
            .word (if active.isSome = true then "ACTIVE" else if stacked.isSome = true then "STACKED" else "PENDING"),
            (match active, stacked with
              | some m, _ => .word m.word
              | none, some m => .word m.word
              | none, none => .empty),
            fword? (t.reservation.map MoverId.word)] ++
            (match t.source with
              | .console => [.word "CONSOLE", .empty, .empty]
              | .step k => [.word "STEP", fnat k, .empty]
              | .recipe k sign => [.word "RECIPE", fnat k, .word sign.word]
              | .stripOf k => [.word "STRIP-OF", fnat k, .empty]) ++
            [fnat? t.stopIndex, .num (if t.reverify = true then 1 else 0), fnat t.active] ++
            t.entries.flatMap fun e => [fnat e.tank, fnat e.target, .num (if e.done = true then 1 else 0)]))

/-- The arbiter. A scan judges the queue once from the head. A pending transfer without a reservation takes the free
mover of its kind, M1 before M2, when its remaining tanks are unclaimed and FREE; with no free mover it reserves the
victim among the movers it may preempt. An assignment takes the transfer out of the queue into the run slot and claims its
remaining tanks, a reservation stops the victim with PREEMPT, a release of claims closes the valves left open, and a new
transfer stands behind those of its class and a returned one before them (R50 to R54, R57). -/
def Obligations.TheArbiterAssignsAndReserves : Prop :=
  (∀ s : State, s.scan = s.transfers.queue.foldl State.judgePending s) ∧
  (∀ (s : State) (id : Nat), s.transfer? id = none → s.judgePending id = s) ∧
  (∀ (s : State) (id : Nat) (t : Transfer), s.transfer? id = some t →
    let free := fun m : MoverId => (s.mover m).phase = .idle ∧ (s.mover m).run = none ∧ (s.mover m).stack = [] ∧
      (s.mover m).popping = false
    let give := fun m : MoverId =>
      if ∀ k ∈ t.remaining, (s.tank k).claim = none ∧ (s.tank k).lock = .free then s.assign m id else s
    let preemptable : MoverId → Prop := fun m => (s.mover m).phase = .running ∧
      (∀ x ∈ s.transfers.records, x.reservation ≠ some m) ∧
      ∃ r ∈ ((s.mover m).run.bind s.transfer?).toList, r.cls.rank < t.cls.rank ∧
        ∀ k ∈ t.remaining, ((s.tank k).claim = none ∨ (s.tank k).claim = some r.id) ∧ (s.tank k).lock = .free
    let rank : MoverId → Nat := fun m => (((s.mover m).run.bind s.transfer?).map fun r => r.cls.rank).getD 0
    s.judgePending id =
      if t.reservation ≠ none then s
      else
        match t.kind with
        | .pump =>
          if free .m1 then give .m1
          else if free .m2 then give .m2
          else if preemptable .m1 ∧ (¬ preemptable .m2 ∨ rank .m1 < rank .m2 ∨
              (rank .m1 = rank .m2 ∧ (s.mover .m2).timer < (s.mover .m1).timer)) then s.reserve id .m1
          else if preemptable .m2 then s.reserve id .m2
          else s
        | .strip =>
          if free .m3 then give .m3
          else if preemptable .m3 then s.reserve id .m3
          else s) ∧
  (∀ (s : State) (m : MoverId) (id : Nat) (t : Transfer), s.transfer? id = some t → (∀ k ∈ t.remaining, 1 ≤ k) →
    ∃ v : State, s.assign m id = v.enterLining m ∧
      v = ((s.setTransfers v.transfers).setMovers v.movers).setTankTable { s.tankTable with tanks := v.tankTable.tanks } ∧
      v.transfers = ⟨s.transfers.records.map fun x => if x.id = id then { x with reservation := none, assigned := true } else x,
        s.transfers.queue.filter fun x => decide (x ≠ id), s.transfers.counter⟩ ∧
      (∀ k : MoverId, v.mover k = if k = m then { s.mover m with run := some id, popping := false } else s.mover k) ∧
      ∀ n, 1 ≤ n → n ≤ 24 →
        v.tank n = { s.tank n with claim := if n ∈ t.remaining then some id else (s.tank n).claim }) ∧
  (∀ (s : State) (m : MoverId) (id : Nat), s.reserve id m =
    (s.setTransfers { s.transfers with
      records := s.transfers.records.map fun x => if x.id = id then { x with reservation := some m } else x }).enterStop
      m .preempt none) ∧
  (∀ (s : State) (id : Nat),
    let u := s.releaseClaims id
    u = (s.setTankTable u.tankTable).setLoop { s.loop with drive := u.loop.drive } ∧
      u.tankTable = { s.tankTable with tanks := u.tankTable.tanks } ∧
      (∀ n, 1 ≤ n → n ≤ 24 →
        u.tank n = { s.tank n with claim := if (s.tank n).claim = some id then none else (s.tank n).claim }) ∧
      ∀ a < 64, u.drive a =
        if (s.drive a).on = true ∧ (roleOf s.parts a).isDrive = true ∧
            ∃ n ∈ List.range 25, 1 ≤ n ∧ (s.tank n).claim = some id ∧ tankValve s.parts n = a then
          ⟨false, .awaiting, none⟩
        else s.drive a) ∧
  ∀ (s : State) (id : Nat), s.transfers.queue.Pairwise (fun x y => s.rankOf y ≤ s.rankOf x) →
    s.enqueueNew id = s.setTransfers { s.transfers with
      queue := (s.transfers.queue.filter fun x => decide (s.rankOf id ≤ s.rankOf x)) ++
        id :: s.transfers.queue.filter fun x => decide (s.rankOf x < s.rankOf id) } ∧
    s.enqueueReturned id = s.setTransfers { s.transfers with
      queue := (s.transfers.queue.filter fun x => decide (s.rankOf id < s.rankOf x)) ++
        id :: s.transfers.queue.filter fun x => decide (s.rankOf x ≤ s.rankOf id) }

/-! ## The movers -/

/-- MR: its checks in order; a FAULTED mover with a true quiet reading loses its fault cause and is IDLE, its phase
timer from now, and the arbiter scans after the reply (R91).
FA: its checks in order; HALT is left for NORMAL with the causes gone, the slot of each entry at LIMIT is asked again with
its sign, ascending, the steps of the window are judged for pairing, the head first, and the HELD steps for release (R129,
R164; the restart attempts go too, log 26). -/
def Obligations.MoverAndHaltAreAcknowledged : Prop :=
  (∀ (s : State) (ps : List Int), ConsoleTakes s .MR ps →
    let m : MoverId := if par ps 1 = 1 then .m1 else if par ps 1 = 2 then .m2 else .m3
    exec (.moverReset ps) s = .next
      (if ps.length ≠ 1 then s.refuse .MR .args
      else if ¬ (1 ≤ par ps 1 ∧ par ps 1 ≤ 3) then s.refuse .MR .range
      else if s.faults.state = .restart then s.refuse .MR .halt
      else if ¬ ((s.mover m).phase = .faulted ∧ (s.mover m).quiet = some true) then s.refuse .MR .state
      else
        (((s.setMoverCause m none).setMover m
          { s.mover m with phase := .idle, timer := s.now, flow := none, gaugeDue := false }).reply .MR
          [.word m.word, .word "IDLE"]).scan)) ∧
  ∀ (s : State) (ps : List Int), ConsoleTakes s .FA ps →
    let u := s.setFaults { s.faults with
      state := .normal, causes := [], first := none, attempts := 0, lastAttempt := none }
    exec (.faultAcknowledge ps) s = .next
      (if ps.length ≠ 0 then s.refuse .FA .args
      else if s.faults.state = .restart then s.refuse .FA .halt
      else if s.faults.state ≠ .halt then s.refuse .FA .state
      else if ∃ i ∈ List.range 36, (s.watched i).state = .breach then s.refuse .FA .state
      else if s.loop.state = .lost then s.refuse .FA .state
      else if Item.restarted ∈ s.attention.items then s.refuse .FA .state
      else
        let asked := (List.range 36).foldl (fun v i =>
          if (v.watched i).state = .limit then v.askCorrection i (v.watched i).sign else v) u
        let paired := ((asked.pour.steps.take 2).map fun x => x.id).foldl (fun v id => v.judgePairing true id) asked
        paired.judgeRelease.reply .FA [.word "NORMAL"])

/-- What a mover does on entering a phase. LINING: a transfer with the re-verify flag has the entries already at their
targets marked done and names the first that is not; with none left it ends COMPLETE, and otherwise the two valves of the
line-up are opened in order. STARTING: the pump is commanded ON, and a FILL makes a fill start. RUNNING: the flow
reference is taken. SWITCHING: the active index moves, the next valve opens, and a FILL makes a fill start; back in
RUNNING, the valve left closes. STOPPING: the pump is commanded OFF, and once it stands OFF and SETTLED the mover's valves
and those of its claimed tanks are closed. An active tank that cannot be followed has GAUGE-LOST handed with the next
commit. The phase timer restarts on entry, but not in SWITCHING and back (R70, R71, R73, R76, R77, R79, R80). -/
def Obligations.MoversEnterTheirPhases : Prop :=
  ∀ (s : State) (m : MoverId),
    let x := s.mover m
    let write := fun (points : List Nat) (on : Bool) (u : State) => points.foldl (fun v a => v.writePoint a on) u
    let enter := fun (ph : Phase) (u : State) =>
      u.setMover m { u.mover m with phase := ph, timer := s.now, flow := none, gaugeDue := false }
    let blind := fun (tank : Option Nat) (u : State) =>
      if ∃ k ∈ tank.toList, (u.tank k).gauge = .unread ∨ (u.tank k).gauge = .lost then
        u.setMover m { u.mover m with gaugeDue := true }
      else u
    let reference := fun u : State =>
      u.setMover m { u.mover m with flow := some ⟨(s.activeTank m).bind fun k => (s.tank k).volume, s.now⟩ }
    let fillStart := fun (d : Direction) (tank : Option Nat) (u : State) =>
      match d, tank with
      | .fill, some k => u.fillStart k
      | _, _ => u
    (∀ t : Transfer, x.run.bind s.transfer? = some t →
      let done := t.entries.map fun e => if s.entryMet t e = true then { e with done := true } else e
      let t' : Transfer :=
        if t.reverify = true then
          { t with entries := done, active := ((List.range done.length).find? fun k =>
            decide (∃ e ∈ done[k]?.toList, e.done = false)).elim t.active (· + 1) }
        else t
      let u := enter .lining (s.setTransfers { s.transfers with
        records := s.transfers.records.map fun y => if y.id = t.id then t' else y })
      s.enterLining m =
        if t.reverify = true ∧ ∀ e ∈ t'.entries, e.done = true then u.enterStop m .ended (some .complete)
        else
          blind t'.activeTank (write (match t'.activeTank with
            | none => []
            | some k => match t.direction with
              | .discharge => [tankValve s.parts k, overboardPoint s.parts m]
              | .fill => [seaChestPoint s.parts m, tankValve s.parts k]) true u)) ∧
    (x.run.bind s.transfer? = none → s.enterLining m = s) ∧
    (∀ t : Transfer, x.run.bind s.transfer? = some t →
      s.enterStarting m =
        fillStart t.direction t.activeTank ((enter .starting s).writePoint (runPoint s.parts m) true)) ∧
    s.enterRunning m = reference (enter .running s) ∧
    (∀ (t : Transfer) (next : Nat), x.run.bind s.transfer? = some t →
      let tank := ({ t with active := next } : Transfer).activeTank
      let u := (s.setTransfers { s.transfers with
        records := s.transfers.records.map fun y => if y.id = t.id then { y with active := next } else y }).setMover m
          { x with phase := .switching (t.activeTank.getD 0), flow := none, gaugeDue := false }
      s.enterSwitching m t next =
        blind tank (fillStart t.direction tank (write (tank.toList.map (tankValve s.parts)) true u))) ∧
    (∀ previous : Nat, s.resumeRunning m previous =
      reference ((s.setMover m { x with phase := .running, gaugeDue := false }).writePoint
        (tankValve s.parts previous) false)) ∧
    ∀ (reason : StopReason) (outcome : Option TransferOutcome),
      s.enterStop m reason outcome =
        match x.phase with
        | .stopping _ _ stage => s.setMover m { x with phase := .stopping reason outcome stage, gaugeDue := false }
        | _ =>
          let run := s.drive (runPoint s.parts m)
          if run.on = false ∧ run.agreement = .settled then
            write ([overboardPoint s.parts m] ++ (if m = .m3 then [] else [seaChestPoint s.parts m]) ++
              (x.run.elim [] fun id =>
                ((List.range 25).filter fun n => decide (1 ≤ n ∧ (s.tank n).claim = some id)).map (tankValve s.parts)))
              false (enter (.stopping reason outcome .valves) s)
          else (enter (.stopping reason outcome .pump) s).writePoint (runPoint s.parts m) false

/-- A mover takes a commit. The first fault cause that its phase takes, in the order of the fault-cause table, is handed
to the Fault Supervisor and nothing else is done. Otherwise LINING ends when both valves of the line-up are SETTLED ON,
STARTING when the pump is, SWITCHING when the new tank's valve is; a RUNNING mover marks the active entry done at its
effective target and goes to the next entry not done or ends COMPLETE, or else makes the no-flow check; and a stop in stage
PUMP closes its valves when the pump is SETTLED OFF, and one in stage VALVES ends, when it can, as StopsEnd says (R72, R73,
R75 to R78, R80, R81, R86, R89; one phase or stage a commit, log 10, log 11). -/
def Obligations.AMoverTakesACommit : Prop :=
  (∀ d : Disagreement, d.cause =
    if d.role.isRun = true ∧ d.on = true ∧ d.grade = .overdue then some (2, .pumpNoStart)
    else if d.role.isRun = true ∧ d.on = true ∧ d.grade = .astray then some (3, .pumpStopped)
    else if d.role.isRun = true ∧ d.on = false ∧ d.grade = .overdue ∧ d.unknown = true then some (4, .pumpNoStart)
    else if d.role.isRun = false ∧ d.grade = .overdue then some (5, .valveTimeout)
    else if d.role.isRun = false ∧ d.grade = .astray then some (6, .valveAstray)
    else none) ∧
  (∀ (ph : Phase) (lost : Bool) (ds : List Disagreement),
    let working := ph = .lining ∨ ph = .starting ∨ ph = .running ∨ ∃ k, ph = .switching k
    let stopping := ∃ r o g, ph = .stopping r o g ∧ r ≠ .halt
    (working → lost = true → faultCauseOf ph lost ds = some .gaugeLost) ∧
    (¬ working → ¬ stopping → faultCauseOf ph lost ds = none) ∧
    (stopping ∨ (working ∧ lost = false) →
      match faultCauseOf ph lost ds with
      | none => ∀ d ∈ ds, d.cause = none
      | some c => ∃ d ∈ ds, ∃ k, d.cause = some (k, c) ∧ ∀ e ∈ ds, ∀ q ∈ e.cause.toList, k ≤ q.1)) ∧
  ∀ (s : State) (m : MoverId) (lost : Bool) (ds : List Disagreement),
    let x := s.mover m
    let settled := fun (a : Nat) (on : Bool) => (s.drive a).on = on ∧ (s.drive a).agreement = .settled
    (∀ c, faultCauseOf x.phase lost ds = some c → s.moverCommit m lost ds = s.class2 m c) ∧
    (faultCauseOf x.phase lost ds = none →
      (x.phase = .idle ∨ x.phase = .faulted → s.moverCommit m lost ds = s) ∧
      (x.phase = .lining → ∀ t k, x.run.bind s.transfer? = some t → t.activeTank = some k →
        s.moverCommit m lost ds =
          if settled (tankValve s.parts k) true ∧
              settled (if t.direction = .discharge then overboardPoint s.parts m else seaChestPoint s.parts m) true then
            s.enterStarting m
          else s) ∧
      (x.phase = .starting → s.moverCommit m lost ds =
        if settled (runPoint s.parts m) true then s.enterRunning m else s) ∧
      (∀ previous t k, x.phase = .switching previous → x.run.bind s.transfer? = some t → t.activeTank = some k →
        s.moverCommit m lost ds =
          if settled (tankValve s.parts k) true then s.resumeRunning m previous else s) ∧
      (x.phase = .running → ∀ t e, x.run.bind s.transfer? = some t → t.entries[t.active - 1]? = some e →
        let t' : Transfer := { t with
          entries := t.entries.mapIdx fun k y => if k + 1 = t.active then { y with done := true } else y }
        let u := s.setTransfers { s.transfers with
          records := s.transfers.records.map fun y => if y.id = t.id then t' else y }
        let next := (List.range t.entries.length).find? fun k =>
          decide (t.active ≤ k ∧ ∃ y ∈ t'.entries[k]?.toList, y.done = false)
        s.moverCommit m lost ds =
          if s.entryMet t e = true then
            match next with
            | some k => u.enterSwitching m t' (k + 1)
            | none => u.enterStop m .ended (some .complete)
          else
            match x.flow with
            | none => s
            | some r =>
              if ∃ v ∈ r.volume.toList, ∃ now ∈ ((s.tank e.tank).volume).toList,
                  (t.direction = .discharge ∧ now < v) ∨ (t.direction = .fill ∧ v < now) then
                s.setMover m { x with flow := some ⟨(s.tank e.tank).volume, s.now⟩ }
              else if r.time + 30000 ≤ s.now then s.class2 m .noFlow
              else s) ∧
      (∀ reason outcome, x.phase = .stopping reason outcome .pump → s.moverCommit m lost ds =
        if settled (runPoint s.parts m) false then
          (s.stopValves m).foldl (fun u a => u.writePoint a false)
            (s.setMover m { x with phase := .stopping reason outcome .valves })
        else s) ∧
      ∀ reason outcome, x.phase = .stopping reason outcome .valves →
        s.moverCommit m lost ds = s.completeStop m reason outcome)

/-- How a stop ends, in stage VALVES, once the mover's quiet reading is true (R81, R82, R88, R90): for END, PREEMPT and
FAULT every valve of a tank claimed for the transfer must read CLOSED as well. END records the outcome, raises ENDED, asks
the strip residue of a PUMP DISCHARGE that ends COMPLETE, frees the record, releases the claims, tells the step, judges the
reservation on the mover, or pops its stack, and pairs and scans; PREEMPT puts the transfer on the stack; FAULT leaves the
mover FAULTED; HALT makes it IDLE. A pop resumes the newest transfer of the stack in LINING when its remaining tanks are
unclaimed and FREE, else returns it to pending and pops again; an empty stack leaves the mover IDLE (R48, R56, R57, R63,
R83, R84, log 27). -/
def Obligations.StopsEnd : Prop :=
  let available := fun (u : State) (t : Transfer) =>
    ∀ k ∈ t.remaining, (u.tank k).claim = none ∧ (u.tank k).lock = .free
  let freed := fun (id : Nat) (u : State) => u.setTransfers ⟨u.transfers.records.filter fun y => decide (y.id ≠ id),
    u.transfers.queue.filter fun y => decide (y ≠ id), u.transfers.counter⟩
  let left := fun (m : MoverId) (id : Nat) (u : State) => (u.setMover m { u.mover m with run := none }).releaseClaims id
  let told := fun (id : Nat) (p : Pairing) (u : State) => u.setPour { u.pour with
    steps := u.pour.steps.map fun y => if y.pairing = .running id then { y with pairing := p } else y }
  let judged := fun (m : MoverId) (u : State) =>
    match u.transfers.records.find? fun y => decide (y.reservation = some m) with
    | none => u.pop m
    | some t =>
      if available u t then u.assign m t.id
      else (u.setTransfers { u.transfers with
        records := u.transfers.records.map fun y : Transfer =>
          if y.reservation = some m then { y with reservation := none } else y }).pop m
  (∀ (s : State) (m : MoverId) (id : Nat), (s.mover m).run = some id →
    let ready := (s.mover m).quiet = some true ∧ ∀ n ∈ List.range 25, 1 ≤ n → (s.tank n).claim = some id →
      (s.scanned (tankValve s.parts n)).value = some 0
    (∀ o, s.completeStop m .ended (some o) = if ready then s.completeEnd m id o else s) ∧
    (∀ o, s.completeStop m .preempt o = if ready then s.completePreempt m id else s) ∧
    ∀ o, s.completeStop m .fault o = if ready then s.completeFault m id else s) ∧
  (∀ (s : State) (m : MoverId) (o : Option TransferOutcome), s.completeStop m .halt o =
    if (s.mover m).quiet = some true then
      (s.setMover m { s.mover m with phase := .idle, timer := s.now, flow := none, gaugeDue := false }).scan
    else s) ∧
  (∀ (s : State) (m : MoverId) (id : Nat) (o : TransferOutcome),
    let a := (s.setMover m { s.mover m with last := some (id, o) }).raise (.ended m)
    let b := match s.transfer? id with
      | none => a
      | some t =>
        let es := (t.entries.filter fun e => decide (e.target < tankFloor s.parts e.tank)).map fun e => (e.tank, e.target)
        if t.kind = .pump ∧ t.direction = .discharge ∧ o = .complete ∧ es ≠ [] ∧ s.faults.state = .normal ∧
            (s.modes.mode = .berth ∨ s.modes.mode = .passage) then
          if 16 ≤ s.transfers.records.length then a.raise (.stripRefused id)
          else (a.enrol ⟨.planned, .strip, .discharge, es, .stripOf id, none, false⟩).scan
        else a
    let c := left m id (freed id b)
    s.completeEnd m id o = ((judged m (match o with
      | .complete => told id (.done id) c
      | .faulted => told id .unpaired c
      | .halted => told id .unpaired c
      | _ => c)).pairWindow false).scan) ∧
  (∀ (s : State) (m : MoverId) (id : Nat), s.completePreempt m id =
    (judged m (left m id (s.setMover m { s.mover m with stack := (s.mover m).stack ++ [id] }))).scan) ∧
  (∀ (s : State) (m : MoverId) (id : Nat),
    let a := (left m id (freed id (s.setMover m { s.mover m with last := some (id, .faulted) }))).scan
    let b := (told id .unpaired a).pairWindow true
    s.completeFault m id = (b.setMover m
      { b.mover m with phase := .faulted, timer := b.now, flow := none, gaugeDue := false }).scan) ∧
  (∀ (s : State) (m : MoverId), (s.mover m).stack = [] → s.pop m = s.setMover m
    { s.mover m with phase := .idle, timer := s.now, flow := none, gaugeDue := false, popping := false }) ∧
  (∀ (s : State) (m : MoverId) (rest : List Nat) (id : Nat), (s.mover m).stack = rest ++ [id] →
    let u := s.setMover m { s.mover m with stack := rest, popping := true }
    ((∀ t ∈ (s.transfer? id).toList, ¬ available s t) → s.pop m = (u.enqueueReturned id).pop m) ∧
    ∀ t, s.transfer? id = some t → (∀ k ∈ t.remaining, 1 ≤ k) → available s t →
      ∃ v : State, s.pop m = v.enterLining m ∧
        v = (s.setMovers v.movers).setTankTable { s.tankTable with tanks := v.tankTable.tanks } ∧
        (∀ k : MoverId, v.mover k = if k = m then { s.mover m with stack := rest, run := some id, popping := false }
          else s.mover k) ∧
        ∀ n, 1 ≤ n → n ≤ 24 →
          v.tank n = { s.tank n with claim := if n ∈ t.remaining then some id else (s.tank n).claim })

/-! ## The pour plan -/

/-- PA and PI: their checks in order; the new step is the last of the plan, or stands directly before the step named,
and the window is judged afresh (R138 to R140). The reply gives its position and its state. -/
def Obligations.StepsJoinThePlan : Prop :=
  ∀ (s : State) (ps : List Int),
    let good := fun qs : List Int =>
      1 ≤ par qs 1 ∧ par qs 1 ≤ 999 ∧ 1 ≤ par qs 2 ∧ par qs 2 ≤ 9 ∧ 1 ≤ par qs 3 ∧ par qs 3 ≤ 30000 ∧
        0 ≤ par qs 4 ∧ par qs 4 ≤ 9999 ∧ pairsGood s.parts (pairsFrom (qs.drop 4)) = true ∧
        (par qs 4 = 0 ∨ pairsFrom (qs.drop 4) ≠ [])
    let defined := fun qs : List Int =>
      holdDefined s.parts (parN qs 2) = true ∧ ∀ q ∈ pairsFrom (qs.drop 4), tankDefined s.parts q.1.toNat = true
    let new := fun qs : List Int =>
      ({ id := parN qs 1, hold := parN qs 2, planned := parN qs 3, tally := 0, lead := parN qs 4,
         links := (pairsFrom (qs.drop 4)).map fun q => ⟨q.1.toNat, q.2.toNat, none, false⟩, pairing := .unpaired,
         state := .planned, granted := none, ceiling := none, cause := none } : PourStep)
    let answer := fun (v : Verb) (id : Nat) (t : State) =>
      t.reply v [fnat id, fnat (t.positionOf id), fword? ((t.step? id).map fun x => x.state.word)]
    (ConsoleTakes s .PA ps → exec (.planAppend ps) s = .next
      (if ¬ (ps.length = 4 ∨ ps.length = 6 ∨ ps.length = 8 ∨ ps.length = 10 ∨ ps.length = 12) then s.refuse .PA .args
      else if ¬ good ps then s.refuse .PA .range
      else if s.modes.mode = .commission then s.refuse .PA .mode
      else if s.faults.state = .restart then s.refuse .PA .halt
      else if ¬ defined ps then s.refuse .PA .none
      else if s.step? (parN ps 1) ≠ none then s.refuse .PA .state
      else if 48 ≤ s.pour.steps.length then s.refuse .PA .full
      else answer .PA (parN ps 1) (s.setPour { s.pour with steps := s.pour.steps ++ [new ps] }).judgeWindow)) ∧
    (ConsoleTakes s .PI ps → exec (.planInsert ps) s = .next
      (let qs := ps.drop 1
      let named := parN ps 1
      let other := fun y : PourStep => decide (y.id ≠ named)
      if ¬ (ps.length = 5 ∨ ps.length = 7 ∨ ps.length = 9 ∨ ps.length = 11 ∨ ps.length = 13) then s.refuse .PI .args
      else if ¬ (1 ≤ par ps 1 ∧ par ps 1 ≤ 999 ∧ good qs) then s.refuse .PI .range
      else if s.modes.mode = .commission then s.refuse .PI .mode
      else if s.faults.state = .restart then s.refuse .PI .halt
      else if s.step? named = none ∨ ¬ defined qs then s.refuse .PI .none
      else if s.step? (parN qs 1) ≠ none ∨
          (s.isHead named = true ∧ ((s.headStep).map fun x => x.state) ≠ some .planned ∧
            ((s.headStep).map fun x => x.state) ≠ some .ready) then s.refuse .PI .state
      else if s.isHead named = true ∧ s.pour.clearance = some named then s.refuse .PI .busy
      else if 48 ≤ s.pour.steps.length then s.refuse .PI .full
      else answer .PI (parN qs 1) (s.setPour { s.pour with
        steps := s.pour.steps.takeWhile other ++ new qs :: s.pour.steps.dropWhile other }).judgeWindow))

/-- PC and PR: their checks in order. PC: the step takes the new tonnes and lead, is PLANNED, and is judged for pairing
and readiness again; a changed linked list makes it unpaired and retires its running paired transfer (R62, R144). PR: the
step leaves the plan, its running paired transfer is retired, and the window is judged afresh; the reply carries the
Transfer Table's answer, if it was asked (R62, R145). A paired transfer is retired by its state: a pending or stacked one is
freed with outcome RETIRED, an ACTIVE one has its mover stop with reason END, one whose mover already stops with END, FAULT
or HALT is left as it is, and one no longer in use with the source of that step is RETIRED already (R62; the reply of PC
carries the pairing's word, log 38; a replaced linked list takes no volume that the old one waited for, log 31). -/
def Obligations.StepsAreChangedAndRetired : Prop :=
  (∀ (s : State) (ps : List Int), ConsoleTakes s .PC ps →
    let id := parN ps 1
    let qs := pairsFrom (ps.drop 3)
    let pairs := qs.map fun q => (q.1.toNat, q.2.toNat)
    exec (.planChange ps) s = .next
      (if ¬ (ps.length = 3 ∨ ps.length = 5 ∨ ps.length = 7 ∨ ps.length = 9 ∨ ps.length = 11) then s.refuse .PC .args
      else if ¬ (1 ≤ par ps 1 ∧ par ps 1 ≤ 999 ∧ 1 ≤ par ps 2 ∧ par ps 2 ≤ 30000 ∧ 0 ≤ par ps 3 ∧ par ps 3 ≤ 9999 ∧
          pairsGood s.parts qs = true ∧ (par ps 3 = 0 ∨ qs ≠ []) ∧
          ∀ x ∈ (s.step? id).toList, (x.tally : Int) < par ps 2) then s.refuse .PC .range
      else if s.faults.state = .restart then s.refuse .PC .halt
      else
        match s.step? id with
        | none => s.refuse .PC .none
        | some x =>
          if ∃ q ∈ qs, tankDefined s.parts q.1.toNat = false then s.refuse .PC .none
          else if x.state ≠ .planned ∧ x.state ≠ .ready then s.refuse .PC .state
          else if s.pour.clearance = some id then s.refuse .PC .busy
          else
            let differs := x.links.map (fun e => (e.tank, e.target)) ≠ pairs
            let u := s.updStep id fun y =>
              if y.links.map (fun e => (e.tank, e.target)) ≠ pairs then
                { y with planned := parN ps 2, lead := parN ps 3, links := pairs.map fun q => ⟨q.1, q.2, none, false⟩,
                         pairing := .unpaired, state := .planned }
              else { y with planned := parN ps 2, lead := parN ps 3, state := .planned }
            let v := if differs then u.retirePaired x.pairing id else u
            let t := (v.judgePairing true id).judgeReady id
            t.reply .PC [fnat id, fword? ((t.step? id).map fun y => y.state.word),
              fword? ((t.step? id).map fun y => y.pairing.word)])) ∧
  (∀ (s : State) (p : Pairing) (step : Nat),
    let active := fun id : Nat => [MoverId.m1, .m2, .m3].find? fun m => decide ((s.mover m).run = some id)
    let stacked := fun id : Nat => [MoverId.m1, .m2, .m3].find? fun m => decide (id ∈ (s.mover m).stack)
    let made := fun (u : State) (a : RetireAnswer) => s.retirePaired p step = u ∧ s.pairedAnswer p step = some a
    match p with
    | .running id =>
      if ∃ t ∈ (s.transfer? id).toList, t.source = .step step then
        match active id, stacked id with
        | some m, _ =>
          (match (s.mover m).phase with
            | .stopping .preempt _ _ => made (s.enterStop m .ended (some .retired)) .retiring
            | .stopping _ _ _ => made s .ending
            | _ => made (s.enterStop m .ended (some .retired)) .retiring)
        | none, some m =>
          made ((s.setMover m { s.mover m with
            stack := (s.mover m).stack.filter fun x => decide (x ≠ id) }).freeAndTell id .retired) .retired
        | none, none => made (s.freeAndTell id .retired) .retired
      else made s .retired
    | _ => s.retirePaired p step = s ∧ s.pairedAnswer p step = none) ∧
  ∀ (s : State) (ps : List Int), ConsoleTakes s .PR ps →
    let id := parN ps 1
    exec (.planRetire ps) s = .next
      (if ps.length ≠ 1 then s.refuse .PR .args
      else if ¬ (1 ≤ par ps 1 ∧ par ps 1 ≤ 999) then s.refuse .PR .range
      else if s.faults.state = .restart then s.refuse .PR .halt
      else
        match s.step? id with
        | none => s.refuse .PR .none
        | some x =>
          if x.state = .granted ∨ x.state = .pouring then s.refuse .PR .state
          else if s.pour.clearance = some id then s.refuse .PR .busy
          else
            let u := s.setPour { s.pour with steps := s.pour.steps.filter fun y => decide (y.id ≠ id) }
            ((u.retirePaired x.pairing id).judgeWindow).reply .PR
              [fnat id, fword? ((s.pairedAnswer x.pairing id).map RetireAnswer.word)])

/-- The first two steps of the plan are its window. A PLANNED step in it is READY when its lead is met: the lead is 0, or
the fall of its linked tanks since pairing, each at least 0, has reached it (R143). A step in it with a linked list and no
pairing is paired, where the Transfer Table admits it: its pairing is RUNNING with the new id, the volumes at pairing that
are absent are taken, the transfer is enrolled with the linked entries, and the step is judged for readiness (R46, R141).
The window judged afresh: a READY step outside it is PLANNED, then each step in it, the head first, is judged for pairing
and then for readiness (R140). A volume that was absent at the pairing is due: a commit takes it as soon as the tank has one,
whatever has become of the pairing (R141; a PC of the list ends the wait, log 31), and judges readiness. A record freed
outside the end of a stop changes the pairing of its step, COMPLETE to DONE and FAULTED or HALTED to none, and the window is
judged for pairing (R63, R141, R142, log 27). -/
def Obligations.TheWindowIsJudged : Prop :=
  let ids := fun s : State => (s.pour.steps.take 2).map fun x => x.id
  let take := fun (s : State) (e : LinkedEntry) =>
    { e with volumeAt := (s.tank e.tank).volume, due := decide ((s.tank e.tank).volume = none) }
  let fall := fun (s : State) (e : LinkedEntry) =>
    match e.volumeAt, (s.tank e.tank).volume with
    | some v, some now => v - now
    | _, _ => 0
  (∀ (s : State) (id : Nat), s.step? id = none → s.judgeReady id = s ∧ ∀ scans, s.judgePairing scans id = s) ∧
  (∀ (s : State) (id : Nat) (x : PourStep), s.step? id = some x →
    s.judgeReady id =
      if id ∈ ids s ∧ x.state = .planned ∧ (x.lead = 0 ∨ x.lead ≤ (x.links.map (fall s)).sum) then
        s.setPour { s.pour with
          steps := s.pour.steps.map fun y => if y.id = id then { y with state := .ready } else y }
      else s) ∧
  (∀ (s : State) (id : Nat) (x : PourStep) (scans : Bool), s.step? id = some x →
    let u := s.setPour { s.pour with
      steps := s.pour.steps.map fun y =>
        if y.id = id then
          { y with
            pairing := .running s.nextId
            links := y.links.map fun e => if e.volumeAt = none then take s e else e }
        else y }
    let v := u.enrol ⟨.paired, .pump, .discharge, x.links.map fun e => (e.tank, e.target), .step id, none, true⟩
    s.judgePairing scans id =
      if id ∈ ids s ∧ x.links ≠ [] ∧ x.pairing = .unpaired ∧ s.faults.state = .normal ∧ s.modes.mode = .berth ∧
          (∀ e ∈ x.links, tankDefined s.parts e.tank = true) ∧ s.transfers.records.length < 16 then
        (if scans = true then v.scan else v).judgeReady id
      else s) ∧
  (∀ s : State,
    let u := s.setPour { s.pour with
      steps := s.pour.steps.map fun x =>
        if x.id ∉ ids s ∧ x.state = .ready then { x with state := .planned } else x }
    s.judgeWindow = (ids s).foldl State.judgeReady ((ids s).foldl (fun v id => v.judgePairing true id) u)) ∧
  (∀ s : State, s.pourCommit = (ids s).foldl State.judgeReady (s.setPour { s.pour with
    steps := s.pour.steps.map fun x =>
      { x with links := x.links.map fun e => if e.due = true ∧ e.volumeAt = none then take s e else e } })) ∧
  (∀ (s : State) (scans : Bool), s.pairWindow scans = (ids s).foldl (fun v id => v.judgePairing scans id) s) ∧
  ∀ (s : State) (id : Nat) (o : TransferOutcome),
    let u := s.setTransfers ⟨s.transfers.records.filter fun y => decide (y.id ≠ id),
      s.transfers.queue.filter fun y => decide (y ≠ id), s.transfers.counter⟩
    s.freeAndTell id o =
      (ids s).foldl (fun v k => v.judgePairing true k) (u.setPour { s.pour with
        steps := s.pour.steps.map fun x =>
          if x.pairing = .running id then
            match o with
            | .complete => { x with pairing := .done id }
            | .faulted => { x with pairing := .unpaired }
            | .halted => { x with pairing := .unpaired }
            | .relieved => x
            | .retired => x
          else x })

/-- BLOCK with a cause: a GRANTED step is READY again and its grant timer stopped, a POURING one is HELD with the cause and
STEP-HELD raised, both with HO in the state slot; a HELD step stays, and a clearance ends with HO (R150; the plan names
each step once). A clearance that ends withdraws its prediction and replies (R113, R147). A prediction that is asked runs
at once, or is held while the unit is busy; a held one that begins counts a run and takes its inputs (R111). The HELD
steps, but for OVERRUN, are READY and told GO with their remaining tonnes when the fault state is NORMAL, the mode BERTH
and nothing blocks (R152; the order of the lines and items of one event, log 37; a withdrawn prediction keeps the unit busy
to its end, log 14). -/
def Obligations.PoursAreHeldAndReleased : Prop :=
  let once := fun s : State => (s.pour.steps.map fun x => x.id).Nodup
  (∀ (s : State) (c : HoldCause), once s →
    let t := s.block c
    let pouring := s.pour.steps.filter fun x => decide (x.state = .pouring)
    let said := (s.pour.steps.filter fun x => decide (x.state = .granted ∨ x.state = .pouring)).foldl
      (fun u x => u.shoreSend .state (.pour .HO [fnat x.id, .word c.word])) s
    t = (((s.setAttention (pouring.foldl (fun a x => a.raise (.stepHeld x.id)) s.attention)).setCond
        (if s.pour.clearance = none then s else s.withdrawPrediction).cond).setPour { s.pour with
          steps := s.pour.steps.map fun x =>
            if x.state = .granted then { x with state := .ready, granted := none }
            else if x.state = .pouring then { x with state := .held, cause := some c, granted := none }
            else x
          clearance := none
          grantTimer := if ∃ x ∈ s.pour.steps, x.state = .granted then none else s.pour.grantTimer }).setShore
      (match s.pour.clearance with
      | none => said
      | some id => said.shoreReply (.pour .HO [fnat id, .word c.word])).shore) ∧
  (∀ (s : State) (l : Line),
    s.endClearance l =
      if s.pour.clearance = none then s
      else ((s.setPour { s.pour with clearance := none }).withdrawPrediction).shoreReply l) ∧
  (∀ s : State,
    s.withdrawPrediction =
      match s.cond.request with
      | none => s
      | some q => s.setCond { s.cond with
          request := none
          prediction := if q.running = true then s.cond.prediction.map fun r => { r with withdrawn := true }
            else s.cond.prediction }) ∧
  (∀ (s : State) (step hold tonnes : Nat), s.cond.request = none →
    let inputs := { s.runInputs none with extra := some (hold, (tonnes : Int)) }
    s.askPrediction step hold tonnes =
      if s.cond.evaluation ≠ none ∨ s.cond.prediction ≠ none then
        s.setCond { s.cond with request := some ⟨step, hold, tonnes, 0, false⟩ }
      else s.setCond { s.cond with request := some ⟨step, hold, tonnes, 1, true⟩, prediction := some ⟨inputs, false⟩ }) ∧
  (∀ (s : State) (q : PredictionRequest), s.cond.request = some q →
    (∀ step hold tonnes, s.askPrediction step hold tonnes = s) ∧
      s.beginPrediction = s.setCond { s.cond with
        request := some { q with runs := q.runs + 1, running := true }
        prediction := some ⟨{ s.runInputs none with extra := some (q.hold, (q.tonnes : Int)) }, false⟩ }) ∧
  ∀ s : State, once s →
    let held := fun x : PourStep => x.state = .held ∧ x.cause ≠ some .overrun
    s.judgeRelease =
      if s.faults.state = .normal ∧ s.modes.mode = .berth ∧ ∀ i ∈ List.range 36, (s.watched i).state = .off ∨
          (s.watched i).state = .clear ∨ (s.watched i).state = .caution then
        (s.setPour { s.pour with
          steps := s.pour.steps.map fun x => if held x then { x with state := .ready, cause := none } else x }).setShore
          ((s.pour.steps.filter fun x => decide (held x)).foldl (fun u x =>
            u.shoreSend .state (.pour .GO [fnat x.id, fnat (x.planned - x.tally)])) s).shore
      else s

/-! ## The condition -/

/-- FW, HC, BR and TD: their checks in order, the record that each sets, and the evaluation that each asks for: FW and HC
as a mass change, whose stamp the reply carries, BR and TD without a new stamp. A mass change adds one to the stamp, which
wraps; an evaluation that is asked for begins at once with the inputs as they stand, the masses of the defined tanks, holds
and items ascending, or sets the again flag while a run is in progress (R96, R98 to R103, R137; a withdrawn prediction is a
run in progress until it ends, log 14). -/
def Obligations.ConditionRecordsAreSet : Prop :=
  ∀ (s : State) (ps : List Int),
    let n := parN ps 1
    (ConsoleTakes s .FW ps → exec (.fixedWeight ps) s = .next
      (if ps.length ≠ 2 then s.refuse .FW .args
      else if ¬ (1 ≤ par ps 1 ∧ par ps 1 ≤ 8 ∧ 0 ≤ par ps 2 ∧ par ps 2 ≤ 99999) then s.refuse .FW .range
      else if s.faults.state = .restart then s.refuse .FW .halt
      else if itemDefined s.parts n = false then s.refuse .FW .none
      else (s.setItemRecord n ⟨parN ps 2, true⟩).massChange.reply .FW
        [fnat n, fnat (parN ps 2), fstamp (s.cond.stamp + 1)])) ∧
    (ConsoleTakes s .HC ps → exec (.holdCargo ps) s = .next
      (if ps.length ≠ 2 then s.refuse .HC .args
      else if ¬ (1 ≤ par ps 1 ∧ par ps 1 ≤ 9 ∧ 0 ≤ par ps 2 ∧ par ps 2 ≤ 999999) then s.refuse .HC .range
      else if s.faults.state = .restart then s.refuse .HC .halt
      else if holdDefined s.parts n = false then s.refuse .HC .none
      else if ∃ x ∈ s.pour.steps, x.hold = n ∧ (x.state = .granted ∨ x.state = .pouring) then s.refuse .HC .busy
      else (s.setHoldRecord n ⟨parN ps 2, true⟩).massChange.reply .HC
        [fnat n, fnat (parN ps 2), fstamp (s.cond.stamp + 1)])) ∧
    (ConsoleTakes s .BR ps → exec (.berthRecord ps) s = .next
      (if ps.length ≠ 5 then s.refuse .BR .args
      else if ¬ (1 ≤ par ps 1 ∧ par ps 1 ≤ 9999 ∧ ∀ x ∈ ps.drop 1, 0 ≤ x ∧ x ≤ 9999) then
        s.refuse .BR .range
      else if s.faults.state = .restart then s.refuse .BR .halt
      else if ∃ x ∈ s.pour.steps, x.state = .granted ∨ x.state = .pouring then s.refuse .BR .busy
      else ((s.setCond { s.cond with
        berth := some ⟨n, parN ps 2, parN ps 3, parN ps 4, parN ps 5⟩ }).requestEvaluation).reply .BR
        [fnat n, fnat (parN ps 2), fnat (parN ps 3), fnat (parN ps 4), fnat (parN ps 5)])) ∧
    (ConsoleTakes s .TD ps → exec (.tide ps) s = .next
      (if ps.length ≠ 1 then s.refuse .TD .args
      else if ¬ (-999 ≤ par ps 1 ∧ par ps 1 ≤ 9999) then s.refuse .TD .range
      else if s.faults.state = .restart then s.refuse .TD .halt
      else ((s.setCond { s.cond with tide := ⟨.fresh, par ps 1, s.now⟩ }).requestEvaluation).reply .TD
        [.num (par ps 1)])) ∧
    (∀ p : Option Memory,
      definedTanks p = ((List.range 25).filter fun k => decide (1 ≤ k ∧ tankDefined p k = true)) ∧
      definedHolds p = ((List.range 10).filter fun k => decide (1 ≤ k ∧ holdDefined p k = true)) ∧
      definedItems p = ((List.range 9).filter fun k => decide (1 ≤ k ∧ itemDefined p k = true))) ∧
    s.massChange = (s.setCond { s.cond with stamp := s.cond.stamp + 1 }).requestEvaluation ∧
    s.requestEvaluation =
      if s.cond.evaluation ≠ none ∨ s.cond.prediction ≠ none then s.setCond { s.cond with again := true }
      else s.setCond { s.cond with evaluation := some {
        stamp := s.cond.stamp
        particulars := s.parts
        tanks := (definedTanks s.parts).map fun t =>
          ⟨t, decide ((s.tank t).gauge ≠ .unread), ((((s.tank t).volume).map fun v => v * 1025 / 1000).getD 0 : Nat)⟩
        holds := (definedHolds s.parts).map fun h => ⟨h, (s.holdRecord h).set, ((s.holdRecord h).mass : Nat)⟩
        items := (definedItems s.parts).map fun i => ⟨i, (s.itemRecord i).set, ((s.itemRecord i).mass : Nat)⟩
        berth := s.cond.berth
        tideState := s.cond.tide.state
        tideHeight := s.cond.tide.height
        extra := none } }

/-- The condition that a run computes from its inputs. It carries the run's stamp and its input state: PARTICULARS, then
the lowest TANK unread, HOLD or ITEM unset, else COMPLETE. The masses are those of the tanks, holds and items, each with
its levers and coefficients, a prediction's tonnes added to its hold. Without the input state COMPLETE every quantity is
INDEFINITE.
With it, a quantity that has a value has the value of its formula, in integers with truncated quotients, within its range;
it has one when its divisor is not 0, the products are within 2,147,483,647, the magnitudes of what is summed stay together
within that, and the result is in its range; the values of undefined stations and holds are absent. The drafts, the
clearances and the least clearance with its hold follow from these (R105 to R111; the order of the masses and of the
partial sums, which such sums do not show, is log 8). -/
def Obligations.ConditionIsComputed : Prop :=
  ∀ r : RunInputs,
    let w := pword r.particulars
    let c := r.compute
    let bound : Nat := 2147483647
    let mass := fun x : MassTerm => x.mass.getD 0
    let sum := fun (k : Int) (f : MassTerm → Int) => k + (r.terms.map f).sum
    let small := fun (k : Int) (f : MassTerm → Int) =>
      (∀ x ∈ r.terms, x.mass ≠ none) ∧ k.natAbs + (r.terms.map fun x => (f x).natAbs).sum ≤ bound
    let inside := fun (lo hi v : Int) => if lo ≤ v ∧ v ≤ hi then some v else none
    let moment := sum (w 7) fun x => mass x * x.longitudinal
    let heel := sum 0 fun x => mass x * x.transverse
    let draft := fun x : Int =>
      match c.mean, c.trim with
      | some m, some t =>
        if (t * x).natAbs ≤ bound ∧ w 2 ≠ 0 then inside 0 9999 (m - Int.tdiv (t * x) (w 2)) else none
      | _, _ => none
    let fore := Int.tdiv (w 2) 2
    (c.stamp = r.stamp ∧ c.tideState = r.tideState ∧ c.tideHeight = r.tideHeight ∧ c.inputState = r.state ∧
      r.state =
        if r.particulars = none then .particulars
        else
          match r.tanks.find? fun x => !x.known, r.holds.find? fun x => !x.known, r.items.find? fun x => !x.known with
          | some x, _, _ => .tank x.number
          | none, some x, _ => .hold x.number
          | none, none, some x => .item x.number
          | none, none, none => .complete) ∧
    (let term := fun (base lever shear bending : Nat) (m : Option Int) =>
        ({ mass := m, longitudinal := w (base + lever), transverse := w (base + lever + 1), shearBase := base + shear,
           bendingBase := base + bending } : MassTerm);
      r.terms = r.tanks.map (fun x => term (tankBase x.number) 24 26 42 (some x.mass)) ++
        r.holds.map (fun x => term (holdBase x.number) 3 5 21
          (match r.extra with
            | none => some x.mass
            | some (h, tonnes) =>
              if h ≠ x.number then some x.mass
              else if (x.mass + tonnes).natAbs ≤ bound then some (x.mass + tonnes)
              else none)) ++
        r.items.map (fun x => term (itemBase x.number) 1 3 19 (some x.mass))) ∧
    (r.state ≠ .complete →
      c.displacement = none ∧ c.mean = none ∧ c.forward = none ∧ c.aft = none ∧ c.trim = none ∧ c.list = none ∧
        c.ukc = none ∧ c.least = none ∧ (∀ k : Nat, (c.shear[k]?).join = none) ∧ (∀ k : Nat, (c.bending[k]?).join = none) ∧
        (∀ k : Nat, (c.holdDraft[k]?).join = none) ∧ ∀ k : Nat, (c.holdAir[k]?).join = none) ∧
    (r.state = .complete →
      (∀ d, c.displacement = some d → d = sum (w 6) mass ∧ 0 ≤ d ∧ d ≤ 2147483647) ∧
      (small (w 6) mass → 0 ≤ sum (w 6) mass → c.displacement = some (sum (w 6) mass)) ∧
      (c.mean = c.displacement.bind fun d => if w 3 = 0 then none else inside 0 9999 (Int.tdiv d (w 3))) ∧
      (∀ t, c.trim = some t → t = - Int.tdiv moment (10 * w 4) ∧ w 4 ≠ 0 ∧ -9999 ≤ t ∧ t ≤ 9999) ∧
      (small (w 7) (fun x => mass x * x.longitudinal) → (10 * w 4).natAbs ≤ bound → w 4 ≠ 0 →
        c.trim = inside (-9999) 9999 (- Int.tdiv moment (10 * w 4))) ∧
      c.forward = draft fore ∧ c.aft = draft (- fore) ∧
      (∀ v, c.list = some v → v = Int.tdiv heel (w 5) ∧ w 5 ≠ 0 ∧ -900 ≤ v ∧ v ≤ 900) ∧
      (small 0 (fun x => mass x * x.transverse) → w 5 ≠ 0 → c.list = inside (-900) 900 (Int.tdiv heel (w 5))) ∧
      (∀ n, 1 ≤ n → n ≤ 16 → stationDefined r.particulars n = true →
        let b := stationBase n
        let force := fun x : MassTerm => Int.tdiv (mass x * w (x.shearBase + (n - 1))) 1000
        let torque := fun x : MassTerm => Int.tdiv (mass x * w (x.bendingBase + (n - 1))) 1000
        (∀ v, (c.shear[n - 1]?).join = some v → ∃ d, c.displacement = some d ∧
          v = sum (w (b + 10)) force - Int.tdiv (d * w (b + 12)) 1000 ∧ -9999999 ≤ v ∧ v ≤ 9999999) ∧
        (∀ v, (c.bending[n - 1]?).join = some v → ∃ d, c.displacement = some d ∧
          v = sum (w (b + 11)) torque - Int.tdiv (d * w (b + 13)) 1000 ∧ -99999999 ≤ v ∧ v ≤ 99999999) ∧
        ∀ d, c.displacement = some d →
          ((∀ x ∈ r.terms, (mass x * w (x.shearBase + (n - 1))).natAbs ≤ bound) → small (w (b + 10)) force →
            (d * w (b + 12)).natAbs ≤ bound →
            (c.shear[n - 1]?).join =
              inside (-9999999) 9999999 (sum (w (b + 10)) force - Int.tdiv (d * w (b + 12)) 1000)) ∧
          ((∀ x ∈ r.terms, (mass x * w (x.bendingBase + (n - 1))).natAbs ≤ bound) → small (w (b + 11)) torque →
            (d * w (b + 13)).natAbs ≤ bound →
            (c.bending[n - 1]?).join =
              inside (-99999999) 99999999 (sum (w (b + 11)) torque - Int.tdiv (d * w (b + 13)) 1000))) ∧
      (∀ n, 1 ≤ n → n ≤ 16 → stationDefined r.particulars n = false →
        (c.shear[n - 1]?).join = none ∧ (c.bending[n - 1]?).join = none) ∧
      (∀ h, 1 ≤ h → h ≤ 9 → holdDefined r.particulars h = true →
        (c.holdDraft[h - 1]?).join = draft (w (holdBase h + 1))) ∧
      (∀ h, 1 ≤ h → h ≤ 9 → holdDefined r.particulars h = false →
        (c.holdDraft[h - 1]?).join = none ∧ (c.holdAir[h - 1]?).join = none) ∧
      ((r.berth = none ∨ r.tideState ≠ .fresh) → c.ukc = none ∧ c.least = none ∧ ∀ k : Nat, (c.holdAir[k]?).join = none) ∧
      ∀ b : BerthRecord, r.berth = some b → r.tideState = .fresh →
        (c.ukc =
          match c.forward, c.aft with
          | some f, some a =>
            if ((b.depth : Int) + r.tideHeight).natAbs ≤ bound then
              inside (-9999) 9999 (b.depth + r.tideHeight - max f a)
            else none
          | _, _ => none) ∧
        (∀ h, 1 ≤ h → h ≤ 9 → holdDefined r.particulars h = true →
          (∀ v, (c.holdAir[h - 1]?).join = some v → ∃ d, (c.holdDraft[h - 1]?).join = some d ∧
            v = b.boom - r.tideHeight - (w (holdBase h + 2) - d) ∧ -9999 ≤ v ∧ v ≤ 9999) ∧
          ∀ d, (c.holdDraft[h - 1]?).join = some d → ((b.boom : Int) - r.tideHeight).natAbs ≤ bound →
            (w (holdBase h + 2) - d).natAbs ≤ bound →
            (c.holdAir[h - 1]?).join = inside (-9999) 9999 (b.boom - r.tideHeight - (w (holdBase h + 2) - d))) ∧
        (r.holds.map (fun x => x.number) = definedHolds r.particulars →
          (∀ a h, c.least = some (a, h) → h ∈ definedHolds r.particulars ∧ (c.holdAir[h - 1]?).join = some a ∧
            ∀ k ∈ definedHolds r.particulars, ∃ v, (c.holdAir[k - 1]?).join = some v ∧ a ≤ v ∧ (k < h → a < v)) ∧
          (c.least = none ↔
            definedHolds r.particulars = [] ∨ ∃ k ∈ definedHolds r.particulars, (c.holdAir[k - 1]?).join = none)))

/-- KQ, DQ and WQ: their checks in order and the fields of each leaf (R114, R155; the tide age in whole seconds, log 24), of
the table of watched quantities, of one entry, and of one recipe slot (R132, R133; an applicable limit that does not exist
is an empty field, log 36; the sign of a slot is sent as + or −, log 38). -/
def Obligations.ConditionAndMarginsAreReported : Prop :=
  (∀ (s : State) (ps : List Int),
    let shown := fun f : Condition → Option Int => fint? (s.cond.published.bind f)
    let stamp := fstamp? (s.cond.published.map fun c => c.stamp)
    let air := fun c : Condition => c.least.map fun q => q.1
    let hold := fnat? (s.cond.published.bind fun c => c.least.map fun q => q.2)
    let tide := s.cond.tide
    (ConsoleTakes s .KQ ps → exec (.conditionQuery ps) s = .next
      (if 1 < ps.length then s.refuse .KQ .args
      else if ¬ (0 ≤ par ps 1 ∧ par ps 1 ≤ 3) then s.refuse .KQ .range
      else if s.faults.state = .restart then s.refuse .KQ .halt
      else if par ps 1 = 0 then
        s.reply .KQ ([stamp, fstamp s.cond.stamp, .word (if s.cond.evaluation = none then "IDLE" else "RUNNING"),
          .num (if s.cond.again = true then 1 else 0),
          (match s.cond.request with
            | none => .word "NONE"
            | some q => .word (if q.running = true then "RUNNING" else "HELD")),
          fnat? (s.cond.request.map fun q => q.runs),
          fword? (s.cond.published.map fun c => c.inputState.word),
          (match (s.cond.published.map fun c => c.inputState : Option InputState) with
            | some (.tank k) => fnat k
            | some (.hold k) => fnat k
            | some (.item k) => fnat k
            | _ => .empty),
          shown fun c => c.displacement, shown fun c => c.mean, shown fun c => c.forward, shown fun c => c.aft,
          shown fun c => c.trim, shown fun c => c.list, shown fun c => c.ukc, shown air, hold,
          .word tide.state.word] ++
          (if tide.state = .unset then [.empty, .empty]
          else [.num tide.height, fnat (min 65535 ((s.now - tide.since) / 1000))]))
      else if par ps 1 = 1 then
        s.reply .KQ (stamp :: (List.range 16).flatMap fun k =>
          [shown fun c => (c.shear[k]?).join, shown fun c => (c.bending[k]?).join])
      else if par ps 1 = 2 then
        s.reply .KQ (stamp :: (List.range 9).flatMap fun k =>
          [shown fun c => (c.holdDraft[k]?).join, shown fun c => (c.holdAir[k]?).join])
      else
        s.reply .KQ (((List.range 8).map fun k =>
            if itemDefined s.parts (k + 1) = true ∧ (s.itemRecord (k + 1)).set = true then
              fnat (s.itemRecord (k + 1)).mass
            else .empty) ++
          (match s.cond.berth with
            | some b => [fnat b.port, fnat b.depth, fnat b.boom, fnat b.minUkc, fnat b.minAir, .word "SET"]
            | none => [.empty, .empty, .empty, .empty, .empty, .word "UNSET"])))) ∧
    (ShoreTakes s .DQ ps → exec (.draftQuery ps) s = .next
      (if ps.length ≠ 0 then s.shoreRefuse .DQ .args
      else if s.faults.state = .restart then s.shoreRefuse .DQ .halt
      else s.shoreReply (.reply .DQ [stamp, shown fun c => c.forward, shown fun c => c.mean, shown fun c => c.aft,
        shown fun c => c.trim, shown fun c => c.ukc, shown air, hold])))) ∧
  ∀ (s : State) (ps : List Int), ConsoleTakes s .WQ ps →
    let n := parN ps 1
    let e := s.watched n
    let sign : Sign := if par ps 2 = 1 then .minus else .plus
    let r := recipeSlot s.parts n sign
    let set := s.modes.mode.limits
    let count := fun st : MarginState => fnat ((List.range 36).filter fun i => decide ((s.watched i).state = st)).length
    exec (.watchedQuantityQuery ps) s = .next
      (if 2 < ps.length then s.refuse .WQ .args
      else if (1 ≤ ps.length ∧ ¬ (0 ≤ par ps 1 ∧ par ps 1 ≤ 35)) ∨ (ps.length = 2 ∧ ¬ (0 ≤ par ps 2 ∧ par ps 2 ≤ 1)) then
        s.refuse .WQ .range
      else if s.faults.state = .restart then s.refuse .WQ .halt
      else if ps.length = 0 then
        s.reply .WQ ([.word set.word, fnat (cautionThreshold s.settings.working.stationCaution),
          fnat (cautionThreshold s.settings.working.shipCaution), fstamp? s.margins.graded, count .caution, count .limit,
          count .breach, count .indeterminate] ++
          ((List.range 36).filter fun i => (s.watched i).state.blocks).map fnat)
      else if ps.length = 1 then
        s.reply .WQ [fnat n, .word (quantityWord n),
          (if n < 32 then fnat (n / 2 + 1)
          else if n = 35 ∧ e.value ≠ none then fnat? (s.cond.published.bind fun c => c.least.map fun q => q.2)
          else .empty),
          fint? e.value, fnat? e.percent, .word e.state.word, .word e.sign.word,
          (if e.state = .off then .empty
          else if n < 34 then (if set = .off then .empty else fnat (upperLimit s.parts set n e.sign))
          else if s.cond.berth = none then .empty
          else fnat (requiredClearance s.cond.berth n)),
          fstamp? e.stamp, .word (if recipeSlot s.parts n e.sign = none then "EMPTY" else "SET"),
          fnat? ((s.transfers.records.find? fun t => decide (t.source = .recipe n e.sign)).map fun t => t.id)]
      else
        s.reply .WQ [fnat n, .word sign.word, fword? (r.map fun x => x.direction.word), fnat? (r.map fun x => x.volume),
          fnat? (r.bind fun x => x.tanks[0]?), fnat? (r.bind fun x => x.tanks[1]?)])

/-! ## Reports -/

/-- RP and RA: their checks in order. RP makes the composer WAITING, its body count 0, and queues the reply that the
header follows; RA drops a report that waits, or gives one that streams the abort cause RA unless it has one (R172,
R173, R181; a kind is sent as its number, log 38; on an idle link the header follows within the event of RP, log 45). -/
def Obligations.ReportsAreAskedAndAborted : Prop :=
  ∀ (s : State) (ps : List Int),
    (ConsoleTakes s .RP ps → exec (.report ps) s = .next
      (if ps.length ≠ 1 then s.refuse .RP .args
      else if ¬ (1 ≤ par ps 1 ∧ par ps 1 ≤ 4) then s.refuse .RP .range
      else if s.modes.mode = .commission then s.refuse .RP .mode
      else if s.faults.state = .restart then s.refuse .RP .halt
      else if par ps 1 = 4 ∧ ¬ (s.pour.steps = [] ∧ s.transfers.records = [] ∧ s.movers.m1.phase = .idle ∧
          s.movers.m2.phase = .idle ∧ s.movers.m3.phase = .idle) then s.refuse .RP .state
      else if s.composer.state ≠ .idle then s.refuse .RP .busy
      else
        ((s.setComposer ⟨.waiting (ReportKind.ofParam (par ps 1)), 0⟩).setConsole
          { s.console with rx := { s.console.rx with inHand := none } }).joinReplies
          ⟨.reply .RP [.num (par ps 1)], true⟩)) ∧
    (ConsoleTakes s .RA ps → exec (.reportAbort ps) s = .next
      (if ps.length ≠ 0 then s.refuse .RA .args
      else if s.faults.state = .restart then s.refuse .RA .halt
      else
        match s.composer.state with
        | .idle => s.refuse .RA .state
        | .waiting kind =>
          ((s.setComposer ⟨.idle, s.composer.body⟩).setConsole { s.console with
            replies := s.console.replies.map fun q => { q with isRp := false }
            buffer := s.console.buffer.map fun q => { q with isRp := false } }).reply .RA
            [fnat kind.number, .word "DROPPED"]
        | .composing kind sect cursor start abort =>
          (s.setComposer ⟨.composing kind sect cursor start (some (abort.getD .ra)), s.composer.body⟩).reply .RA
            [fnat kind.number, .word "ABORTED"]))

/-- When the buffered console line goes into transmission the buffer is filled by the composer state. NONE: the oldest
reply. WAITING: the oldest reply too, until the line gone is the reply to the RP: then the header is composed, with the
start stamp, and the composer is COMPOSING at the first section. COMPOSING: the next line of the report, from the records
as they stand; the footer, with the outcome, when the last section is exhausted or the abort cause is present, which
becomes DEPART when a DEPARTURE report finds its conditions broken. The footer ends the report, and that of a DEPARTURE
report that was not aborted places DR in the departure slot (R156, R173 to R175, R180; the place code is empty in
COMMISSION, log 42). -/
def Obligations.ReportsAreComposed : Prop :=
  (∀ (s : State) (q : QueuedLine), s.console.tx = none → s.console.hold = false → s.console.buffer = some q →
    let u := s.setConsole { s.console with tx := some ⟨q.line, 0⟩, buffer := none }
    let place := fun (v : State) (l : Line) => v.setConsole { v.console with buffer := some ⟨l, false⟩ }
    let replies := u.setConsole { u.console with
      buffer := s.console.replies.head?, replies := s.console.replies.tail }
    let shown := fun f : Condition → Option Int => fint? (s.cond.published.bind f)
    s.startConsole =
      match s.composer.state with
      | .idle => replies
      | .waiting kind =>
        if q.isRp = true then
          let first : Section := match kind with
            | .declaration => .tanks
            | .condition => .condition
            | .plan => .steps
            | .departure => .drafts
          place (u.setComposer { s.composer with state := .composing kind first 0 s.cond.stamp none })
            (.report .HDR [.word kind.word, .word s.modes.mode.word,
              (match s.modes.mode with
                | .berth => fnat? (s.cond.berth.map fun b => b.port)
                | .passage => fnat? s.modes.location
                | _ => .empty),
              fint? (s.parts.map fun m => m.read 0), .word s.faults.state.word, fstamp s.cond.stamp])
        else replies
      | .composing kind sect cursor start abort =>
        let broken := kind = .departure ∧ ¬ (s.pour.steps = [] ∧ s.transfers.records = [] ∧
          s.movers.m1.phase = .idle ∧ s.movers.m2.phase = .idle ∧ s.movers.m3.phase = .idle)
        let cause : Option AbortCause := match abort with
          | some c => some c
          | none => if broken then some .depart else none
        let ended := u.setComposer { s.composer with state := .idle }
        let footer := place
          (if kind = .departure ∧ cause = none then
            ended.shoreSend .departure (.pour .DR
              [shown fun c => c.forward, shown fun c => c.mean, shown fun c => c.aft, shown fun c => c.trim])
          else ended)
          (.report .END [fstamp start, fstamp s.cond.stamp,
            .word (if cause ≠ none then "ABORTED" else if start = s.cond.stamp then "STEADY" else "MOVING"),
            fword? (cause.map AbortCause.word), fnat s.composer.body])
        match cause, s.findLine kind (kind.sections.dropWhile fun x => decide (x ≠ sect)) cursor with
        | none, some (sect', cursor', l) =>
          place (u.setComposer ⟨.composing kind sect' cursor' start none, min 255 (s.composer.body + 1)⟩) l
        | _, _ => footer) ∧
  (ReportKind.sections .declaration = [.tanks, .total] ∧
    ReportKind.sections .condition = [.condition, .stations, .ship, .holds, .items, .berth] ∧
    ReportKind.sections .plan = [.steps, .total] ∧ ReportKind.sections .departure = [.drafts, .tanks, .total]) ∧
  ∀ (s : State) (kind : ReportKind),
    (∀ cursor, s.findLine kind [] cursor = none) ∧
      ∀ (sect : Section) (rest : List Section) (cursor : Nat),
        s.findLine kind (sect :: rest) cursor =
          match s.sectionLine kind sect cursor with
          | some (c, l) => some (sect, c, l)
          | none => s.findLine kind rest 0

/-- The next line of each section above its cursor, with the new cursor and every field from the records as they stand;
none when the section is exhausted. TANKS, STATIONS, SHIP, HOLDS and ITEMS go up the numbers that the particulars define,
STEPS goes by position, and the other sections yield one line at cursor 0 (R175 to R179; the cursor 0 and 1 of a section of
one line, log 33; the tide age in whole seconds, log 24; the hold's mass as it stands while nothing is published, log 43). -/
def Obligations.ReportLinesCarryTheirFields : Prop :=
  ∀ (s : State) (kind : ReportKind) (cursor : Nat),
    let shown := fun f : Condition → Option Int => fint? (s.cond.published.bind f)
    let stamp := fstamp? (s.cond.published.map fun c => c.stamp)
    let graded := fstamp? s.margins.graded
    let least := fnat? (s.cond.published.bind fun c => c.least.map Prod.snd)
    let bit := fun b : Bool => Field.num (if b = true then 1 else 0)
    let next := fun (ns : List Nat) (line : Nat → Line) =>
      (ns.find? fun n => decide (cursor < n)).map fun n => (n, line n)
    let once := fun l : Line => if cursor = 0 then some (1, l) else none
    let entry := fun i : Nat => [fint? (s.watched i).value, fnat? (s.watched i).percent, .word (s.watched i).state.word,
      .word (s.watched i).sign.word]
    let tanks := (definedTanks s.parts).map s.tank
    let tide := s.cond.tide
    s.sectionLine kind .tanks cursor = (next (definedTanks s.parts) fun n =>
      let x := s.tank n
      .report .TNK [fnat n, .word (sideWord (pword s.parts (tankBase n + 1))), fnat (tankCapacity s.parts n),
        fnat? x.volume, .word x.gauge.word, .word (s.motion n).word, .word x.origin.exchange.word,
        .word x.origin.window.word, bit x.origin.more, fnat? x.origin.codes[0]?, fnat? x.origin.codes[1]?]) ∧
    s.sectionLine kind .total cursor = once
      (if kind = .plan then
        .report .PLN [fnat s.pour.steps.length, fnat? (s.pour.steps.head?.map fun x => x.id),
          fnat (s.pour.steps.map fun x => x.planned - x.tally).sum]
      else
        .report .SUM [fnat tanks.length, fnat (tanks.map fun x => x.volume.getD 0).sum,
          fnat (tanks.filter fun x => decide (x.volume = none)).length,
          fnat (tanks.filter fun x => decide (x.origin.exchange = .exchanged)).length,
          fnat (tanks.filter fun x => x.origin.more).length]) ∧
    s.sectionLine kind .condition cursor = once
      (.report .CND [stamp, fword? (s.cond.published.map fun c => c.inputState.word),
        (match (s.cond.published.map fun c => c.inputState : Option InputState) with
          | some (.tank k) => fnat k
          | some (.hold k) => fnat k
          | some (.item k) => fnat k
          | _ => .empty),
        shown fun c => c.displacement, shown fun c => c.mean, shown fun c => c.forward, shown fun c => c.aft,
        shown fun c => c.trim, shown fun c => c.list, shown fun c => c.ukc, shown fun c => c.least.map Prod.fst, least]) ∧
    s.sectionLine kind .stations cursor = (next (definedStations s.parts) fun n =>
      .report .STN ([graded, fnat n] ++ entry (2 * (n - 1)) ++ entry (2 * (n - 1) + 1))) ∧
    s.sectionLine kind .ship cursor = (next [32, 33, 34, 35] fun i =>
      .report .SHP ([graded, fnat i, .word (if i = 32 then "TRIM" else if i = 33 then "LIST" else if i = 34 then "UKC"
        else "AIR")] ++ entry i)) ∧
    s.sectionLine kind .holds cursor = (next (definedHolds s.parts) fun h =>
      .report .HLD [stamp, fnat h, if (s.holdRecord h).set = true then fnat (s.holdRecord h).mass else .empty,
        shown fun c => (c.holdDraft[h - 1]?).join, shown fun c => (c.holdAir[h - 1]?).join]) ∧
    s.sectionLine kind .items cursor = (next (definedItems s.parts) fun i =>
      .report .ITM [fnat i, if (s.itemRecord i).set = true then fnat (s.itemRecord i).mass else .empty]) ∧
    s.sectionLine kind .berth cursor = once
      (.report .BRT ((match s.cond.berth with
          | some b => [fnat b.port, fnat b.depth, fnat b.boom, fnat b.minUkc, fnat b.minAir]
          | none => [.empty, .empty, .empty, .empty, .empty]) ++ [.word tide.state.word] ++
        (if tide.state = .unset then [.empty, .empty]
        else [.num tide.height, fnat (min 65535 ((s.now - tide.since) / 1000))]))) ∧
    s.sectionLine kind .steps cursor = (s.pour.steps[cursor]?.map fun x =>
      (cursor + 1, .report .STP [fnat (cursor + 1), fnat x.id, fnat x.hold, fnat x.planned, fnat x.tally,
        fnat (x.planned - x.tally), fnat x.lead, .word x.state.word, .word x.pairing.word,
        (match x.pairing with
          | .unpaired => .empty
          | .running k => fnat k
          | .done k => fnat k),
        fnat? x.granted, fword? (x.cause.map HoldCause.word)])) ∧
    s.sectionLine kind .drafts cursor = once
      (.report .DRF [stamp, shown fun c => c.displacement, shown fun c => c.forward, shown fun c => c.mean,
        shown fun c => c.aft, shown fun c => c.trim, shown fun c => c.list])

/-! ## Attention and identification -/

/-- AQ and ID: their checks in order and their fields (R193, R195). -/
def Obligations.AttentionAndIdentityReport : Prop :=
  ∀ (s : State) (ps : List Int),
    let a := s.attention
    let start : Nat := if ps.length = 0 then 1 else parN ps 1
    (ConsoleTakes s .AQ ps → exec (.attentionQuery ps) s = .next
      (if 1 < ps.length then s.refuse .AQ .args
      else if ps.length = 1 ∧ ¬ (1 ≤ par ps 1 ∧ par ps 1 ≤ 64) then s.refuse .AQ .range
      else s.reply .AQ ([fnat a.code, fnat a.items.length, fnat a.overflow, fnat start] ++
        ((a.items.drop (start - 1)).take 16).map Field.item))) ∧
    (ConsoleTakes s .ID ps → exec (.identify ps) s = .next
      (if 1 < ps.length then s.refuse .ID .args
      else if ¬ (0 ≤ par ps 1 ∧ par ps 1 ≤ 2) then s.refuse .ID .range
      else if par ps 1 = 0 then s.reply .ID [.num 0, .num 2, .word "MERIGAL PANDREL"]
      else if par ps 1 = 1 then
        s.reply .ID [.num 1, .word "PD-2416", .num 4, .num 24, .num 9, .num 8, .num 16, .num 16, .num 48, .num 3, .num 64]
      else
        match s.particulars.inUse with
        | none => s.reply .ID [.num 2, .empty, .empty, .empty]
        | some m =>
          s.reply .ID [.num 2, .num (m.read 0), .num (m.read 1), fnat s.particulars.storeChecksum]))

/-- AK: its checks in order; the items of a class go, or the items named, or the overflow count, and the reply carries
the attention code after the removal and the number of items removed (R194). The kind and object codes name the items of the
table of section 10.7, and no others. Raising an item: nothing when it is pending;
the newest while fewer than 64 are pending; in a full set it takes the place of the oldest item of the lowest weight below
its own, or is not added, and the overflow count goes up to 255. The set holds each item once (R191). The attention code is
the sum of the weights of the classes with a pending item, and a line is asserted while the part runs and an item of a class
assigned to it is pending (R192, R196). -/
def Obligations.AttentionItemsComeAndGo : Prop :=
  (∀ (s : State) (ps : List Int), ConsoleTakes s .AK ps →
    let x := par ps 1
    let named := (pairsFrom ps).map fun q => itemOf q.1 q.2
    let kept := s.attention.items.filter fun i =>
      !(if ps.length = 1 then decide (x = (i.weight : Int)) else named.any fun y => decide (y = some i))
    let a : AttentionSet := ⟨kept, if ps = [0] then 0 else s.attention.overflow⟩
    exec (.attentionAcknowledge ps) s = .next
      (if ps.length = 0 ∨ (1 < ps.length ∧ ps.length % 2 = 1) ∨ 16 < ps.length then s.refuse .AK .args
      else if (ps.length = 1 ∧ ¬ (x = 0 ∨ x = 1 ∨ x = 2 ∨ x = 4)) ∨
          (ps.length ≠ 1 ∧ ¬ ((∀ y ∈ named, y ≠ none) ∧ named.Nodup)) then s.refuse .AK .range
      else if s.faults.state = .restart then s.refuse .AK .halt
      else if ps.length ≠ 1 ∧ ∃ y ∈ named, ∀ i ∈ s.attention.items, y ≠ some i then s.refuse .AK .none
      else (s.setAttention a).reply .AK [fnat a.code, fnat (s.attention.items.length - kept.length)])) ∧
  ((∀ n : Nat,
      (1 ≤ n → n ≤ 24 → itemOf 1 n = some (.gauge n)) ∧
      (n ≤ 35 → itemOf 2 n = some (.indet n) ∧ itemOf 3 n = some (.caution n) ∧ itemOf 41 n = some (.limit n) ∧
        itemOf 4 (2 * n) = some (.corrRefused n .plus) ∧ itemOf 4 (2 * n + 1) = some (.corrRefused n .minus)) ∧
      (1 ≤ n → n ≤ 255 → itemOf 5 n = some (.stripRefused n)) ∧ (n ≤ 63 → itemOf 6 n = some (.point n)) ∧
      (1 ≤ n → n ≤ 999 → itemOf 42 n = some (.stepHeld n))) ∧
    itemOf 7 0 = some .settingsDefaulted ∧ itemOf 8 0 = some .originsCleared ∧ itemOf 9 0 = some .tideStale ∧
    itemOf 21 1 = some (.ended .m1) ∧ itemOf 21 2 = some (.ended .m2) ∧ itemOf 21 3 = some (.ended .m3) ∧
    itemOf 22 1 = some (.moverFault .m1) ∧ itemOf 22 2 = some (.moverFault .m2) ∧ itemOf 22 3 = some (.moverFault .m3) ∧
    itemOf 43 0 = some .halt ∧ itemOf 44 0 = some .restarted ∧
    ∀ k o : Int, itemOf k o ≠ none ↔
      (k = 1 ∧ 1 ≤ o ∧ o ≤ 24) ∨ ((k = 2 ∨ k = 3 ∨ k = 41) ∧ 0 ≤ o ∧ o ≤ 35) ∨ (k = 4 ∧ 0 ≤ o ∧ o ≤ 71) ∨
        (k = 5 ∧ 1 ≤ o ∧ o ≤ 255) ∨ (k = 6 ∧ 0 ≤ o ∧ o ≤ 63) ∨
        ((k = 7 ∨ k = 8 ∨ k = 9 ∨ k = 43 ∨ k = 44) ∧ o = 0) ∨ ((k = 21 ∨ k = 22) ∧ 1 ≤ o ∧ o ≤ 3) ∨
        (k = 42 ∧ 1 ≤ o ∧ o ≤ 999)) ∧
  (∀ (a : AttentionSet) (i : Item), a.items.length ≤ 64 → a.items.Nodup →
    let b := a.raise i
    b.items.Nodup ∧ b.items.length ≤ 64 ∧
    (i ∈ a.items → b = a) ∧
    (i ∉ a.items → a.items.length < 64 → b = ⟨a.items ++ [i], a.overflow⟩) ∧
    (i ∉ a.items → a.items.length = 64 →
      b.overflow = min 255 (a.overflow + 1) ∧
      ((∀ x ∈ a.items, i.weight ≤ x.weight) → b.items = a.items) ∧
      (∀ before old after, a.items = before ++ old :: after → old.weight < i.weight →
        (∀ x ∈ a.items, old.weight ≤ x.weight) → (∀ x ∈ before, x.weight ≠ old.weight) →
        b.items = before ++ after ++ [i]))) ∧
  (∀ a : AttentionSet,
    a.code = (if ∃ i ∈ a.items, i.weight = 1 then 1 else 0) + (if ∃ i ∈ a.items, i.weight = 2 then 2 else 0) +
      (if ∃ i ∈ a.items, i.weight = 4 then 4 else 0)) ∧
  (∀ i : Item, i.weight =
    match i with
    | .ended _ => 2
    | .moverFault _ => 2
    | .limit _ => 4
    | .stepHeld _ => 4
    | .halt => 4
    | .restarted => 4
    | _ => 1) ∧
  ∀ s : State,
    let urgent := fun i : Item =>
      if i.weight = 1 then s.settings.working.noticeLine
      else if i.weight = 2 then s.settings.working.moverLine
      else s.settings.working.shipLine
    (s.attnU = true ↔ s.modes.condition = .running ∧ ∃ i ∈ s.attention.items, urgent i = true) ∧
      (s.attnR = true ↔ s.modes.condition = .running ∧ ∃ i ∈ s.attention.items, urgent i = false)

/-! ## Faults -/

/-- A class-2 cause begins the mover's fault stop, or escalates while a mover is in one; a class-1 cause taken in NORMAL is
the first cause and begins the halt stop, later ones join the cause set (R87, R158 to R160). At the halt stop every drive
point is OFF, every transfer has ended HALTED with its claims, the movers that are not FAULTED are STOPPING with HALT and
have no fault cause, the open steps are HELD with HALT and the others keep their state, running pairings are gone, a
clearance has ended with HO HALT, HALT is raised, and the confirmation timer runs (R65, R90, R142, R151, R161; the plan
names each step once; the order of the lines and items of the event, log 37). A commit confirms a halt stop that stood before
it when every RUN and VALVE point reads OFF, and its movers are IDLE then; it confirms none that begins within it (R162,
log 9; while the particulars are invalid there is no such point, log 16). -/
def Obligations.TheHaltStopBegins : Prop :=
  (∀ (s : State) (m : MoverId) (c : MoverCause),
    let failing : MoverId → Bool := fun k => match (s.mover k).phase with
      | .stopping .fault _ _ => true
      | _ => false
    let u := ((s.setMoverCause m (some c)).raise (.moverFault m)).enterStop m .fault (some .faulted)
    let v := u.setTransfers { u.transfers with
      records := u.transfers.records.map fun y : Transfer =>
        if y.reservation = some m then { y with reservation := none } else y }
    s.class2 m c =
      if failing .m1 = true ∨ failing .m2 = true ∨ failing .m3 = true then s.class1 (.escalated m c)
      else ((v.mover m).stack.foldl State.enqueueReturned (v.setMover m { v.mover m with stack := [] })).scan) ∧
  (∀ (s : State) (c : Cause),
    let joined := s.setFaults { s.faults with
      causes := if c ∈ s.faults.causes then s.faults.causes else s.faults.causes ++ [c] }
    s.class1 c =
      if s.faults.state = .normal then (s.setFaults { s.faults with causes := [c], first := some c }).haltStop
      else if s.faults.state ≠ .restart ∧ c ∉ s.faults.causes then joined.raise .halt
      else joined) ∧
  (∀ s : State, (s.pour.steps.map fun x => x.id).Nodup →
    let t := s.haltStop
    let pouring := s.pour.steps.filter fun x => decide (x.state = .granted ∨ x.state = .pouring)
    let said := pouring.foldl (fun u x => u.shoreSend .state (.pour .HO [fnat x.id, .word "HALT"])) s
    let kept := fun (m : MoverId) (c : Option MoverCause) => if (s.mover m).phase = .faulted then c else none
    t = ((((((((s.setAttention t.attention).setLoop { s.loop with drive := t.loop.drive }).setTankTable
        { s.tankTable with tanks := t.tankTable.tanks }).setTransfers ⟨[], [], s.transfers.counter⟩).setMovers
        t.movers).setCond (if s.pour.clearance = none then s else s.withdrawPrediction).cond).setPour t.pour).setFaults
        { s.faults with
          state := .haltStopping, confirmation := some s.now, cause1 := kept .m1 s.faults.cause1
          cause2 := kept .m2 s.faults.cause2, cause3 := kept .m3 s.faults.cause3 }).setShore t.shore ∧
      (∀ a < 64, t.drive a =
        if (roleOf s.parts a).isDrive = true ∧ (s.drive a).on = true then ⟨false, .awaiting, none⟩ else s.drive a) ∧
      (∀ n, 1 ≤ n → n ≤ 24 → t.tank n = { s.tank n with claim := none }) ∧
      (∀ m : MoverId, t.mover m =
        let x := s.mover m
        let y : Mover := { x with
          run := none, stack := [], popping := false, last := x.run.elim x.last fun id => some (id, .halted) }
        match x.phase with
        | .faulted => y
        | .stopping _ _ _ => { y with phase := .stopping .halt none .valves, gaugeDue := false }
        | _ => { y with phase := .stopping .halt none .valves, timer := s.now, flow := none, gaugeDue := false }) ∧
      t.pour = { s.pour with
        steps := s.pour.steps.map fun x =>
          let y := if ∃ r ∈ s.transfers.records, x.pairing = .running r.id then { x with pairing := .unpaired } else x
          if x.state = .granted ∨ x.state = .pouring then { y with state := .held, cause := some .halt, granted := none }
          else y
        clearance := none
        grantTimer := if ∃ x ∈ s.pour.steps, x.state = .granted then none else s.pour.grantTimer } ∧
      t.attention = (pouring.foldl (fun a x => a.raise (.stepHeld x.id)) s.attention).raise .halt ∧
      t.shore = (match s.pour.clearance with
        | none => said
        | some id => said.shoreReply (.pour .HO [fnat id, .word "HALT"])).shore) ∧
  (∀ (s : State) (w : ScanWindow), s.loop.window = some w → w.restart = false → s.faults.state = .haltStopping →
    s.transfers.queue = [] →
    (∀ m : MoverId, (s.mover m).phase = .idle ∨ (s.mover m).phase = .faulted ∨
      ∃ o, (s.mover m).phase = .stopping .halt o .valves) →
    ∃ t : State, exec .endOfScanReport s = .next t ∧
      ((∃ q ∈ drivePoints s.parts, ((s.takeScan w).scanned q.1).value ≠ some 0) →
        t.faults.state = .haltStopping ∧ t.faults.confirmation = s.faults.confirmation) ∧
      ((∀ q ∈ drivePoints s.parts, ((s.takeScan w).scanned q.1).value = some 0) →
        (∀ m : MoverId, ∀ q ∈ moverPoints s.parts m, ((s.takeScan w).scanned q.1).value = some 0) →
        t.faults = { s.faults with state := .halt, confirmation := none } ∧
          ∀ m : MoverId, (t.mover m).phase = if (s.mover m).phase = .faulted then .faulted else .idle)) ∧
  ∀ (s : State) (w : ScanWindow), s.loop.window = some w → w.restart = false → s.faults.state = .normal →
    ∃ t : State, exec .endOfScanReport s = .next t ∧ (t.faults.state = .normal ∨ t.faults.state = .haltStopping)

/-! ## Modes and stores -/

/-- SS and SV: their checks in order; one item of the working copy takes its value, or the save of the working copy
begins (R203, R204).
RS, RQ and RC: their checks in order; RS asks for the command reset from now, RQ reports the four flags of the reset
cause record, RC clears them (R206, R207). -/
def Obligations.SettingsAndResetVerbsAnswer : Prop :=
  (∀ (s : State) (ps : List Int),
    let v := parN ps 2
    let w := s.settings.working
    let new : Settings :=
      if ps.length = 2 then
        { consoleRate := if par ps 1 = 1 then v else w.consoleRate
          shoreRate := if par ps 1 = 2 then v else w.shoreRate
          stationCaution := if par ps 1 = 3 then v else w.stationCaution
          shipCaution := if par ps 1 = 4 then v else w.shipCaution
          noticeLine := if par ps 1 = 5 then decide (v = 1) else w.noticeLine
          moverLine := if par ps 1 = 6 then decide (v = 1) else w.moverLine
          shipLine := if par ps 1 = 7 then decide (v = 1) else w.shipLine }
      else w
    let bit := fun b : Bool => Field.num (if b = true then 1 else 0)
    (ConsoleTakes s .SS ps → exec (.settingsSet ps) s = .next
      (if ps.length = 1 ∨ 2 < ps.length then s.refuse .SS .args
      else if ps.length = 2 ∧ ¬ ((1 ≤ par ps 1 ∧ par ps 1 ≤ 4 ∧ 0 ≤ par ps 2 ∧ par ps 2 ≤ 7) ∨
          (5 ≤ par ps 1 ∧ par ps 1 ≤ 7 ∧ 0 ≤ par ps 2 ∧ par ps 2 ≤ 1)) then s.refuse .SS .range
      else if s.faults.state = .restart then s.refuse .SS .halt
      else (s.setSettings { s.settings with working := new }).reply .SS
        [fnat new.consoleRate, fnat new.shoreRate, fnat new.stationCaution, fnat new.shipCaution, bit new.noticeLine,
          bit new.moverLine, bit new.shipLine, .word (if s.settings.saving = none then "IDLE" else "SAVING")])) ∧
    (ConsoleTakes s .SV ps → exec (.settingsSave ps) s = .next
      (if ps.length ≠ 0 then s.refuse .SV .args
      else if s.faults.state = .restart then s.refuse .SV .halt
      else if s.settings.saving ≠ none then s.refuse .SV .busy
      else (s.setSettings { s.settings with saving := some w }).reply .SV [.word "SAVING"]))) ∧
  ∀ (s : State) (ps : List Int),
    let c := s.modes.resetCause
    let bit := fun b : Bool => Field.num (if b = true then 1 else 0)
    (ConsoleTakes s .RS ps → exec (.commandResetRequest ps) s = .next
      (if ps.length ≠ 0 then s.refuse .RS .args
      else if s.faults.state = .restart then s.refuse .RS .halt
      else (s.setModes { s.modes with resetAsked := some ⟨s.now, false⟩ }).reply .RS [])) ∧
    (ConsoleTakes s .RQ ps → exec (.resetCauseQuery ps) s = .next
      (if ps.length ≠ 0 then s.refuse .RQ .args
      else s.reply .RQ [bit c.power, bit c.line, bit c.command, bit c.restart])) ∧
    (ConsoleTakes s .RC ps → exec (.resetCauseClear ps) s = .next
      (if ps.length ≠ 0 then s.refuse .RC .args
      else if s.faults.state = .restart then s.refuse .RC .halt
      else (s.setModes { s.modes with resetCause := ⟨false, false, false, false⟩ }).reply .RC []))

/-- PW: its checks in order; the values stand at consecutive addresses of the edit copy, every other word of it is as it
was, and nothing else changes but the reply (R201). The edit copy is in canonical form, as the invariant of the
particulars says. -/
def Obligations.ParticularsAreWritten : Prop :=
  ∀ (s : State) (ps : List Int), ConsoleTakes s .PW ps → (s.particulars.edit.getD []).wf = true →
    ∃ m : Memory,
      (∀ a : Nat, m.read a =
        if parN ps 1 ≤ a ∧ a < parN ps 1 + (ps.length - 1) then ps.getD (a - parN ps 1 + 1) 0
        else (s.particulars.edit.getD []).read a) ∧
      exec (.particularsWrite ps) s = .next
        (if ¬ (2 ≤ ps.length ∧ ps.length ≤ 16) then s.refuse .PW .args
        else if ¬ (0 ≤ par ps 1 ∧ par ps 1 ≤ 2839 ∧ par ps 1 + ((ps.length : Int) - 2) ≤ 2839) then s.refuse .PW .range
        else if s.faults.state = .restart then s.refuse .PW .halt
        else if s.modes.mode ≠ .commission then s.refuse .PW .lock
        else (s.setParticulars { s.particulars with edit := some m }).reply .PW
          [fnat (parN ps 1), fnat (ps.length - 1)])

/-- PK: its checks in order; an edit copy with a bad word is REJECTED with the address of the first, and a good one is
being written while the sequence stays in hand. At the write's end the commit takes effect: the block is in use and in
the store, the records are rebuilt by number and by role, a full scan is due where a role changed, the origin store is
written when a tank comes to be or ceases to be defined, the watched entries of stations no longer defined are OFF (log 22),
the change is a mass change with the evaluation that it asks for, and PK is answered; the rest stands (R202, R19, R23, R97,
R118, R137; values already staged stay staged, log 20; the again flag is set while a withdrawn prediction runs too, log 14). Without a commit being written the event changes nothing (log 3). -/
def Obligations.ParticularsAreCommitted : Prop :=
  (∀ (s : State) (ps : List Int), ConsoleTakes s .PK ps →
    exec (.particularsCommit ps) s = .next
      (if ps.length ≠ 0 then s.refuse .PK .args
      else if s.faults.state = .restart then s.refuse .PK .halt
      else if s.modes.mode ≠ .commission then s.refuse .PK .lock
      else
        match firstBadWord (s.particulars.edit.getD []) with
        | some a => s.reply .PK [.word "REJECTED", fnat a]
        | none =>
          (s.setParticulars { s.particulars with writing := some (s.particulars.edit.getD []) }).setConsole
            { s.console with rx := { s.console.rx with inHand := some ⟨.PK, []⟩ } })) ∧
  (∀ s : State, s.particulars.writing = none → exec .particularsCommitTakesEffect s = .next s) ∧
  ∀ (s : State) (m : Memory), s.particulars.writing = some m →
    ∃ t : State, exec .particularsCommitTakesEffect s = .next (t.reply .PK [.word "COMMITTED", fnat m.checksum]) ∧
      t.particulars = { s.particulars with
        inUse := some m, store := m, storeChecksum := m.checksum, storeBlank := false, writing := none } ∧
      t.cond.stamp = s.cond.stamp + 1 ∧ t.modes = s.modes ∧ t.faults = s.faults ∧ t.attention = s.attention ∧
      t.transfers = s.transfers ∧ t.movers = s.movers ∧ t.console = s.console ∧ t.shore = s.shore ∧
      t.settings = s.settings ∧ t.composer = s.composer ∧ t.pending = s.pending ∧
      (∀ n, 1 ≤ n → n ≤ 24 → t.tank n =
        if tankDefined s.parts n = tankDefined (some m) n then s.tank n else TankLive.blank) ∧
      t.tankTable = { s.tankTable with
        tanks := t.tankTable.tanks, writing := t.tankTable.writing, rewrite := t.tankTable.rewrite } ∧
      (let changed := ∃ n ∈ List.range 25, 1 ≤ n ∧ tankDefined s.parts n ≠ tankDefined (some m) n
      t.tankTable.writing =
          (if changed ∧ s.tankTable.writing = none then some t.tankTable.origins else s.tankTable.writing) ∧
        t.tankTable.rewrite = (if changed ∧ s.tankTable.writing ≠ none then true else s.tankTable.rewrite)) ∧
      (let busy := s.cond.evaluation ≠ none ∨ s.cond.prediction ≠ none
      t.cond.evaluation = (if busy then s.cond.evaluation else some (t.runInputs none)) ∧
        t.cond.again = (if busy then true else s.cond.again)) ∧
      (∀ a < 64,
        (roleOf s.parts a = roleOf (some m) a → t.drive a = s.drive a ∧ t.scanned a = s.scanned a) ∧
        (roleOf s.parts a ≠ roleOf (some m) a →
          t.drive a = ⟨false, .awaiting, none⟩ ∧ t.scanned a = ⟨none, false⟩)) ∧
      t.loop = { s.loop with
        drive := t.loop.drive, scan := t.loop.scan
        fullScan := s.loop.fullScan || decide (∃ a ∈ List.range 64, roleOf s.parts a ≠ roleOf (some m) a) } ∧
      t.margins = { s.margins with entries := t.margins.entries } ∧
      (∀ i < 36, t.watched i =
        if i < 32 ∧ stationDefined (some m) (i / 2 + 1) = false then
          { s.watched i with value := none, percent := none, state := .off }
        else s.watched i) ∧
      t.pour = { s.pour with holds := t.pour.holds } ∧
      t.cond = { s.cond with
        items := t.cond.items, stamp := t.cond.stamp, evaluation := t.cond.evaluation, again := t.cond.again } ∧
      (∀ n, 1 ≤ n → n ≤ 8 → t.itemRecord n =
        if itemDefined s.parts n = true ∧ itemDefined (some m) n = true then s.itemRecord n else ⟨0, false⟩) ∧
      ∀ n, 1 ≤ n → n ≤ 9 → t.holdRecord n =
        if holdDefined s.parts n = true ∧ holdDefined (some m) n = true then s.holdRecord n else ⟨0, false⟩

/-- MD and LC: their checks in order, what leaving the old mode and entering the new one do, the evaluation that every MD
asks for, and the location with its flag (R198 to R200; the mode is sent as its number, log 38; the edit copy where no
particulars are in use, log 39). -/
def Obligations.ModeAndLocationAreSet : Prop :=
  ∀ (s : State) (ps : List Int),
    let old := s.modes.mode
    let new : Mode := if par ps 1 = 1 then .berth else if par ps 1 = 2 then .passage
      else if par ps 1 = 3 then .commission else .standby
    let u := s.setModes { s.modes with mode := new }
    let v :=
      match old with
      | .passage => u.setModes { u.modes with exchangeArea := false }
      | .berth => u.endClearance (.refusal (some Verb.CQ.letters) .mode)
      | .commission => u.setParticulars { u.particulars with edit := none }
      | .standby => u
    let w :=
      match new with
      | .berth => (v.pairWindow true).judgeRelease
      | .commission => v.setParticulars { v.particulars with edit := some (s.parts.getD s.particulars.store) }
      | .passage => v
      | .standby => v
    let t := if old = new then s else w
    (ConsoleTakes s .MD ps → exec (.mode ps) s = .next
      (if ps.length ≠ 1 then s.refuse .MD .args
      else if ¬ (0 ≤ par ps 1 ∧ par ps 1 ≤ 3) then s.refuse .MD .range
      else if s.faults.state = .restart then s.refuse .MD .halt
      else if par ps 1 = 3 ∧ s.pour.steps ≠ [] then s.refuse .MD .state
      else if par ps 1 ≠ 3 ∧ old = .commission ∧ s.parts = none then s.refuse .MD .state
      else if (s.movers.m1.phase ≠ .idle ∨ s.movers.m2.phase ≠ .idle ∨ s.movers.m3.phase ≠ .idle) ∨
          s.transfers.records ≠ [] ∨ (∃ x ∈ s.pour.steps, x.state = .granted ∨ x.state = .pouring) then
        s.refuse .MD .busy
      else (t.requestEvaluation).reply .MD [.num (par ps 1)])) ∧
    (ConsoleTakes s .LC ps → exec (.location ps) s = .next
      (if ps.length ≠ 2 then s.refuse .LC .args
      else if ¬ (1 ≤ par ps 1 ∧ par ps 1 ≤ 9999 ∧ 0 ≤ par ps 2 ∧ par ps 2 ≤ 1) then s.refuse .LC .range
      else if s.modes.mode ≠ .passage then s.refuse .LC .mode
      else if s.faults.state = .restart then s.refuse .LC .halt
      else (s.setModes { s.modes with location := some (parN ps 1), exchangeArea := decide (par ps 2 = 1) }).reply .LC
        [.num (par ps 1), .num (par ps 2)]))

/-! ## The shore verbs -/

/-- CQ and CS: their checks in order. CQ: HO with HALT outside fault state NORMAL, HO with LIMIT or INDET while a watched
entry blocks, else a clearance begins: the sequence stays in hand and the prediction of the step's remaining tonnes is
asked (R146, R111). CS: the granted step is POURING, the grant timer stops, and the reply carries the granted tonnes
(R149). -/
def Obligations.ClearanceIsAskedAndChuteStarted : Prop :=
  (∀ (s : State) (ps : List Int), ShoreTakes s .CQ ps →
    let id := parN ps 1
    exec (.clearanceQuery ps) s = .next
      (if ps.length ≠ 1 then s.shoreRefuse .CQ .args
      else if ¬ (1 ≤ par ps 1 ∧ par ps 1 ≤ 999) then s.shoreRefuse .CQ .range
      else if s.modes.mode ≠ .berth then s.shoreRefuse .CQ .mode
      else if s.faults.state ≠ .normal then s.shoreReply (.pour .HO [fnat id, .word "HALT"])
      else
        match s.step? id with
        | none => s.shoreRefuse .CQ .none
        | some x =>
          if ¬ (x.state = .ready ∧ x.tally < x.planned) then s.shoreRefuse .CQ .state
          else if s.isHead id = false then s.shoreRefuse .CQ .head
          else if ∃ i ∈ List.range 36, (s.watched i).state = .limit ∨ (s.watched i).state = .breach then
            s.shoreReply (.pour .HO [fnat id, .word "LIMIT"])
          else if ∃ i ∈ List.range 36, (s.watched i).state = .indeterminate then
            s.shoreReply (.pour .HO [fnat id, .word "INDET"])
          else
            (((s.setPour { s.pour with clearance := some x.id }).setShore
              { s.shore with rx := { s.shore.rx with inHand := some ⟨.CQ, ps⟩ } }).askPrediction x.id x.hold
              (x.planned - x.tally)))) ∧
  ∀ (s : State) (ps : List Int), ShoreTakes s .CS ps →
    let id := parN ps 1
    exec (.chuteStart ps) s = .next
      (if ps.length ≠ 1 then s.shoreRefuse .CS .args
      else if ¬ (1 ≤ par ps 1 ∧ par ps 1 ≤ 999) then s.shoreRefuse .CS .range
      else if s.modes.mode ≠ .berth then s.shoreRefuse .CS .mode
      else if s.faults.state ≠ .normal then s.shoreRefuse .CS .halt
      else
        match s.step? id with
        | none => s.shoreRefuse .CS .none
        | some x =>
          if x.state = .planned ∨ x.state = .pouring then s.shoreRefuse .CS .state
          else if s.isHead id = false then s.shoreRefuse .CS .head
          else if x.state = .ready ∨ x.state = .held then s.shoreRefuse .CS .late
          else
            (s.setPour { s.pour with
              steps := s.pour.steps.map fun y => if y.id = id then { y with state := .pouring } else y
              grantTimer := none }).shoreReply (.reply .CS [fnat id, fnat? x.granted]))

/-- CT and CE: their checks in order. The tally becomes the one given, the increment joins the hold's cargo mass as a
mass change, and the reply carries the hold's mass and the stamp after it. A CT above the ceiling holds its step with
OVERRUN; a CE takes the step out of the plan and the window is judged afresh (R153,
R154; HO goes ahead of the reply of the same event, log 37). -/
def Obligations.TalliesAreTaken : Prop :=
  ∀ (s : State) (ps : List Int),
    let id := parN ps 1
    let tally := parN ps 2
    let added := fun x : PourStep =>
      ((s.updStep x.id fun y => { y with tally := tally }).setHoldRecord x.hold
        { s.holdRecord x.hold with mass := (s.holdRecord x.hold).mass + (tally - x.tally) }).massChange
    let bad := fun x : PourStep =>
      par ps 2 < x.tally ∨ 999999 < ((s.holdRecord x.hold).mass : Int) + (par ps 2 - x.tally)
    let answer := fun (v : Verb) (x : PourStep) (t : State) =>
      t.shoreReply (.reply v [fnat x.id, fnat tally, fnat (t.holdRecord x.hold).mass, fstamp t.cond.stamp])
    let ladder := fun (v : Verb) (take : PourStep → State) =>
      if ps.length ≠ 2 then s.shoreRefuse v .args
      else if ¬ (1 ≤ par ps 1 ∧ par ps 1 ≤ 999 ∧ 0 ≤ par ps 2 ∧ par ps 2 ≤ 99999) ∨ ∃ x ∈ (s.step? id).toList, bad x then
        s.shoreRefuse v .range
      else if s.faults.state = .restart then s.shoreRefuse v .halt
      else
        match s.step? id with
        | none => s.shoreRefuse v .none
        | some x => if x.state ≠ .pouring ∧ x.state ≠ .held then s.shoreRefuse v .state else take x
    (ShoreTakes s .CT ps → exec (.chuteTally ps) s = .next (ladder .CT fun x =>
      answer .CT x
        (if x.cause ≠ some .overrun ∧ ∃ c ∈ x.ceiling.toList, c < tally then
          ((((added x).updStep x.id fun y => { y with state := .held, cause := some .overrun, granted := none }
            ).shoreSend .state (.pour .HO [fnat x.id, .word "OVERRUN"])).raise (.stepHeld x.id))
        else added x))) ∧
    (ShoreTakes s .CE ps → exec (.chuteEnd ps) s = .next (ladder .CE fun x =>
      answer .CE x
        ((added x).setPour { (added x).pour with
          steps := (added x).pour.steps.filter fun y => decide (y.id ≠ x.id) }).judgeWindow))

/-! ## The field loop -/

/-- The frame timer fails a window that is still open, sends a frame with the 64 commands, FULL while a full scan is
due, sets the allowance start of each drive point that has none, opens a window and runs on for 500 ms. The 250 ms limit
fails the open window. A failed regular scan is discarded, asks for a full scan and counts up to 3, and the third in a
row loses the loop and hands LOOP-LOST once; a failed restart scan asks for a full scan and ends its attempt
(R27, R28, R31, R38; the clock log 2, a timer or window that is not there log 3). A point report is taken
while a window is open: at address 127 it is the end-of-scan report; in order, its value is staged unless the point is
unused, and its address is the highest taken; out of order, it fails the scan. While the window is closed it is discarded
(R29, R30). -/
def Obligations.FramesAreSentAndReportsTaken : Prop :=
  (∀ s : State, s.loop.frameTimer = none → exec .frameTimerExpiry s = .next s) ∧
  (∀ (s : State) (due : Nat), s.loop.frameTimer = some due →
    let u := match s.loop.window with
      | none => s.setNow (max s.now due)
      | some w => (s.setNow (max s.now due)).failWindow w
    let kind : FrameKind := if u.loop.fullScan = true then .full else .routine
    ∃ t : State, exec .frameTimerExpiry s = .next t ∧ t.now = max s.now due ∧
      t = (u.setSent (u.sent ++ [.frame kind (u.loop.drive.toList.map fun d => d.on)])).setLoop
        { u.loop with drive := t.loop.drive, frameTimer := some (due + 500), window := some ⟨kind, none, t.now, false⟩ } ∧
      ∀ a < 64, t.drive a =
        if (roleOf u.parts a).isDrive = true then
          { u.drive a with start := some (((u.drive a).start).getD t.now) }
        else u.drive a) ∧
  (∀ s : State, s.loop.window = none → exec .scanLimitExpiry s = .next s) ∧
  (∀ (s : State) (w : ScanWindow), s.loop.window = some w →
    exec .scanLimitExpiry s = .next ((s.setNow (max s.now (w.sentAt + 250))).failWindow w)) ∧
  (∀ (s : State) (w : ScanWindow), w.restart = true →
    s.failWindow w = (s.setLoop { s.loop with staging := [], window := none, fullScan := true }).setFaults
      { s.faults with lastAttempt := some .failed }) ∧
  (∀ (s : State) (w : ScanWindow), w.restart = false →
    let u := s.setLoop { s.loop with
      staging := []
      window := none
      fullScan := true
      failures := min 3 (s.loop.failures + 1)
      state := if 2 ≤ s.loop.failures then .lost else s.loop.state }
    s.failWindow w = if 2 ≤ s.loop.failures ∧ s.loop.state = .good then u.class1 .loopLost else u) ∧
  ∀ (addr : Byte) (value : BitVec 16) (s : State),
    let a := addr.toNat
    let v := value.toNat
    let r := roleOf s.parts a
    let greatest : Nat := match r with
      | .run _ => 1
      | .gauge _ => 4095
      | .unused => 65535
      | _ => 2
    (s.loop.window = none → exec (.pointReport addr value) s = .next s) ∧
    (a = 127 → exec (.pointReport addr value) s = exec .endOfScanReport s) ∧
    ∀ w, s.loop.window = some w → a ≠ 127 →
      exec (.pointReport addr value) s = .next
        (if a ≤ 63 ∧ (∀ h ∈ w.highest.toList, h < a) ∧ v ≤ greatest then
          s.setLoop { s.loop with
            staging := if r = .unused then s.loop.staging else s.loop.staging ++ [(a, v)]
            window := some { w with highest := some a } }
        else s.failWindow w)

/-- The end-of-scan report of a regular window commits the scan: the window closes, the scan image takes the staged
values as fresh and keeps the others as not fresh, a loss ends, the readings are kept, and every defined tank takes its
gauge reading (R2 to R4, R30, R32, R37). The whole commit is, in the order of log 9: the image and the readings; every drive
point graded by its agreement and its allowance (R33); NOTICE POINT for each disagreement handed to no owner (R34, R35); the
tanks, with the mass change when a volume changed (R6); each mover with its lost gauge and the disagreements that it owns
(R35, R78); PUMP-ASTRAY for each RUN point commanded OFF that reads RUNNING after its allowance (R36); the confirmation of
a halt stop that stood before it (R162); and the Pour Plan unit (R141, R143). The tanks are taken ascending by number: that
their GAUGE items are raised in this order is log 9, and that each change of origin fields is one of its own for the origin
store's write is log 41. While the particulars are invalid the readings speak of no points and are true (log 16). While the
window is closed the report is discarded. -/
def Obligations.ScansAreCommitted : Prop :=
  (∀ s : State, s.loop.window = none → exec .endOfScanReport s = .next s) ∧
  (∀ (s : State) (w : ScanWindow), s.loop.window = some w → w.restart = false →
    ∃ t : State, exec .endOfScanReport s = .next t ∧
      t.loop = { s.loop with
        drive := t.loop.drive, scan := t.loop.scan, staging := [], window := none, failures := 0, state := .good
        fullScan := if w.kind = .full then false else s.loop.fullScan, allOff := t.loop.allOff } ∧
      (∀ a < 64, t.scanned a =
        match stagedAt s.loop.staging a with
        | some v => ⟨some v, true⟩
        | none => ⟨(s.scanned a).value, false⟩) ∧
      t.loop.allOff = some (decide (∀ q ∈ drivePoints s.parts, (t.scanned q.1).value = some 0)) ∧
      (∀ m : MoverId,
        (t.mover m).quiet = some (decide (∀ q ∈ moverPoints s.parts m, (t.scanned q.1).value = some 0))) ∧
      ∀ n ∈ definedTanks s.parts,
        let x := s.tank n
        let reading := t.scanned (tankGauge s.parts n)
        match reading.value with
        | some v =>
          if reading.fresh = true ∧ v ≤ 4000 then
            (t.tank n).volume = some (convertRaw s.parts n v) ∧ (t.tank n).gauge = .good
          else (t.tank n).volume = x.volume ∧ (t.tank n).gauge = x.gauge.afterBad
        | none => (t.tank n).volume = x.volume ∧ (t.tank n).gauge = x.gauge.afterBad) ∧
  ∀ (s : State) (w : ScanWindow), s.loop.window = some w → w.restart = false →
    let role := roleOf s.parts
    let points := (List.range 64).filter fun a => (role a).isDrive
    let u := (s.takeScan w).takeReadings
    let value := fun a : Nat => (u.scanned a).value
    let graded := fun a : Nat =>
      let d := s.drive a
      grade d.agreement (decide (value a = some (if d.on = true then 1 else 0)))
        (decide (∃ since ∈ d.start.toList, since + (if (role a).isRun = true then 20000 else 60000) ≤ s.now))
    let v := u.setLoop { u.loop with drive := Vector.ofFn fun i : Fin 64 =>
      if (role i.val).isDrive = true then { s.drive i.val with agreement := (graded i.val).1 } else s.drive i.val }
    let owner : Nat → Option MoverId := fun a =>
      let own := fun m : MoverId =>
        if (s.mover m).phase = .idle ∨ (s.mover m).phase = .faulted then none else some m
      match role a with
      | .run m => own m
      | .overboard m => own m
      | .seaChest m => own m
      | .tankValve n =>
        (s.tank n).claim.bind fun id => [MoverId.m1, .m2, .m3].find? fun m => decide ((s.mover m).run = some id)
      | _ => none
    let astray := fun a : Nat => (role a).isRun = true ∧ (s.drive a).on = false ∧ value a = some 1
    let handed := points.filter fun a => (graded a).2
    let noticed := handed.foldl (fun x a => if owner a = none ∧ ¬ astray a then x.raise (.point a) else x) v
    let converted := (definedTanks s.parts).foldl State.convertTank noticed
    let tanks :=
      if ∀ n ∈ definedTanks s.parts, (converted.tank n).volume = (s.tank n).volume then converted
      else converted.massChange
    let lost := fun m : MoverId => (s.mover m).gaugeDue = true ∨
      ∃ n ∈ (((s.mover m).run.bind s.transfer?).bind Transfer.activeTank).toList,
        (s.tank n).gauge ≠ .lost ∧ (tanks.tank n).gauge = .lost
    let mine := fun m : MoverId => (handed.filter fun a => decide (owner a = some m ∧ ¬ astray a)).map fun a =>
      (⟨a, role a, (s.drive a).on, (graded a).1, decide (value a = none)⟩ : Disagreement)
    let moved := [MoverId.m1, .m2, .m3].foldl (fun x m => x.moverCommit m (decide (lost m)) (mine m))
      ([MoverId.m1, .m2, .m3].foldl (fun x m => x.setMover m { x.mover m with gaugeDue := false }) tanks)
    let faulted := (points.filter fun a => decide (astray a ∧ (graded a).1 ≠ .awaiting)).foldl
      (fun x a => x.class1 (.pumpAstray a)) moved
    let confirmed :=
      if s.faults.state = .haltStopping ∧ faulted.faults.state = .haltStopping ∧ faulted.loop.allOff = some true then
        faulted.setFaults { faulted.faults with state := .halt, confirmation := none }
      else faulted
    u = (s.setLoop u.loop).setMovers u.movers ∧ u.loop.drive = s.loop.drive ∧
      (∀ m : MoverId, u.mover m = { s.mover m with quiet := (u.mover m).quiet }) ∧
      exec .endOfScanReport s = .next confirmed.pourCommit

/-- A write of a command: only a drive point takes one; ON is not taken outside fault state NORMAL, nor by the valve of
an unclaimed tank; a write of the command already held changes nothing; a change makes the point AWAITING with no
allowance start, and no other point changes (R24 to R26). The grade of a point after a commit, and whether a
disagreement is handed (R33). -/
def Obligations.DriveImageIsWrittenAndGraded : Prop :=
  (∀ (s : State) (a : Nat) (on : Bool),
    s.writePoint a on =
      if (roleOf s.parts a).isDrive = false then s
      else if on = true ∧ (s.faults.state ≠ .normal ∨
          ∃ n ∈ List.range 25, roleOf s.parts a = .tankValve n ∧ (s.tank n).claim = none) then s
      else if (s.drive a).on = on then s
      else s.setDrive a ⟨on, .awaiting, none⟩) ∧
  (∀ (s : State) (a b : Nat) (d : DrivePoint), a < 64 →
    (s.setDrive a d).drive b = if b = a then d else s.drive b) ∧
  (∀ (before : Agreement) (expired : Bool), grade before true expired = (.settled, false)) ∧
  (∀ expired : Bool, grade .awaiting false expired = if expired = true then (.overdue, true) else (.awaiting, false)) ∧
  (∀ expired : Bool, grade .settled false expired = (.astray, true) ∧ grade .overdue false expired = (.overdue, false) ∧
    grade .astray false expired = (.astray, false))

/-! ## The rules of the tanks, the movers and the margins -/

/-- The conversion of a good raw reading through a sounding table, the bounds of the volume, and the mass (R3). A tank at a
commit: its reading moves the volume and the gauge state, a move from GOOD to SUSPECT or from SUSPECT to LOST raises GAUGE,
and a fall of the volume to the residue or below, in PASSAGE with the exchange-area flag set, opens the window (R2 to R5,
R14). The motion of a tank follows the mover whose active tank it is (R10). A fill start: the fill origin by the mode, the
origin list and the more flag by the first case that applies, EXCHANGED when the window is EMPTIED-AT-SEA in PASSAGE with
the flag set and NOT-EXCHANGED otherwise, the window NONE, and the write of the origin store that a change asks for; the
bounds of the list that it keeps (R11 to R13, R16; the GAUGE item raised at LOST after an AK in SUSPECT, log 46). -/
def Obligations.TanksAreReadAndFilled : Prop :=
  (∀ (r : Int) (a : Int × Int) (rest : List (Int × Int)), (a :: rest).Pairwise (fun x y => x.1 < y.1) →
    (r ≤ a.1 → convertTable r (a :: rest) = a.2) ∧
    (∀ last, (a :: rest).getLast? = some last → last.1 ≤ r → convertTable r (a :: rest) = last.2) ∧
    ∀ before x y after, a :: rest = before ++ x :: y :: after → x.1 ≤ r → r < y.1 →
      convertTable r (a :: rest) = x.2 + Int.tdiv ((r - x.1) * (y.2 - x.2)) (y.1 - x.1)) ∧
  (∀ (p : Option Memory) (n raw : Nat),
    let v := convertTable raw (soundingTable p n)
    (v < 0 → convertRaw p n raw = 0) ∧
    ((tankCapacity p n : Int) < v → convertRaw p n raw = tankCapacity p n) ∧
    (0 ≤ v → v ≤ tankCapacity p n → (convertRaw p n raw : Int) = v)) ∧
  (∀ (x : TankLive) (v : Nat), x.volume = some v → x.mass = some (v * 1025 / 1000)) ∧
  (∀ (s : State) (n : Nat), 1 ≤ n → n ≤ 24 →
    let x := s.tank n
    let t := s.convertTank n
    let reading := s.scanned (tankGauge s.parts n)
    let raw : Option Nat := reading.value.filter fun v => reading.fresh = true ∧ v ≤ 4000
    let volume : Option Nat := match raw with
      | some v => some (convertRaw s.parts n v)
      | none => x.volume
    let gauge : GaugeState := match raw, x.gauge with
      | some _, _ => .good
      | none, .unread => .unread
      | none, .good => .suspect 1
      | none, .suspect k => if k < 4 then .suspect (k + 1) else .lost
      | none, .lost => .lost
    let emptied := s.modes.mode = .passage ∧ s.modes.exchangeArea = true ∧
      ∃ before ∈ x.volume.toList, ∃ now ∈ volume.toList, now < before ∧ now ≤ tankResidue s.parts n
    t = (s.setAttention t.attention).setTankTable t.tankTable ∧
      t.tank n = { x with
        volume := volume
        gauge := gauge
        origin := { x.origin with window := if emptied then .emptiedAtSea else x.origin.window } } ∧
      (∀ k, 1 ≤ k → k ≤ 24 → k ≠ n → t.tank k = s.tank k) ∧
      (let moved := emptied ∧ x.origin.window ≠ .emptiedAtSea
      t.tankTable = { s.tankTable with
        tanks := t.tankTable.tanks
        writing := if moved ∧ s.tankTable.writing = none then some t.tankTable.origins else s.tankTable.writing
        rewrite := if moved ∧ s.tankTable.writing ≠ none then true else s.tankTable.rewrite }) ∧
      t.attention =
        if (x.gauge = .good ∧ gauge = .suspect 1) ∨ (x.gauge ≠ .lost ∧ gauge = .lost) then s.attention.raise (.gauge n)
        else s.attention) ∧
  (∀ (s : State) (n : Nat),
    let drawing : MoverId → Bool := fun m => match (s.mover m).phase with
      | .starting => true
      | .running => true
      | .switching _ => true
      | _ => false
    let on := fun m : MoverId => drawing m = true ∧ ((s.mover m).run.bind s.transfer?).bind Transfer.activeTank = some n
    s.motion n =
      match (([MoverId.m1, .m2, .m3].find? fun m => decide (on m)).bind fun m => (s.mover m).run.bind s.transfer?) with
      | none => .still
      | some t => match t.direction with
        | .fill => .filling
        | .discharge => .discharging) ∧
  (∀ s : State, s.fillOrigin =
    match s.modes.mode with
    | .berth => s.cond.berth.map fun b => b.port
    | .passage => s.modes.location
    | _ => none) ∧
  (∀ (s : State) (n : Nat), 1 ≤ n → n ≤ 24 →
    let o := (s.tank n).origin
    let t := s.fillStart n
    let o' := (t.tank n).origin
    t = s.setTankTable t.tankTable ∧ t.tank n = { s.tank n with origin := o' } ∧
      (∀ k, 1 ≤ k → k ≤ 24 → k ≠ n → t.tank k = s.tank k) ∧
      o'.exchange = (if o.window = .emptiedAtSea ∧ s.modes.mode = .passage ∧ s.modes.exchangeArea = true then .exchanged
        else .notExchanged) ∧
      o'.window = .closed ∧
      t.tankTable = { s.tankTable with
        tanks := t.tankTable.tanks
        writing := if o' ≠ o ∧ s.tankTable.writing = none then some t.tankTable.origins else s.tankTable.writing
        rewrite := if o' ≠ o ∧ s.tankTable.writing ≠ none then true else s.tankTable.rewrite }) ∧
  ∀ (s : State) (n : Nat), 1 ≤ n → n ≤ 24 →
    let o := (s.tank n).origin
    let o' := ((s.fillStart n).tank n).origin
    let empty := ∃ v ∈ (s.tank n).volume.toList, v ≤ tankResidue s.parts n
    (empty → ∀ c, s.fillOrigin = some c → o'.codes = [c] ∧ o'.more = false) ∧
    (empty → s.fillOrigin = none → o'.codes = [] ∧ o'.more = false) ∧
    (¬ empty → s.fillOrigin = none → o'.codes = o.codes ∧ o'.more = true) ∧
    (¬ empty → ∀ c, s.fillOrigin = some c → c ∈ o.codes → o'.codes = o.codes ∧ o'.more = o.more) ∧
    (¬ empty → ∀ c, s.fillOrigin = some c → c ∉ o.codes → o.codes.length < 2 →
      o'.codes = o.codes ++ [c] ∧ o'.more = o.more) ∧
    (¬ empty → ∀ c, s.fillOrigin = some c → c ∉ o.codes → ∀ oldest newest, o.codes = [oldest, newest] →
      o'.codes = [oldest, c] ∧ o'.more = true) ∧
    (o.codes.length ≤ 2 → o.codes.Nodup → 0 ∉ o.codes → s.fillOrigin ≠ some 0 →
      o'.codes.length ≤ 2 ∧ o'.codes.Nodup ∧ 0 ∉ o'.codes)

/-- The effective target of an entry, and when the entry is done (R74). -/
def Obligations.EffectiveTargets : Prop :=
  (∀ (p : Option Memory) (e : Entry),
    effectiveTarget p .pump .discharge e = (if e.target < tankFloor p e.tank then tankFloor p e.tank else e.target) ∧
    effectiveTarget p .pump .fill e = e.target ∧ effectiveTarget p .strip .discharge e = e.target) ∧
  ∀ (s : State) (t : Transfer) (e : Entry) (v : Nat), (s.tank e.tank).volume = some v →
    (t.direction = .discharge → (s.entryMet t e = true ↔ v ≤ effectiveTarget s.parts t.kind .discharge e)) ∧
    (t.direction = .fill → (s.entryMet t e = true ↔ effectiveTarget s.parts t.kind .fill e ≤ v))

/-- The percent of an upper-bounded entry against its limit of the set in use, and of a lower-bounded entry against the
berth record's minimum (R121, R122). -/
def Obligations.PercentsAreComputed : Prop :=
  (∀ (p : Option Memory) (set : LimitSet) (berth : Option BerthRecord) (i : Nat) (v : Int), i < 34 →
    let sea := if set = .sea then 1 else 0
    let station := stationBase (i / 2 + 1)
    let limit : Nat :=
      if i < 32 then
        (if i % 2 = 0 then (if 0 ≤ v then pnat p (station + 2 + sea) else pnat p (station + 4 + sea))
        else (if 0 ≤ v then pnat p (station + 6 + sea) else pnat p (station + 8 + sea)))
      else if i = 32 then pnat p (8 + sea)
      else pnat p (10 + sea)
    percentOf p set berth i v =
      if limit = 0 then (if v = 0 then 0 else 999)
      else if 999 < v.natAbs * 100 / limit then 999 else v.natAbs * 100 / limit) ∧
  ∀ (p : Option Memory) (set : LimitSet) (b : BerthRecord) (i : Nat) (a : Int), i = 34 ∨ i = 35 →
    let r := if i = 34 then b.minUkc else b.minAir
    (a ≤ 0 → percentOf p set (some b) i a = 999) ∧
    ∀ k : Nat, a = k → 0 < k →
      percentOf p set (some b) i a = if 999 < r * 100 / k then 999 else r * 100 / k

/-- The grading of a watched entry at a publication: OFF where the mode, the particulars or the station do not grade it,
INDETERMINATE without a value, and otherwise the highest state whose entry threshold the percent has reached, or whose
release point it is above while the base state is at or above it. The entry's sign and stamp follow (R118, R120, R123 to
R125). -/
def Obligations.EntriesAreGraded : Prop :=
  ∀ (s : State) (c : Condition) (i : Nat), i < 36 →
    let old := s.watched i
    let new := (s.gradeEntry c i).after
    let w := s.settings.working
    let graded := s.parts ≠ none ∧ s.modes.mode ≠ .commission ∧ (34 ≤ i → s.modes.mode = .berth) ∧
      (i < 32 → stationDefined s.parts (i / 2 + 1) = true)
    let value : Option Int :=
      if i < 32 then (if i % 2 = 0 then (c.shear[i / 2]?).join else (c.bending[i / 2]?).join)
      else if i = 32 then c.trim
      else if i = 33 then c.list
      else if i = 34 then c.ukc
      else c.least.map Prod.fst
    let high := fun x : MarginState => x = .caution ∨ x = .limit ∨ x = .breach
    let without := fun x : MarginState =>
      new = ⟨none, none, x, old.sign, if old.state = x then old.stamp else some c.stamp⟩
    (¬ graded → without .off) ∧
    (graded → value = none → without .indeterminate) ∧
    ∀ v, graded → value = some v →
      let sign : Sign := if 34 ≤ i ∨ v < 0 then .minus else .plus
      let p := percentOf s.parts s.modes.mode.limits s.cond.berth i v
      let code := if i < 32 then w.stationCaution else w.shipCaution
      let caution := (([75, 80, 85, 88, 90, 92, 95, 97] : List Nat)[code]?).getD 97
      let base : MarginState := if old.sign = sign ∧ high old.state then old.state else .clear
      let state : MarginState :=
        if 115 ≤ p ∨ (base = .breach ∧ 112 < p) then .breach
        else if 100 ≤ p ∨ ((base = .limit ∨ base = .breach) ∧ 97 < p) then .limit
        else if caution ≤ p ∨ (base ≠ .clear ∧ caution - 3 < p) then .caution
        else .clear
      new = ⟨some v, some p, state, if high state then sign else old.sign,
        if old.state = state ∧ ¬ (old.sign ≠ sign ∧ high old.state ∧ high state) then old.stamp else some c.stamp⟩

/-- What follows a grading, in the order of log 12. Every entry that entered LIMIT, or BREACH from elsewhere than LIMIT,
raises its item, as those that entered CAUTION or INDETERMINATE do (R126); an entry at LIMIT or BREACH that a reversed sign
takes into BREACH afresh is taken as such an entry (log 13). The Pour Plan unit is told BLOCK when an entry came into the
blocking set or entered LIMIT or BREACH afresh, and UNBLOCK when the set has emptied (R127). The recipes of the entries
into LIMIT are asked, ascending (R129), each BREACH is handed (R130), pending CORRECTIONS whose stop index is CLEAR end
RELIEVED and running ones stop (R64, R85). A recipe that is asked: one already in use changes nothing; an empty slot, or a
tank without a volume, is refused with CORR-REFUSED; outside NORMAL nothing; outside BERTH and PASSAGE or with 16 records
it is refused; else its step volumes are admitted as a CORRECTION (R47). -/
def Obligations.GradingsActOnTheRest : Prop :=
  let high := fun x : MarginState => x = .limit ∨ x = .breach
  let raised := fun x : MarginState => x = .caution ∨ high x
  let blocks := fun x : MarginState => high x ∨ x = .indeterminate
  (∀ (s : State) (c : Condition),
    let old := fun i : Nat => (s.watched i)
    let new := fun i : Nat => (s.gradeEntry c i).after
    let afresh := fun i : Nat => raised (old i).state ∧ raised (new i).state ∧ (old i).sign ≠ (new i).sign
    let entered := fun i : Nat => (old i).state ≠ (new i).state ∨ afresh i
    let limit := fun i : Nat => ((new i).state = .limit ∧ entered i) ∨
      ((new i).state = .breach ∧ (¬ high (old i).state ∨ afresh i))
    let came := fun i : Nat => blocks (new i).state ∧ (¬ blocks (old i).state ∨ (afresh i ∧ high (new i).state))
    let all := List.range 36
    let u := s.setMargins ⟨Vector.ofFn fun i : Fin 36 => new i.val, some c.stamp⟩
    let u := all.foldl (fun v i =>
      if limit i then v.raise (.limit i)
      else if (new i).state = .caution ∧ entered i then v.raise (.caution i)
      else if (new i).state = .indeterminate ∧ entered i then v.raise (.indet i)
      else v) u
    let u :=
      if ∃ i ∈ all, came i ∧ high (new i).state then u.block .limit
      else if ∃ i ∈ all, came i then u.block .indet
      else if (∃ i ∈ all, blocks (old i).state) ∧ ∀ i ∈ all, ¬ blocks (new i).state then u.judgeRelease
      else u
    let u := all.foldl (fun v i => if limit i then v.askCorrection i (new i).sign else v) u
    let u := all.foldl (fun v i => if (new i).state = .breach ∧ entered i then v.class1 (.breach i) else v) u
    let cleared := fun (v : State) (t : Transfer) =>
      t.cls = .correction ∧ ∃ i ∈ t.stopIndex.toList, (v.watched i).state = .clear
    let u := u.transfers.queue.foldl (fun v id =>
      if ∃ t ∈ (v.transfer? id).toList, id ∈ v.transfers.queue ∧ cleared v t then v.freeAndTell id .relieved else v) u
    s.gradePublication c = [MoverId.m1, .m2, .m3].foldl (fun v m =>
      if (∃ t ∈ ((v.mover m).run.bind v.transfer?).toList, cleared v t) ∧ (v.mover m).phase ≠ .idle ∧
          (v.mover m).phase ≠ .faulted ∧ (match (v.mover m).phase with | .stopping _ _ _ => false | _ => true) = true then
        v.enterStop m .ended (some .relieved)
      else v) u) ∧
  ∀ (s : State) (i : Nat) (sign : Sign),
    let refused := s.raise (.corrRefused i sign)
    s.askCorrection i sign =
      if ∃ t ∈ s.transfers.records, t.source = .recipe i sign then s
      else
        match recipeSlot s.parts i sign with
        | none => refused
        | some r =>
          if ∃ k ∈ r.tanks, tankDefined s.parts k = false ∨ (s.tank k).volume = none then refused
          else if s.faults.state ≠ .normal then s
          else if ¬ (s.modes.mode = .berth ∨ s.modes.mode = .passage) ∨ 16 ≤ s.transfers.records.length then refused
          else
            (s.enrol ⟨.correction, .pump, r.direction, r.tanks.map fun k =>
              let v := ((s.tank k).volume).getD 0
              (k, match r.direction with
                | .discharge => min (v - r.volume) (tankCapacity s.parts k)
                | .fill => min (v + r.volume) (tankCapacity s.parts k)), .recipe i sign, some i, true⟩).scan

/-! ## Runs, stores and timers -/

/-- An evaluation run that completes publishes its condition, which is graded with its stamp; then the next run begins
with the inputs as they stand when one was asked for in the meantime, and else a HELD prediction begins (R104, R119).
Without a run in progress the event changes nothing (log 3). -/
def Obligations.EvaluationsComplete : Prop :=
  (∀ s : State, s.cond.evaluation = none → exec .evaluationCompletes s = .next s) ∧
  (∀ (s : State) (r : RunInputs), s.cond.evaluation = some r →
    ∃ t : State, exec .evaluationCompletes s = .next t ∧ t.cond.published = some r.compute ∧
      t.margins.graded = some r.stamp ∧ t.cond.stamp = s.cond.stamp ∧ t.cond.again = false ∧
      t.cond.evaluation = (if s.cond.again = true then some (t.runInputs none) else none) ∧
      (∀ i < 36, t.watched i = (s.gradeEntry r.compute i).after) ∧ t.particulars = s.particulars ∧ t.modes = s.modes ∧
      t.settings = s.settings ∧ t.console = s.console ∧ t.composer = s.composer ∧ t.pending = s.pending) ∧
  ∀ (s : State) (r : RunInputs), s.cond.evaluation = some r →
    let u := (s.setCond { s.cond with published := some r.compute }).gradePublication r.compute
    let v := u.setCond { u.cond with evaluation := none }
    exec .evaluationCompletes s = .next
      (if s.cond.again = true then v.setCond { v.cond with again := false, evaluation := some (v.runInputs none) }
      else
        match u.cond.request with
        | some q => if q.running = true then v else v.beginPrediction
        | none => v)

/-- A prediction run that completes: a withdrawn one is discarded; with the stamp unmoved it is judged, and the clearance
ends with a grant or with HO and the first failing index; with the stamp moved the request is held for another run, or
after three runs the clearance ends with HO UNSETTLED. Then the unit goes on. Without a
run in progress the event changes nothing (log 3; the tolerance of a grant, log 40; R112, R113, R131, R147). The judgement
of a condition is the lowest index graded in the mode whose value is absent, else the lowest at 100 percent or more, else
PASS (R131; against the minimum clearances of the berth record as they stand at the judgement, log 44). -/
def Obligations.PredictionsComplete : Prop :=
  (∀ (s : State) (c : Condition),
    let graded := fun i : Nat => s.parts ≠ none ∧ s.modes.mode ≠ .commission ∧ (34 ≤ i → s.modes.mode = .berth) ∧
      (i < 32 → stationDefined s.parts (i / 2 + 1) = true)
    let value : Nat → Option Int := fun i =>
      if i < 32 then (if i % 2 = 0 then (c.shear[i / 2]?).join else (c.bending[i / 2]?).join)
      else if i = 32 then c.trim
      else if i = 33 then c.list
      else if i = 34 then c.ukc
      else c.least.map Prod.fst
    s.judgePrediction c =
      match (List.range 36).find? fun i => decide (graded i ∧ value i = none) with
      | some i => some i
      | none => (List.range 36).find? fun i => decide (graded i ∧ ∃ v ∈ (value i).toList,
        100 ≤ percentOf s.parts s.modes.mode.limits s.cond.berth i v)) ∧
  (∀ s : State, s.cond.prediction = none → exec .predictionCompletes s = .next s) ∧
  ∀ (s : State) (run : PredictionRun), s.cond.prediction = some run →
    let u := s.setCond { s.cond with prediction := none }
    let dropped := u.setCond { u.cond with request := none }
    let done :=
      if run.withdrawn = true then u
      else
        match s.cond.request with
        | none => u
        | some q =>
          if run.inputs.stamp = s.cond.stamp then
            match s.pour.clearance with
            | none => dropped
            | some id =>
              match dropped.judgePrediction run.inputs.compute, dropped.step? id with
              | some i, _ => dropped.endClearance (.pour .HO [fnat id, .word "PREDICT", fnat i])
              | none, none => dropped
              | none, some x =>
                let g := x.planned - x.tally
                let v := dropped.updStep x.id fun y => { y with
                  state := .granted, granted := some g, ceiling := some (y.tally + g + max 20 (g * 2 / 100)) }
                (v.setPour { v.pour with grantTimer := some s.now }).endClearance (.pour .GR [fnat x.id, fnat g])
          else if q.runs < 3 then u.setCond { u.cond with request := some { q with running := false } }
          else
            match s.pour.clearance with
            | none => dropped
            | some id => dropped.endClearance (.pour .HO [fnat id, .word "UNSETTLED"])
    exec .predictionCompletes s = .next
      (if s.cond.again = true then
        (done.setCond { done.cond with again := false }).beginEvaluation
      else
        match done.cond.request with
        | some q => if q.running = true then done else done.beginPrediction
        | none => done)

/-- The write of the origin store in progress completes: the store holds the entries written, and a write of the entries
as they stand begins when the rewrite flag is set (R16). The write of the settings store completes: the store holds the
record that was being written (R204). Without a write in progress the event changes nothing (log 3).
The four timers. The tide goes STALE, raises TIDE-STALE and asks for an evaluation; a grant goes back to READY with
EX; an unconfirmed halt stop begins the restart sequence with a first attempt; the next attempt begins. An attempt counts
up to 65535, restarts the attempt timer, stops the frame timer, discards the scan and sends a FULL restart frame. A timer
that does not run changes nothing (R38, R99, R148, R162, R165, R166, log 2, log 3). -/
def Obligations.StoreWritesAndTimersComplete : Prop :=
  (∀ s : State, s.tankTable.writing = none → exec .originStoreWriteComplete s = .next s) ∧
  (∀ (s : State) (copy : Vector OriginEntry 24), s.tankTable.writing = some copy →
    exec .originStoreWriteComplete s = .next (s.setTankTable { s.tankTable with
      store := copy, storeGood := true, rewrite := false
      writing := if s.tankTable.rewrite = true then some s.tankTable.origins else none })) ∧
  (∀ s : State, s.settings.saving = none → exec .settingsSaveComplete s = .next s) ∧
  (∀ (s : State) (record : Settings), s.settings.saving = some record →
    exec .settingsSaveComplete s = .next
      (s.setSettings { s.settings with store := record, storeGood := true, saving := none })) ∧
  (∀ s : State,
    exec .tideExpiry s = .next
      (if s.modes.condition = .running ∧ s.cond.tide.state = .fresh then
        let u := s.setNow (max s.now (s.cond.tide.since + 900000))
        ((u.setCond { u.cond with tide := { u.cond.tide with state := .stale } }).raise .tideStale).requestEvaluation
      else s)) ∧
  (∀ s : State,
    exec .grantTimerExpiry s = .next
      (match s.pour.grantTimer with
      | none => s
      | some since =>
        let u := s.setNow (max s.now (since + 120000))
        let u := u.setPour { u.pour with grantTimer := none }
        s.pour.steps.foldl (fun t x =>
          if x.state = .granted then
            (t.updStep x.id fun y => { y with state := .ready, granted := none }).shoreSend .state (.pour .EX [fnat x.id])
          else t) u)) ∧
  (∀ s : State, (s.faults.confirmation = none ∨ s.faults.state ≠ .haltStopping) →
    exec .confirmationTimerExpiry s = .next s) ∧
  (∀ s : State, (s.faults.attempt = none ∨ s.faults.state ≠ .restart) → exec .attemptTimerExpiry s = .next s) ∧
  let attempt := fun (s t : State) (due : Nat) (f : FaultSupervisor) =>
    t.now = max s.now due ∧ t.faults = { f with attempt := some t.now } ∧
      t.loop = { s.loop with
        drive := t.loop.drive, staging := [], frameTimer := none, window := some ⟨.full, none, t.now, true⟩ } ∧
      t.sent = s.sent ++ [.frame .full (s.loop.drive.toList.map fun d => d.on)] ∧
      (∀ a < 64, t.drive a =
        if (roleOf s.parts a).isDrive = true then
          { s.drive a with start := some (((s.drive a).start).getD t.now) }
        else s.drive a) ∧
      t = (((s.setNow t.now).setFaults t.faults).setLoop t.loop).setSent t.sent
  (∀ (s : State) (since : Nat), s.faults.confirmation = some since → s.faults.state = .haltStopping →
    ∃ t : State, exec .confirmationTimerExpiry s = .next t ∧
      attempt s t (since + 60000)
        { s.faults with state := .restart, attempts := 1, lastAttempt := none, confirmation := none }) ∧
  ∀ (s : State) (since : Nat), s.faults.attempt = some since → s.faults.state = .restart →
    ∃ t : State, exec .attemptTimerExpiry s = .next t ∧
      attempt s t (since + 500) { s.faults with attempts := min 65535 (s.faults.attempts + 1) }

/-! ## Resets -/

/-- What the Transfer Table, the claims and the Fault Supervisor hold after each kind of reset, and that the plan is
empty (R69, R170). That a restart scan is quiet while the particulars are invalid is log 16. -/
def Obligations.ResetsClearTransfersAndFaults : Prop :=
  let cleared := fun t : State =>
    t.transfers = ⟨[], [], 0⟩ ∧ (∀ n, 1 ≤ n → n ≤ 24 → (t.tank n).claim = none) ∧ t.pour.steps = []
  let normal : FaultSupervisor := ⟨.normal, [], none, none, none, none, none, 0, none, none⟩
  (∀ s : State, ∃ t : State, exec .powerReset s = .next t ∧ cleared t ∧ t.faults = normal) ∧
  (∀ s : State, s.modes.condition ≠ .unpowered →
    ∃ t : State, exec .lineReset s = .next t ∧ cleared t ∧ t.faults = normal) ∧
  (∀ s : State, s.modes.resetAsked ≠ none →
    ∃ t : State, exec .commandReset s = .next t ∧ cleared t ∧ t.faults = normal) ∧
  ∀ (s : State) (w : ScanWindow), s.loop.window = some w → w.restart = true →
    (∀ q ∈ drivePoints s.parts, ((s.takeScan w).scanned q.1).value = some 0) →
    ∃ t : State, exec .endOfScanReport s = .next t ∧ cleared t ∧
      t.faults = ⟨.halt, [.restarted], some .restarted, none, none, none, none, s.faults.attempts, s.faults.lastAttempt,
        none⟩

/-- The events of the supply, of the RESET line and of the command reset: every volatile record is cleared, the cause
record changes, the writes in progress complete before a LINE or COMMAND reset and are cut off by a loss of power, the
fixed items and hold masses are kept by a LINE or COMMAND reset, as a commit that completes leaves them (WritesCompleted,
MassesKept), and the part waits for its start checks, for the release of RESET or for the supply. In a part for which the
event cannot happen it changes nothing (R17, R117, R157, R206, R207, section 11.7, log 3, log 23, log 28; the clock of a
command reset whose reply has not been sent, log 2; what the mode, the particulars and the watched entries are between a
reset and START is the model's choice, log 25). A restart scan that is not quiet is committed and ends its attempt; the count
and the loop state stay (R30, R38, R166; its all-off reading is kept, log 17). -/
def Obligations.ResetsReturnThePartToItsStart : Prop :=
  let cleared := fun (s t : State) =>
    t.attention = ⟨[], 0⟩ ∧ t.loop = FieldLoop.blank ∧ t.movers = Movers.blank t.now ∧ t.composer = ⟨.idle, 0⟩ ∧
      t.console = ConsolePort.blank s.console.rate ∧ t.shore = ShorePort.blank s.shore.rate ∧
      t.margins = MarginMonitor.blank ∧ t.particulars.inUse = none ∧ t.particulars.edit = none ∧
      t.particulars.writing = none ∧ t.settings.saving = none ∧ t.tankTable.writing = none ∧ t.cond.published = none ∧
      t.cond.stamp = 0 ∧ t.cond.evaluation = none ∧ t.cond.again = false ∧ t.cond.request = none ∧
      t.cond.prediction = none ∧ t.modes.mode = .standby ∧ t.modes.exchangeArea = false ∧ t.modes.resetAsked = none ∧
      t.pending = s.pending ∧ t.sent = s.sent
  let written := fun (s t : State) => WritesCompleted s t ∧ MassesKept s t ∧ t.cond.tide = s.cond.tide
  (∀ s : State, ∃ t : State, exec .powerReset s = .next t ∧ cleared s t ∧ t.modes.condition = .startChecks ∧
    t.modes.resetCause = ⟨true, false, false, false⟩ ∧ t.modes.location = none ∧ t.cond.berth = none ∧
    t.cond.tide.state = .unset ∧ (∀ n, 1 ≤ n → n ≤ 8 → (t.itemRecord n).set = false) ∧
    ∀ n, 1 ≤ n → n ≤ 9 → (t.holdRecord n).set = false) ∧
  (∀ s : State, s.modes.condition = .unpowered →
    exec .lineReset s = .next s ∧ exec .lossOfPower s = .next s) ∧
  (∀ s : State, s.modes.condition ≠ .unpowered →
    ∃ t : State, exec .lineReset s = .next t ∧ cleared s t ∧ written s t ∧ t.modes.condition = .inReset ∧
      t.modes.resetCause = { s.modes.resetCause with line := true } ∧ t.now = s.now) ∧
  (∀ s : State, s.modes.condition ≠ .unpowered →
    ∃ t : State, exec .lossOfPower s = .next t ∧ cleared s t ∧ t.modes.condition = .unpowered ∧
      t.modes.resetCause = s.modes.resetCause) ∧
  (∀ s : State, s.modes.resetAsked = none → exec .commandReset s = .next s) ∧
  (∀ (s : State) (r : ResetAsked), s.modes.resetAsked = some r →
    ∃ t : State, exec .commandReset s = .next t ∧ cleared s t ∧ written s t ∧ t.modes.condition = .startChecks ∧
      t.modes.resetCause = { s.modes.resetCause with command := true } ∧
      t.now = if r.replySent = true then s.now else max s.now (r.since + 2000)) ∧
  ∀ (s : State) (w : ScanWindow), s.loop.window = some w → w.restart = true →
    (∃ q ∈ drivePoints s.parts, ((s.takeScan w).scanned q.1).value ≠ some 0) →
    exec .endOfScanReport s = .next
      ((s.setLoop { s.loop with
        scan := Vector.ofFn fun i : Fin 64 =>
          match s.loop.staging.find? fun q => decide (q.1 = i.val) with
          | some q => ⟨some q.2, true⟩
          | none => ⟨(s.scanned i.val).value, false⟩
        staging := [], window := none, allOff := some false
        fullScan := if w.kind = .full then false else s.loop.fullScan }).setFaults
        { s.faults with lastAttempt := some .notQuiet })

/-- The release of RESET lets the start checks begin, and START ends them: the particulars, settings and origins are
taken from their stores or marked, the mode is COMMISSION or STANDBY, the links take their rates, a FULL frame and one
RESUME on each link are sent, and an evaluation begins. The watched entries that STANDBY grades are INDETERMINATE and the
others OFF, without value, percent and stamp, as they are after the restart sequence (R17, R39, R101, R117, R134, R196,
R205). In a part that is not at that point the event changes nothing (log 3).
A restart scan that is quiet ends the restart sequence: the writes in progress complete, every volatile record is cleared
with the items, holds, berth record and tide kept, the mode is STANDBY, the RESTART flag is set, the fault state is HALT for
RESTARTED alone, RESTARTED and HALT are the attention items, and TIDE-STALE where the age has reached 900 s; a FULL frame
of all OFF and one RESUME on each link are sent, and an evaluation begins (R22, R39, R69, R95, R101, R117, R134, R157, R167,
R170, R183, R196, R197, R207; the writes complete within the command, log 23; a command reset that RS asked for before is
still to come, log 34; the order of the items and of what is sent, here and at START, log 37; a scan while the particulars
are invalid is quiet, log 16). -/
def Obligations.StartChecksEnd : Prop :=
  let ungraded := fun (t : State) (standby : Bool) => t.margins.graded = none ∧ ∀ i < 36, t.watched i =
    ⟨none, none,
      if standby = true ∧ t.parts ≠ none ∧ i < 34 ∧ (i < 32 → stationDefined t.parts (i / 2 + 1) = true) then
        .indeterminate
      else .off,
      if i < 34 then .plus else .minus, none⟩
  (∀ s : State, exec .resetRelease s = .next
    (if s.modes.condition = .inReset then s.setModes { s.modes with condition := .startChecks } else s)) ∧
  (∀ s : State, s.modes.condition ≠ .startChecks → exec .start s = .next s) ∧
  (∀ (s : State) (w : ScanWindow), s.loop.window = some w → w.restart = true →
    (∀ q ∈ drivePoints s.parts, ((s.takeScan w).scanned q.1).value = some 0) →
    let late := s.cond.tide.state ≠ .unset ∧ s.cond.tide.since + 900000 ≤ s.now
    ∃ t : State, exec .endOfScanReport s = .next t ∧ ungraded t true ∧ WritesCompleted s t ∧ MassesKept s t ∧
      t.modes = { s.modes with
        mode := .standby, exchangeArea := false, resetCause := { s.modes.resetCause with restart := true } } ∧
      t.faults = ⟨.halt, [.restarted], some .restarted, none, none, none, none, s.faults.attempts, s.faults.lastAttempt,
        none⟩ ∧
      t.attention = ⟨[.restarted, .halt] ++ (if late then [.tideStale] else []), 0⟩ ∧
      t.loop = ⟨t.loop.drive, Vector.replicate 64 ⟨none, false⟩, [], some ⟨.full, none, s.now, false⟩, true,
        some (s.now + 500), 0, .good, none⟩ ∧
      (∀ a < 64, t.drive a = ⟨false, .awaiting, if (roleOf t.parts a).isDrive = true then some s.now else none⟩) ∧
      t.sent = s.sent ++ [.frame .full (List.replicate 64 false), .flow .console false, .flow .shore false] ∧
      t.console = ConsolePort.blank s.console.rate ∧ t.shore = ShorePort.blank s.shore.rate ∧
      t.composer = ⟨.idle, 0⟩ ∧ t.transfers = ⟨[], [], 0⟩ ∧ t.movers = Movers.blank s.now ∧
      (∀ n, 1 ≤ n → n ≤ 24 → ∃ o, t.tankTable.store[n - 1]? = some o ∧ t.tank n = { TankLive.blank with origin := o }) ∧
      t.cond = { s.cond with
        items := t.cond.items, tide := if late then { s.cond.tide with state := .stale } else s.cond.tide
        stamp := 0, evaluation := some (t.runInputs none), again := false, request := none, prediction := none
        published := none } ∧
      t.pour = ⟨[], t.pour.holds, none, none⟩ ∧
      t.particulars.inUse = s.particulars.writing.or s.particulars.inUse ∧ t.particulars.edit = none ∧
      t.settings.working = (if t.settings.storeGood = true then t.settings.store else s.settings.working) ∧
      t.now = s.now ∧ t.freeCount = s.freeCount ∧ t.pending = s.pending) ∧
  ∀ s : State, s.modes.condition = .startChecks →
    let p := s.particulars
    let valid := p.storeBlank = false ∧ p.store.checksum = p.storeChecksum
    let late := s.cond.tide.state ≠ .unset ∧ s.cond.tide.since + 900000 ≤ s.now
    ∃ t : State, exec .start s = .next t ∧ t.modes.condition = .running ∧
      t.particulars = (if valid then { p with inUse := some p.store, edit := none }
        else { p with inUse := none, edit := some p.store }) ∧
      t.modes.mode = (if valid then .standby else .commission) ∧ t.modes.exchangeArea = false ∧
      t.modes.location = s.modes.location ∧ t.modes.resetCause = s.modes.resetCause ∧
      t.settings.working = (if s.settings.storeGood = true then s.settings.store else Settings.defaults) ∧
      t.console.rate = t.settings.working.consoleRate ∧ t.shore.rate = t.settings.working.shoreRate ∧
      t.tankTable.storeGood = true ∧
      (∀ n, 1 ≤ n → n ≤ 24 → (t.tank n).volume = none ∧ (t.tank n).gauge = .unread ∧ (t.tank n).claim = none ∧
        (t.tank n).lock = .free ∧ (s.tankTable.storeGood = false → (t.tank n).origin = OriginEntry.blank) ∧
        (s.tankTable.storeGood = true → some (t.tank n).origin = s.tankTable.store[n - 1]?)) ∧
      (s.attention = ⟨[], 0⟩ → t.attention = ⟨(if s.settings.storeGood = true then [] else [.settingsDefaulted]) ++
        (if s.tankTable.storeGood = true then [] else [.originsCleared]) ++ (if late then [.tideStale] else []), 0⟩) ∧
      t.cond.tide = (if late then { s.cond.tide with state := .stale } else s.cond.tide) ∧
      t.loop.frameTimer = some (s.now + 500) ∧ t.loop.window = some ⟨.full, none, s.now, false⟩ ∧
      t.sent = s.sent ++ [.frame .full (s.loop.drive.toList.map fun d => d.on), .flow .console false, .flow .shore false] ∧
      (s.cond.evaluation = none → s.cond.prediction = none → t.cond.evaluation = some (t.runInputs none)) ∧
      ungraded t (decide valid) ∧ t.now = s.now ∧ t.transfers = s.transfers ∧ t.faults = s.faults ∧ t.pending = s.pending

/-! ## Invariants -/

/-- Every step keeps the blocks of the Particulars Store in canonical form and within the block. -/
def Obligations.EveryStepKeepsTheParticularsGood : Prop :=
  ∀ s t : State, ParticularsGood s → step s = .next t → ParticularsGood t

/-- Every step keeps the attention set and the links within their bounds: at most 64 items, each once, an overflow count
of at most 255; at most 128 and 64 queued characters, at most 8 replies with room for the one that is owed, one line in
each shore slot. -/
def Obligations.EveryStepKeepsTheQueuesInBounds : Prop :=
  ∀ s t : State, s.attention.Good → LinksGood s → step s = .next t → t.attention.Good ∧ LinksGood t

/-- Every step keeps the drive image safe: only a drive point is commanded ON, only in fault state NORMAL of a part that
runs, and the valve of a tank only while the tank is claimed (R24 to R26). -/
def Obligations.EveryStepKeepsTheDriveSafe : Prop :=
  ∀ s t : State, DriveSafe s → step s = .next t → DriveSafe t

/-- Every step keeps each transfer record in one place, the pending queue, a run slot or a stack, and these hold nothing
else; at most 16 records with their own ids 1..255, a reservation on none but a pending one (R41, R42, R44, R54). -/
def Obligations.EveryStepKeepsTransfersInOnePlace : Prop :=
  ∀ s t : State, TransfersPlaced s → DriveSafe s → step s = .next t → TransfersPlaced t

/-- Every step keeps the plan safe: each step once, only the head GRANTED, POURING or HELD, a clearance for a READY head
alone, and no clearance, grant or pour while a watched entry blocks, outside fault state NORMAL or outside BERTH (section
7.7, R127, R150, R151). -/
def Obligations.EveryStepKeepsThePourSafe : Prop :=
  ∀ s t : State, PourSafe s → step s = .next t → PourSafe t

/-- The invariants hold right after a POWER reset, with the stores as delivered (the model's choice, log 5). -/
def Obligations.TheInvariantsHoldAtReset : Prop :=
  ParticularsGood State.reset ∧ State.reset.attention.Good ∧ LinksGood State.reset ∧ DriveSafe State.reset ∧
    TransfersPlaced State.reset ∧ PourSafe State.reset

end
end

