-- ==== Sys2Proof/Laws/State.lean ====
section
/-! SUPPORT. What each setter of State leaves of each field: one lemma per field per setter, all by `rfl`, so that no
later proof unfolds a record update. -/

namespace Sys2Proof.Machine

variable (s : State)

@[simp] theorem now_setNow x : (s.setNow x).now = x := rfl
@[simp] theorem freeCount_setNow x : (s.setNow x).freeCount = s.freeCount := rfl
@[simp] theorem sent_setNow x : (s.setNow x).sent = s.sent := rfl
@[simp] theorem modes_setNow x : (s.setNow x).modes = s.modes := rfl
@[simp] theorem particulars_setNow x : (s.setNow x).particulars = s.particulars := rfl
@[simp] theorem settings_setNow x : (s.setNow x).settings = s.settings := rfl
@[simp] theorem attention_setNow x : (s.setNow x).attention = s.attention := rfl
@[simp] theorem loop_setNow x : (s.setNow x).loop = s.loop := rfl
@[simp] theorem tankTable_setNow x : (s.setNow x).tankTable = s.tankTable := rfl
@[simp] theorem transfers_setNow x : (s.setNow x).transfers = s.transfers := rfl
@[simp] theorem movers_setNow x : (s.setNow x).movers = s.movers := rfl
@[simp] theorem cond_setNow x : (s.setNow x).cond = s.cond := rfl
@[simp] theorem margins_setNow x : (s.setNow x).margins = s.margins := rfl
@[simp] theorem pour_setNow x : (s.setNow x).pour = s.pour := rfl
@[simp] theorem faults_setNow x : (s.setNow x).faults = s.faults := rfl
@[simp] theorem composer_setNow x : (s.setNow x).composer = s.composer := rfl
@[simp] theorem console_setNow x : (s.setNow x).console = s.console := rfl
@[simp] theorem shore_setNow x : (s.setNow x).shore = s.shore := rfl
@[simp] theorem pending_setNow x : (s.setNow x).pending = s.pending := rfl

@[simp] theorem now_setFreeCount x : (s.setFreeCount x).now = s.now := rfl
@[simp] theorem freeCount_setFreeCount x : (s.setFreeCount x).freeCount = x := rfl
@[simp] theorem sent_setFreeCount x : (s.setFreeCount x).sent = s.sent := rfl
@[simp] theorem modes_setFreeCount x : (s.setFreeCount x).modes = s.modes := rfl
@[simp] theorem particulars_setFreeCount x : (s.setFreeCount x).particulars = s.particulars := rfl
@[simp] theorem settings_setFreeCount x : (s.setFreeCount x).settings = s.settings := rfl
@[simp] theorem attention_setFreeCount x : (s.setFreeCount x).attention = s.attention := rfl
@[simp] theorem loop_setFreeCount x : (s.setFreeCount x).loop = s.loop := rfl
@[simp] theorem tankTable_setFreeCount x : (s.setFreeCount x).tankTable = s.tankTable := rfl
@[simp] theorem transfers_setFreeCount x : (s.setFreeCount x).transfers = s.transfers := rfl
@[simp] theorem movers_setFreeCount x : (s.setFreeCount x).movers = s.movers := rfl
@[simp] theorem cond_setFreeCount x : (s.setFreeCount x).cond = s.cond := rfl
@[simp] theorem margins_setFreeCount x : (s.setFreeCount x).margins = s.margins := rfl
@[simp] theorem pour_setFreeCount x : (s.setFreeCount x).pour = s.pour := rfl
@[simp] theorem faults_setFreeCount x : (s.setFreeCount x).faults = s.faults := rfl
@[simp] theorem composer_setFreeCount x : (s.setFreeCount x).composer = s.composer := rfl
@[simp] theorem console_setFreeCount x : (s.setFreeCount x).console = s.console := rfl
@[simp] theorem shore_setFreeCount x : (s.setFreeCount x).shore = s.shore := rfl
@[simp] theorem pending_setFreeCount x : (s.setFreeCount x).pending = s.pending := rfl

@[simp] theorem now_setSent x : (s.setSent x).now = s.now := rfl
@[simp] theorem freeCount_setSent x : (s.setSent x).freeCount = s.freeCount := rfl
@[simp] theorem sent_setSent x : (s.setSent x).sent = x := rfl
@[simp] theorem modes_setSent x : (s.setSent x).modes = s.modes := rfl
@[simp] theorem particulars_setSent x : (s.setSent x).particulars = s.particulars := rfl
@[simp] theorem settings_setSent x : (s.setSent x).settings = s.settings := rfl
@[simp] theorem attention_setSent x : (s.setSent x).attention = s.attention := rfl
@[simp] theorem loop_setSent x : (s.setSent x).loop = s.loop := rfl
@[simp] theorem tankTable_setSent x : (s.setSent x).tankTable = s.tankTable := rfl
@[simp] theorem transfers_setSent x : (s.setSent x).transfers = s.transfers := rfl
@[simp] theorem movers_setSent x : (s.setSent x).movers = s.movers := rfl
@[simp] theorem cond_setSent x : (s.setSent x).cond = s.cond := rfl
@[simp] theorem margins_setSent x : (s.setSent x).margins = s.margins := rfl
@[simp] theorem pour_setSent x : (s.setSent x).pour = s.pour := rfl
@[simp] theorem faults_setSent x : (s.setSent x).faults = s.faults := rfl
@[simp] theorem composer_setSent x : (s.setSent x).composer = s.composer := rfl
@[simp] theorem console_setSent x : (s.setSent x).console = s.console := rfl
@[simp] theorem shore_setSent x : (s.setSent x).shore = s.shore := rfl
@[simp] theorem pending_setSent x : (s.setSent x).pending = s.pending := rfl

@[simp] theorem now_setModes x : (s.setModes x).now = s.now := rfl
@[simp] theorem freeCount_setModes x : (s.setModes x).freeCount = s.freeCount := rfl
@[simp] theorem sent_setModes x : (s.setModes x).sent = s.sent := rfl
@[simp] theorem modes_setModes x : (s.setModes x).modes = x := rfl
@[simp] theorem particulars_setModes x : (s.setModes x).particulars = s.particulars := rfl
@[simp] theorem settings_setModes x : (s.setModes x).settings = s.settings := rfl
@[simp] theorem attention_setModes x : (s.setModes x).attention = s.attention := rfl
@[simp] theorem loop_setModes x : (s.setModes x).loop = s.loop := rfl
@[simp] theorem tankTable_setModes x : (s.setModes x).tankTable = s.tankTable := rfl
@[simp] theorem transfers_setModes x : (s.setModes x).transfers = s.transfers := rfl
@[simp] theorem movers_setModes x : (s.setModes x).movers = s.movers := rfl
@[simp] theorem cond_setModes x : (s.setModes x).cond = s.cond := rfl
@[simp] theorem margins_setModes x : (s.setModes x).margins = s.margins := rfl
@[simp] theorem pour_setModes x : (s.setModes x).pour = s.pour := rfl
@[simp] theorem faults_setModes x : (s.setModes x).faults = s.faults := rfl
@[simp] theorem composer_setModes x : (s.setModes x).composer = s.composer := rfl
@[simp] theorem console_setModes x : (s.setModes x).console = s.console := rfl
@[simp] theorem shore_setModes x : (s.setModes x).shore = s.shore := rfl
@[simp] theorem pending_setModes x : (s.setModes x).pending = s.pending := rfl

@[simp] theorem now_setParticulars x : (s.setParticulars x).now = s.now := rfl
@[simp] theorem freeCount_setParticulars x : (s.setParticulars x).freeCount = s.freeCount := rfl
@[simp] theorem sent_setParticulars x : (s.setParticulars x).sent = s.sent := rfl
@[simp] theorem modes_setParticulars x : (s.setParticulars x).modes = s.modes := rfl
@[simp] theorem particulars_setParticulars x : (s.setParticulars x).particulars = x := rfl
@[simp] theorem settings_setParticulars x : (s.setParticulars x).settings = s.settings := rfl
@[simp] theorem attention_setParticulars x : (s.setParticulars x).attention = s.attention := rfl
@[simp] theorem loop_setParticulars x : (s.setParticulars x).loop = s.loop := rfl
@[simp] theorem tankTable_setParticulars x : (s.setParticulars x).tankTable = s.tankTable := rfl
@[simp] theorem transfers_setParticulars x : (s.setParticulars x).transfers = s.transfers := rfl
@[simp] theorem movers_setParticulars x : (s.setParticulars x).movers = s.movers := rfl
@[simp] theorem cond_setParticulars x : (s.setParticulars x).cond = s.cond := rfl
@[simp] theorem margins_setParticulars x : (s.setParticulars x).margins = s.margins := rfl
@[simp] theorem pour_setParticulars x : (s.setParticulars x).pour = s.pour := rfl
@[simp] theorem faults_setParticulars x : (s.setParticulars x).faults = s.faults := rfl
@[simp] theorem composer_setParticulars x : (s.setParticulars x).composer = s.composer := rfl
@[simp] theorem console_setParticulars x : (s.setParticulars x).console = s.console := rfl
@[simp] theorem shore_setParticulars x : (s.setParticulars x).shore = s.shore := rfl
@[simp] theorem pending_setParticulars x : (s.setParticulars x).pending = s.pending := rfl

@[simp] theorem now_setSettings x : (s.setSettings x).now = s.now := rfl
@[simp] theorem freeCount_setSettings x : (s.setSettings x).freeCount = s.freeCount := rfl
@[simp] theorem sent_setSettings x : (s.setSettings x).sent = s.sent := rfl
@[simp] theorem modes_setSettings x : (s.setSettings x).modes = s.modes := rfl
@[simp] theorem particulars_setSettings x : (s.setSettings x).particulars = s.particulars := rfl
@[simp] theorem settings_setSettings x : (s.setSettings x).settings = x := rfl
@[simp] theorem attention_setSettings x : (s.setSettings x).attention = s.attention := rfl
@[simp] theorem loop_setSettings x : (s.setSettings x).loop = s.loop := rfl
@[simp] theorem tankTable_setSettings x : (s.setSettings x).tankTable = s.tankTable := rfl
@[simp] theorem transfers_setSettings x : (s.setSettings x).transfers = s.transfers := rfl
@[simp] theorem movers_setSettings x : (s.setSettings x).movers = s.movers := rfl
@[simp] theorem cond_setSettings x : (s.setSettings x).cond = s.cond := rfl
@[simp] theorem margins_setSettings x : (s.setSettings x).margins = s.margins := rfl
@[simp] theorem pour_setSettings x : (s.setSettings x).pour = s.pour := rfl
@[simp] theorem faults_setSettings x : (s.setSettings x).faults = s.faults := rfl
@[simp] theorem composer_setSettings x : (s.setSettings x).composer = s.composer := rfl
@[simp] theorem console_setSettings x : (s.setSettings x).console = s.console := rfl
@[simp] theorem shore_setSettings x : (s.setSettings x).shore = s.shore := rfl
@[simp] theorem pending_setSettings x : (s.setSettings x).pending = s.pending := rfl

@[simp] theorem now_setAttention x : (s.setAttention x).now = s.now := rfl
@[simp] theorem freeCount_setAttention x : (s.setAttention x).freeCount = s.freeCount := rfl
@[simp] theorem sent_setAttention x : (s.setAttention x).sent = s.sent := rfl
@[simp] theorem modes_setAttention x : (s.setAttention x).modes = s.modes := rfl
@[simp] theorem particulars_setAttention x : (s.setAttention x).particulars = s.particulars := rfl
@[simp] theorem settings_setAttention x : (s.setAttention x).settings = s.settings := rfl
@[simp] theorem attention_setAttention x : (s.setAttention x).attention = x := rfl
@[simp] theorem loop_setAttention x : (s.setAttention x).loop = s.loop := rfl
@[simp] theorem tankTable_setAttention x : (s.setAttention x).tankTable = s.tankTable := rfl
@[simp] theorem transfers_setAttention x : (s.setAttention x).transfers = s.transfers := rfl
@[simp] theorem movers_setAttention x : (s.setAttention x).movers = s.movers := rfl
@[simp] theorem cond_setAttention x : (s.setAttention x).cond = s.cond := rfl
@[simp] theorem margins_setAttention x : (s.setAttention x).margins = s.margins := rfl
@[simp] theorem pour_setAttention x : (s.setAttention x).pour = s.pour := rfl
@[simp] theorem faults_setAttention x : (s.setAttention x).faults = s.faults := rfl
@[simp] theorem composer_setAttention x : (s.setAttention x).composer = s.composer := rfl
@[simp] theorem console_setAttention x : (s.setAttention x).console = s.console := rfl
@[simp] theorem shore_setAttention x : (s.setAttention x).shore = s.shore := rfl
@[simp] theorem pending_setAttention x : (s.setAttention x).pending = s.pending := rfl

@[simp] theorem now_setLoop x : (s.setLoop x).now = s.now := rfl
@[simp] theorem freeCount_setLoop x : (s.setLoop x).freeCount = s.freeCount := rfl
@[simp] theorem sent_setLoop x : (s.setLoop x).sent = s.sent := rfl
@[simp] theorem modes_setLoop x : (s.setLoop x).modes = s.modes := rfl
@[simp] theorem particulars_setLoop x : (s.setLoop x).particulars = s.particulars := rfl
@[simp] theorem settings_setLoop x : (s.setLoop x).settings = s.settings := rfl
@[simp] theorem attention_setLoop x : (s.setLoop x).attention = s.attention := rfl
@[simp] theorem loop_setLoop x : (s.setLoop x).loop = x := rfl
@[simp] theorem tankTable_setLoop x : (s.setLoop x).tankTable = s.tankTable := rfl
@[simp] theorem transfers_setLoop x : (s.setLoop x).transfers = s.transfers := rfl
@[simp] theorem movers_setLoop x : (s.setLoop x).movers = s.movers := rfl
@[simp] theorem cond_setLoop x : (s.setLoop x).cond = s.cond := rfl
@[simp] theorem margins_setLoop x : (s.setLoop x).margins = s.margins := rfl
@[simp] theorem pour_setLoop x : (s.setLoop x).pour = s.pour := rfl
@[simp] theorem faults_setLoop x : (s.setLoop x).faults = s.faults := rfl
@[simp] theorem composer_setLoop x : (s.setLoop x).composer = s.composer := rfl
@[simp] theorem console_setLoop x : (s.setLoop x).console = s.console := rfl
@[simp] theorem shore_setLoop x : (s.setLoop x).shore = s.shore := rfl
@[simp] theorem pending_setLoop x : (s.setLoop x).pending = s.pending := rfl

@[simp] theorem now_setTankTable x : (s.setTankTable x).now = s.now := rfl
@[simp] theorem freeCount_setTankTable x : (s.setTankTable x).freeCount = s.freeCount := rfl
@[simp] theorem sent_setTankTable x : (s.setTankTable x).sent = s.sent := rfl
@[simp] theorem modes_setTankTable x : (s.setTankTable x).modes = s.modes := rfl
@[simp] theorem particulars_setTankTable x : (s.setTankTable x).particulars = s.particulars := rfl
@[simp] theorem settings_setTankTable x : (s.setTankTable x).settings = s.settings := rfl
@[simp] theorem attention_setTankTable x : (s.setTankTable x).attention = s.attention := rfl
@[simp] theorem loop_setTankTable x : (s.setTankTable x).loop = s.loop := rfl
@[simp] theorem tankTable_setTankTable x : (s.setTankTable x).tankTable = x := rfl
@[simp] theorem transfers_setTankTable x : (s.setTankTable x).transfers = s.transfers := rfl
@[simp] theorem movers_setTankTable x : (s.setTankTable x).movers = s.movers := rfl
@[simp] theorem cond_setTankTable x : (s.setTankTable x).cond = s.cond := rfl
@[simp] theorem margins_setTankTable x : (s.setTankTable x).margins = s.margins := rfl
@[simp] theorem pour_setTankTable x : (s.setTankTable x).pour = s.pour := rfl
@[simp] theorem faults_setTankTable x : (s.setTankTable x).faults = s.faults := rfl
@[simp] theorem composer_setTankTable x : (s.setTankTable x).composer = s.composer := rfl
@[simp] theorem console_setTankTable x : (s.setTankTable x).console = s.console := rfl
@[simp] theorem shore_setTankTable x : (s.setTankTable x).shore = s.shore := rfl
@[simp] theorem pending_setTankTable x : (s.setTankTable x).pending = s.pending := rfl

@[simp] theorem now_setTransfers x : (s.setTransfers x).now = s.now := rfl
@[simp] theorem freeCount_setTransfers x : (s.setTransfers x).freeCount = s.freeCount := rfl
@[simp] theorem sent_setTransfers x : (s.setTransfers x).sent = s.sent := rfl
@[simp] theorem modes_setTransfers x : (s.setTransfers x).modes = s.modes := rfl
@[simp] theorem particulars_setTransfers x : (s.setTransfers x).particulars = s.particulars := rfl
@[simp] theorem settings_setTransfers x : (s.setTransfers x).settings = s.settings := rfl
@[simp] theorem attention_setTransfers x : (s.setTransfers x).attention = s.attention := rfl
@[simp] theorem loop_setTransfers x : (s.setTransfers x).loop = s.loop := rfl
@[simp] theorem tankTable_setTransfers x : (s.setTransfers x).tankTable = s.tankTable := rfl
@[simp] theorem transfers_setTransfers x : (s.setTransfers x).transfers = x := rfl
@[simp] theorem movers_setTransfers x : (s.setTransfers x).movers = s.movers := rfl
@[simp] theorem cond_setTransfers x : (s.setTransfers x).cond = s.cond := rfl
@[simp] theorem margins_setTransfers x : (s.setTransfers x).margins = s.margins := rfl
@[simp] theorem pour_setTransfers x : (s.setTransfers x).pour = s.pour := rfl
@[simp] theorem faults_setTransfers x : (s.setTransfers x).faults = s.faults := rfl
@[simp] theorem composer_setTransfers x : (s.setTransfers x).composer = s.composer := rfl
@[simp] theorem console_setTransfers x : (s.setTransfers x).console = s.console := rfl
@[simp] theorem shore_setTransfers x : (s.setTransfers x).shore = s.shore := rfl
@[simp] theorem pending_setTransfers x : (s.setTransfers x).pending = s.pending := rfl

@[simp] theorem now_setMovers x : (s.setMovers x).now = s.now := rfl
@[simp] theorem freeCount_setMovers x : (s.setMovers x).freeCount = s.freeCount := rfl
@[simp] theorem sent_setMovers x : (s.setMovers x).sent = s.sent := rfl
@[simp] theorem modes_setMovers x : (s.setMovers x).modes = s.modes := rfl
@[simp] theorem particulars_setMovers x : (s.setMovers x).particulars = s.particulars := rfl
@[simp] theorem settings_setMovers x : (s.setMovers x).settings = s.settings := rfl
@[simp] theorem attention_setMovers x : (s.setMovers x).attention = s.attention := rfl
@[simp] theorem loop_setMovers x : (s.setMovers x).loop = s.loop := rfl
@[simp] theorem tankTable_setMovers x : (s.setMovers x).tankTable = s.tankTable := rfl
@[simp] theorem transfers_setMovers x : (s.setMovers x).transfers = s.transfers := rfl
@[simp] theorem movers_setMovers x : (s.setMovers x).movers = x := rfl
@[simp] theorem cond_setMovers x : (s.setMovers x).cond = s.cond := rfl
@[simp] theorem margins_setMovers x : (s.setMovers x).margins = s.margins := rfl
@[simp] theorem pour_setMovers x : (s.setMovers x).pour = s.pour := rfl
@[simp] theorem faults_setMovers x : (s.setMovers x).faults = s.faults := rfl
@[simp] theorem composer_setMovers x : (s.setMovers x).composer = s.composer := rfl
@[simp] theorem console_setMovers x : (s.setMovers x).console = s.console := rfl
@[simp] theorem shore_setMovers x : (s.setMovers x).shore = s.shore := rfl
@[simp] theorem pending_setMovers x : (s.setMovers x).pending = s.pending := rfl

@[simp] theorem now_setCond x : (s.setCond x).now = s.now := rfl
@[simp] theorem freeCount_setCond x : (s.setCond x).freeCount = s.freeCount := rfl
@[simp] theorem sent_setCond x : (s.setCond x).sent = s.sent := rfl
@[simp] theorem modes_setCond x : (s.setCond x).modes = s.modes := rfl
@[simp] theorem particulars_setCond x : (s.setCond x).particulars = s.particulars := rfl
@[simp] theorem settings_setCond x : (s.setCond x).settings = s.settings := rfl
@[simp] theorem attention_setCond x : (s.setCond x).attention = s.attention := rfl
@[simp] theorem loop_setCond x : (s.setCond x).loop = s.loop := rfl
@[simp] theorem tankTable_setCond x : (s.setCond x).tankTable = s.tankTable := rfl
@[simp] theorem transfers_setCond x : (s.setCond x).transfers = s.transfers := rfl
@[simp] theorem movers_setCond x : (s.setCond x).movers = s.movers := rfl
@[simp] theorem cond_setCond x : (s.setCond x).cond = x := rfl
@[simp] theorem margins_setCond x : (s.setCond x).margins = s.margins := rfl
@[simp] theorem pour_setCond x : (s.setCond x).pour = s.pour := rfl
@[simp] theorem faults_setCond x : (s.setCond x).faults = s.faults := rfl
@[simp] theorem composer_setCond x : (s.setCond x).composer = s.composer := rfl
@[simp] theorem console_setCond x : (s.setCond x).console = s.console := rfl
@[simp] theorem shore_setCond x : (s.setCond x).shore = s.shore := rfl
@[simp] theorem pending_setCond x : (s.setCond x).pending = s.pending := rfl

@[simp] theorem now_setMargins x : (s.setMargins x).now = s.now := rfl
@[simp] theorem freeCount_setMargins x : (s.setMargins x).freeCount = s.freeCount := rfl
@[simp] theorem sent_setMargins x : (s.setMargins x).sent = s.sent := rfl
@[simp] theorem modes_setMargins x : (s.setMargins x).modes = s.modes := rfl
@[simp] theorem particulars_setMargins x : (s.setMargins x).particulars = s.particulars := rfl
@[simp] theorem settings_setMargins x : (s.setMargins x).settings = s.settings := rfl
@[simp] theorem attention_setMargins x : (s.setMargins x).attention = s.attention := rfl
@[simp] theorem loop_setMargins x : (s.setMargins x).loop = s.loop := rfl
@[simp] theorem tankTable_setMargins x : (s.setMargins x).tankTable = s.tankTable := rfl
@[simp] theorem transfers_setMargins x : (s.setMargins x).transfers = s.transfers := rfl
@[simp] theorem movers_setMargins x : (s.setMargins x).movers = s.movers := rfl
@[simp] theorem cond_setMargins x : (s.setMargins x).cond = s.cond := rfl
@[simp] theorem margins_setMargins x : (s.setMargins x).margins = x := rfl
@[simp] theorem pour_setMargins x : (s.setMargins x).pour = s.pour := rfl
@[simp] theorem faults_setMargins x : (s.setMargins x).faults = s.faults := rfl
@[simp] theorem composer_setMargins x : (s.setMargins x).composer = s.composer := rfl
@[simp] theorem console_setMargins x : (s.setMargins x).console = s.console := rfl
@[simp] theorem shore_setMargins x : (s.setMargins x).shore = s.shore := rfl
@[simp] theorem pending_setMargins x : (s.setMargins x).pending = s.pending := rfl

@[simp] theorem now_setPour x : (s.setPour x).now = s.now := rfl
@[simp] theorem freeCount_setPour x : (s.setPour x).freeCount = s.freeCount := rfl
@[simp] theorem sent_setPour x : (s.setPour x).sent = s.sent := rfl
@[simp] theorem modes_setPour x : (s.setPour x).modes = s.modes := rfl
@[simp] theorem particulars_setPour x : (s.setPour x).particulars = s.particulars := rfl
@[simp] theorem settings_setPour x : (s.setPour x).settings = s.settings := rfl
@[simp] theorem attention_setPour x : (s.setPour x).attention = s.attention := rfl
@[simp] theorem loop_setPour x : (s.setPour x).loop = s.loop := rfl
@[simp] theorem tankTable_setPour x : (s.setPour x).tankTable = s.tankTable := rfl
@[simp] theorem transfers_setPour x : (s.setPour x).transfers = s.transfers := rfl
@[simp] theorem movers_setPour x : (s.setPour x).movers = s.movers := rfl
@[simp] theorem cond_setPour x : (s.setPour x).cond = s.cond := rfl
@[simp] theorem margins_setPour x : (s.setPour x).margins = s.margins := rfl
@[simp] theorem pour_setPour x : (s.setPour x).pour = x := rfl
@[simp] theorem faults_setPour x : (s.setPour x).faults = s.faults := rfl
@[simp] theorem composer_setPour x : (s.setPour x).composer = s.composer := rfl
@[simp] theorem console_setPour x : (s.setPour x).console = s.console := rfl
@[simp] theorem shore_setPour x : (s.setPour x).shore = s.shore := rfl
@[simp] theorem pending_setPour x : (s.setPour x).pending = s.pending := rfl

@[simp] theorem now_setFaults x : (s.setFaults x).now = s.now := rfl
@[simp] theorem freeCount_setFaults x : (s.setFaults x).freeCount = s.freeCount := rfl
@[simp] theorem sent_setFaults x : (s.setFaults x).sent = s.sent := rfl
@[simp] theorem modes_setFaults x : (s.setFaults x).modes = s.modes := rfl
@[simp] theorem particulars_setFaults x : (s.setFaults x).particulars = s.particulars := rfl
@[simp] theorem settings_setFaults x : (s.setFaults x).settings = s.settings := rfl
@[simp] theorem attention_setFaults x : (s.setFaults x).attention = s.attention := rfl
@[simp] theorem loop_setFaults x : (s.setFaults x).loop = s.loop := rfl
@[simp] theorem tankTable_setFaults x : (s.setFaults x).tankTable = s.tankTable := rfl
@[simp] theorem transfers_setFaults x : (s.setFaults x).transfers = s.transfers := rfl
@[simp] theorem movers_setFaults x : (s.setFaults x).movers = s.movers := rfl
@[simp] theorem cond_setFaults x : (s.setFaults x).cond = s.cond := rfl
@[simp] theorem margins_setFaults x : (s.setFaults x).margins = s.margins := rfl
@[simp] theorem pour_setFaults x : (s.setFaults x).pour = s.pour := rfl
@[simp] theorem faults_setFaults x : (s.setFaults x).faults = x := rfl
@[simp] theorem composer_setFaults x : (s.setFaults x).composer = s.composer := rfl
@[simp] theorem console_setFaults x : (s.setFaults x).console = s.console := rfl
@[simp] theorem shore_setFaults x : (s.setFaults x).shore = s.shore := rfl
@[simp] theorem pending_setFaults x : (s.setFaults x).pending = s.pending := rfl

@[simp] theorem now_setComposer x : (s.setComposer x).now = s.now := rfl
@[simp] theorem freeCount_setComposer x : (s.setComposer x).freeCount = s.freeCount := rfl
@[simp] theorem sent_setComposer x : (s.setComposer x).sent = s.sent := rfl
@[simp] theorem modes_setComposer x : (s.setComposer x).modes = s.modes := rfl
@[simp] theorem particulars_setComposer x : (s.setComposer x).particulars = s.particulars := rfl
@[simp] theorem settings_setComposer x : (s.setComposer x).settings = s.settings := rfl
@[simp] theorem attention_setComposer x : (s.setComposer x).attention = s.attention := rfl
@[simp] theorem loop_setComposer x : (s.setComposer x).loop = s.loop := rfl
@[simp] theorem tankTable_setComposer x : (s.setComposer x).tankTable = s.tankTable := rfl
@[simp] theorem transfers_setComposer x : (s.setComposer x).transfers = s.transfers := rfl
@[simp] theorem movers_setComposer x : (s.setComposer x).movers = s.movers := rfl
@[simp] theorem cond_setComposer x : (s.setComposer x).cond = s.cond := rfl
@[simp] theorem margins_setComposer x : (s.setComposer x).margins = s.margins := rfl
@[simp] theorem pour_setComposer x : (s.setComposer x).pour = s.pour := rfl
@[simp] theorem faults_setComposer x : (s.setComposer x).faults = s.faults := rfl
@[simp] theorem composer_setComposer x : (s.setComposer x).composer = x := rfl
@[simp] theorem console_setComposer x : (s.setComposer x).console = s.console := rfl
@[simp] theorem shore_setComposer x : (s.setComposer x).shore = s.shore := rfl
@[simp] theorem pending_setComposer x : (s.setComposer x).pending = s.pending := rfl

@[simp] theorem now_setConsole x : (s.setConsole x).now = s.now := rfl
@[simp] theorem freeCount_setConsole x : (s.setConsole x).freeCount = s.freeCount := rfl
@[simp] theorem sent_setConsole x : (s.setConsole x).sent = s.sent := rfl
@[simp] theorem modes_setConsole x : (s.setConsole x).modes = s.modes := rfl
@[simp] theorem particulars_setConsole x : (s.setConsole x).particulars = s.particulars := rfl
@[simp] theorem settings_setConsole x : (s.setConsole x).settings = s.settings := rfl
@[simp] theorem attention_setConsole x : (s.setConsole x).attention = s.attention := rfl
@[simp] theorem loop_setConsole x : (s.setConsole x).loop = s.loop := rfl
@[simp] theorem tankTable_setConsole x : (s.setConsole x).tankTable = s.tankTable := rfl
@[simp] theorem transfers_setConsole x : (s.setConsole x).transfers = s.transfers := rfl
@[simp] theorem movers_setConsole x : (s.setConsole x).movers = s.movers := rfl
@[simp] theorem cond_setConsole x : (s.setConsole x).cond = s.cond := rfl
@[simp] theorem margins_setConsole x : (s.setConsole x).margins = s.margins := rfl
@[simp] theorem pour_setConsole x : (s.setConsole x).pour = s.pour := rfl
@[simp] theorem faults_setConsole x : (s.setConsole x).faults = s.faults := rfl
@[simp] theorem composer_setConsole x : (s.setConsole x).composer = s.composer := rfl
@[simp] theorem console_setConsole x : (s.setConsole x).console = x := rfl
@[simp] theorem shore_setConsole x : (s.setConsole x).shore = s.shore := rfl
@[simp] theorem pending_setConsole x : (s.setConsole x).pending = s.pending := rfl

@[simp] theorem now_setShore x : (s.setShore x).now = s.now := rfl
@[simp] theorem freeCount_setShore x : (s.setShore x).freeCount = s.freeCount := rfl
@[simp] theorem sent_setShore x : (s.setShore x).sent = s.sent := rfl
@[simp] theorem modes_setShore x : (s.setShore x).modes = s.modes := rfl
@[simp] theorem particulars_setShore x : (s.setShore x).particulars = s.particulars := rfl
@[simp] theorem settings_setShore x : (s.setShore x).settings = s.settings := rfl
@[simp] theorem attention_setShore x : (s.setShore x).attention = s.attention := rfl
@[simp] theorem loop_setShore x : (s.setShore x).loop = s.loop := rfl
@[simp] theorem tankTable_setShore x : (s.setShore x).tankTable = s.tankTable := rfl
@[simp] theorem transfers_setShore x : (s.setShore x).transfers = s.transfers := rfl
@[simp] theorem movers_setShore x : (s.setShore x).movers = s.movers := rfl
@[simp] theorem cond_setShore x : (s.setShore x).cond = s.cond := rfl
@[simp] theorem margins_setShore x : (s.setShore x).margins = s.margins := rfl
@[simp] theorem pour_setShore x : (s.setShore x).pour = s.pour := rfl
@[simp] theorem faults_setShore x : (s.setShore x).faults = s.faults := rfl
@[simp] theorem composer_setShore x : (s.setShore x).composer = s.composer := rfl
@[simp] theorem console_setShore x : (s.setShore x).console = s.console := rfl
@[simp] theorem shore_setShore x : (s.setShore x).shore = x := rfl
@[simp] theorem pending_setShore x : (s.setShore x).pending = s.pending := rfl

@[simp] theorem now_setPending x : (s.setPending x).now = s.now := rfl
@[simp] theorem freeCount_setPending x : (s.setPending x).freeCount = s.freeCount := rfl
@[simp] theorem sent_setPending x : (s.setPending x).sent = s.sent := rfl
@[simp] theorem modes_setPending x : (s.setPending x).modes = s.modes := rfl
@[simp] theorem particulars_setPending x : (s.setPending x).particulars = s.particulars := rfl
@[simp] theorem settings_setPending x : (s.setPending x).settings = s.settings := rfl
@[simp] theorem attention_setPending x : (s.setPending x).attention = s.attention := rfl
@[simp] theorem loop_setPending x : (s.setPending x).loop = s.loop := rfl
@[simp] theorem tankTable_setPending x : (s.setPending x).tankTable = s.tankTable := rfl
@[simp] theorem transfers_setPending x : (s.setPending x).transfers = s.transfers := rfl
@[simp] theorem movers_setPending x : (s.setPending x).movers = s.movers := rfl
@[simp] theorem cond_setPending x : (s.setPending x).cond = s.cond := rfl
@[simp] theorem margins_setPending x : (s.setPending x).margins = s.margins := rfl
@[simp] theorem pour_setPending x : (s.setPending x).pour = s.pour := rfl
@[simp] theorem faults_setPending x : (s.setPending x).faults = s.faults := rfl
@[simp] theorem composer_setPending x : (s.setPending x).composer = s.composer := rfl
@[simp] theorem console_setPending x : (s.setPending x).console = s.console := rfl
@[simp] theorem shore_setPending x : (s.setPending x).shore = s.shore := rfl
@[simp] theorem pending_setPending x : (s.setPending x).pending = x := rfl

end Sys2Proof.Machine
end

