-- ==== Sys2Proof/Laws/Attention.lean ====
section
/-! SUPPORT. The attention set stays within its bounds. -/

namespace Sys2Proof.Machine

/-- An item is pending exactly when it is a member of the set. -/
theorem has_iff (a : AttentionSet) (i : Item) : a.has i = true ↔ i ∈ a.items := by
  simp [AttentionSet.has]

/-- A displaced item is a pending one. -/
theorem displaced_mem {a : AttentionSet} {w : Nat} {x : Item} (h : a.displaced w = some x) : x ∈ a.items := by
  unfold AttentionSet.displaced at h
  split at h
  · rename_i y hy
    simp only [Option.some.injEq] at h
    subst h
    exact List.mem_of_find?_eq_some hy
  · exact List.mem_of_find?_eq_some h

/-- Raising an item keeps the set within its bounds (R191). -/
theorem raise_good {a : AttentionSet} (h : a.Good) (i : Item) : (a.raise i).Good := by
  obtain ⟨h1, h2, h3⟩ := h
  unfold AttentionSet.raise
  split
  · exact ⟨h1, h2, h3⟩
  · rename_i hn
    rw [has_iff] at hn
    split
    · rename_i hl
      refine ⟨by simpa using hl, ?_, h3⟩
      rw [List.nodup_append]
      refine ⟨h2, by simp, ?_⟩
      intro x hx y hy hxy
      simp only [List.mem_singleton] at hy
      exact hn (by rw [← hy, ← hxy]; exact hx)
    · split
      · rename_i old ho
        have hm := displaced_mem ho
        refine ⟨?_, ?_, Nat.min_le_left _ _⟩
        · have hp := List.length_pos_of_mem hm
          simp only [List.length_append, List.length_erase_of_mem hm, List.length_singleton]
          omega
        · rw [List.nodup_append]
          refine ⟨h2.erase old, by simp, ?_⟩
          intro x hx y hy hxy
          simp only [List.mem_singleton] at hy
          exact hn (by rw [← hy, ← hxy]; exact List.mem_of_mem_erase hx)
      · exact ⟨h1, h2, Nat.min_le_left _ _⟩

/-- Acknowledging items keeps the set within its bounds (R194). -/
theorem acknowledge_good {a : AttentionSet} (h : a.Good) (ps : List Int) : (a.acknowledge ps).Good := by
  obtain ⟨h1, h2, h3⟩ := h
  refine ⟨(List.length_filter_le _ _).trans h1, h2.filter _, ?_⟩
  simp only [AttentionSet.acknowledge]
  split
  · exact Nat.zero_le _
  · exact h3

/-- The empty set is within its bounds. -/
theorem empty_good : AttentionSet.Good ⟨[], 0⟩ := ⟨by simp, by simp, by simp⟩

end Sys2Proof.Machine
end

