-- ==== Sys2Proof/Laws/Links.lean ====
section
/-! SUPPORT. What a line does to the links: the frames of the Shore Port's and the Console Port's operations, the order of
the lines, and the bound of the reply queue. -/

namespace Sys2Proof.Machine

/-! ## Shore Port -/

/-- Two shore ports with the same receive side, hold and rate. -/
def ShorePort.SameReceive (p q : ShorePort) : Prop := q.rx = p.rx ∧ q.hold = p.hold ∧ q.rate = p.rate

theorem ShorePort.fill_same (p : ShorePort) : p.SameReceive p.fill := by
  unfold ShorePort.fill; split <;> exact ⟨rfl, rfl, rfl⟩

theorem ShorePort.start_same (p : ShorePort) : p.SameReceive p.start := by
  unfold ShorePort.start; split <;> exact ⟨rfl, rfl, rfl⟩

theorem ShorePort.pump_same (p : ShorePort) : p.SameReceive p.pump := by
  have h1 := p.fill_same
  have h2 := p.fill.start_same
  have h3 := p.fill.start.fill_same
  exact ⟨h3.1.trans (h2.1.trans h1.1), h3.2.1.trans (h2.2.1.trans h1.2.1), h3.2.2.trans (h2.2.2.trans h1.2.2)⟩

theorem ShorePort.fill_outgoing (p : ShorePort) : p.fill.outgoing = p.outgoing := by
  unfold ShorePort.fill; split <;> simp_all [ShorePort.outgoing]

theorem ShorePort.start_outgoing (p : ShorePort) : p.start.outgoing = p.outgoing := by
  unfold ShorePort.start; split <;> simp_all [ShorePort.outgoing]

/-- Lines move on without a change of their order. -/
theorem ShorePort.pump_outgoing (p : ShorePort) : p.pump.outgoing = p.outgoing := by
  unfold ShorePort.pump; rw [fill_outgoing, start_outgoing, fill_outgoing]

/-- What moving on does: the buffer and the transmission are filled from the lines that wait, in their order (R136). -/
theorem ShorePort.pump_eq_movedOn (p : ShorePort) : p.pump = p.movedOn := by
  rcases p with ⟨rx, hold, slots, buffer, tx, rate⟩
  rcases hold with _ | _ <;> rcases tx with _ | t <;> rcases buffer with _ | b <;>
    rcases slots with _ | ⟨x, _ | ⟨y, rest⟩⟩ <;> rfl

/-- Filling the buffer leaves the slots' lines, or takes the first away. -/
theorem ShorePort.fill_slots (p : ShorePort) : p.fill.slots = p.slots ∨ ∃ q, p.slots = q :: p.fill.slots := by
  unfold ShorePort.fill; split <;> simp_all

theorem ShorePort.start_slots (p : ShorePort) : p.start.slots = p.slots := by
  unfold ShorePort.start; split <;> rfl

/-- One line in each slot, before and after lines move on. -/
theorem ShorePort.pump_nodup {p : ShorePort} (h : (p.slots.map Prod.fst).Nodup) : (p.pump.slots.map Prod.fst).Nodup := by
  have step : ∀ q : ShorePort, (q.slots.map Prod.fst).Nodup → (q.fill.slots.map Prod.fst).Nodup := by
    intro q hq
    rcases q.fill_slots with e | ⟨x, e⟩
    · rw [e]; exact hq
    · rw [e, List.map_cons, List.nodup_cons] at hq; exact hq.2
  unfold ShorePort.pump
  apply step
  rw [start_slots]
  exact step p h

/-- A line placed in its slot leaves one line in each. -/
theorem placeLine_nodup {slots : List (ShoreSlot × Line)} (h : (slots.map Prod.fst).Nodup) (k : ShoreSlot) (l : Line) :
    ((placeLine slots k l).map Prod.fst).Nodup := by
  unfold placeLine
  split
  · rw [List.map_map]
    have e : ((Prod.fst ∘ fun q : ShoreSlot × Line => if q.1 = k then (k, l) else q) : ShoreSlot × Line → ShoreSlot) =
        Prod.fst := by
      funext q
      by_cases hq : q.1 = k <;> simp [hq]
    rw [e]; exact h
  · rename_i hk
    rw [List.map_append, List.nodup_append]
    refine ⟨h, by simp, ?_⟩
    intro a ha b hb hab
    simp only [List.map_cons, List.map_nil, List.mem_singleton] at hb
    subst hb; subst hab
    simp only [List.mem_map] at ha
    obtain ⟨q, hq, rfl⟩ := ha
    exact hk (List.any_eq_true.2 ⟨q, hq, by simp⟩)

/-- A line for a slot changes the Shore Port alone. -/
theorem shoreSend_eq (s : State) (k : ShoreSlot) (l : Line) : s.shoreSend k l = s.setShore (s.shoreSend k l).shore := rfl

/-- A line for a slot leaves the receive side, the hold and the rate. -/
theorem shoreSend_same (s : State) (k : ShoreSlot) (l : Line) : s.shore.SameReceive (s.shoreSend k l).shore :=
  ShorePort.pump_same { s.shore with slots := placeLine s.shore.slots k l }

/-- The lines of the shore link after one has arisen for a slot. -/
theorem shoreSend_outgoing (s : State) (k : ShoreSlot) (l : Line) :
    (s.shoreSend k l).shore.outgoing = { s.shore with slots := placeLine s.shore.slots k l }.outgoing :=
  ShorePort.pump_outgoing _

/-- A line for a slot leaves one line in each slot. -/
theorem shoreSend_nodup {s : State} (h : (s.shore.slots.map Prod.fst).Nodup) (k : ShoreSlot) (l : Line) :
    ((s.shoreSend k l).shore.slots.map Prod.fst).Nodup :=
  ShorePort.pump_nodup (placeLine_nodup h k l)

/-- A shore reply changes the Shore Port alone. -/
theorem shoreReply_eq (s : State) (l : Line) : s.shoreReply l = s.setShore (s.shoreReply l).shore := rfl

/-- A shore reply ends the sequence in hand and leaves the rest of the receive side, the hold and the rate. -/
theorem shoreReply_rx (s : State) (l : Line) :
    (s.shoreReply l).shore.rx = { s.shore.rx with inHand := none } ∧ (s.shoreReply l).shore.hold = s.shore.hold ∧
      (s.shoreReply l).shore.rate = s.shore.rate :=
  shoreSend_same (s.setShore { s.shore with rx := { s.shore.rx with inHand := none } }) .reply l

/-- A shore reply leaves one line in each slot. -/
theorem shoreReply_nodup {s : State} (h : (s.shore.slots.map Prod.fst).Nodup) (l : Line) :
    ((s.shoreReply l).shore.slots.map Prod.fst).Nodup :=
  shoreSend_nodup (s := s.setShore { s.shore with rx := { s.shore.rx with inHand := none } }) h .reply l

/-! ## Console Port -/

/-- A state with its links and its composer masked: what the links' work leaves of it. -/
def State.outsideLinks (s : State) : State :=
  { s with console := ConsolePort.blank 0, composer := ⟨.idle, 0⟩, shore := ShorePort.blank 0 }

/-- States that agree outside the links differ in the console, the composer and the Shore Port alone. -/
theorem eq_of_outsideLinks {s t : State} (h : t.outsideLinks = s.outsideLinks) :
    t = ((s.setConsole t.console).setComposer t.composer).setShore t.shore := by
  cases s; cases t
  simp only [State.outsideLinks, State.setConsole, State.setComposer, State.setShore, State.mk.injEq] at h ⊢
  simp [h]

/-- What the Console Port's transmit side can change: the console, the composer and the shore link's lines, with both
receive sides, holds and rates as they were, no reply added, and one line in each shore slot. -/
structure Transmits (s t : State) : Prop where
  frame : t.outsideLinks = s.outsideLinks
  rx : t.console.rx = s.console.rx
  hold : t.console.hold = s.console.hold
  rate : t.console.rate = s.console.rate
  shore : s.shore.SameReceive t.shore
  replies : t.console.replies.length ≤ s.console.replies.length
  slots : (s.shore.slots.map Prod.fst).Nodup → (t.shore.slots.map Prod.fst).Nodup

theorem Transmits.refl (s : State) : Transmits s s := ⟨rfl, rfl, rfl, rfl, ⟨rfl, rfl, rfl⟩, Nat.le_refl _, id⟩

theorem Transmits.trans {s t u : State} (h : Transmits s t) (g : Transmits t u) : Transmits s u where
  frame := g.frame.trans h.frame
  rx := g.rx.trans h.rx
  hold := g.hold.trans h.hold
  rate := g.rate.trans h.rate
  shore := ⟨g.shore.1.trans h.shore.1, g.shore.2.1.trans h.shore.2.1, g.shore.2.2.trans h.shore.2.2⟩
  replies := g.replies.trans h.replies
  slots := fun x => g.slots (h.slots x)

/-- The composer takes a value. -/
theorem Transmits.setComposer {s t : State} (h : Transmits s t) (c : Composer) : Transmits s (t.setComposer c) :=
  h.trans ⟨rfl, rfl, rfl, rfl, ⟨rfl, rfl, rfl⟩, Nat.le_refl _, id⟩

/-- The console's transmit side takes a value with no reply added. -/
theorem Transmits.setConsole {s t : State} (h : Transmits s t) (c : ConsolePort) (h1 : c.rx = t.console.rx)
    (h2 : c.hold = t.console.hold) (h3 : c.rate = t.console.rate)
    (h4 : c.replies.length ≤ t.console.replies.length) : Transmits s (t.setConsole c) :=
  h.trans ⟨rfl, h1, h2, h3, ⟨rfl, rfl, rfl⟩, h4, id⟩

/-- A line for a shore slot. -/
theorem Transmits.shoreSend {s t : State} (h : Transmits s t) (k : ShoreSlot) (l : Line) : Transmits s (t.shoreSend k l) :=
  h.trans ⟨rfl, rfl, rfl, rfl, shoreSend_same t k l, Nat.le_refl _, fun x => shoreSend_nodup x k l⟩

theorem Transmits.fillFromReplies {s t : State} (h : Transmits s t) :
    Transmits s (t.setConsole t.console.fillFromReplies) := by
  unfold ConsolePort.fillFromReplies
  split
  · exact h
  · rename_i q rest hr
    exact h.setConsole _ rfl rfl rfl (by simp [hr])

theorem Transmits.composeFooter {s t : State} (h : Transmits s t) (kind : ReportKind) (start : Stamp)
    (abort : Option AbortCause) : Transmits s (t.composeFooter kind start abort).1 := by
  unfold State.composeFooter
  dsimp only
  split
  · exact (h.setComposer _).shoreSend _ _
  · exact h.setComposer _

theorem Transmits.composeBody {s t : State} (h : Transmits s t) (kind : ReportKind) (sect : Section) (cursor : Nat)
    (start : Stamp) (abort : Option AbortCause) : Transmits s (t.composeBody kind sect cursor start abort).1 := by
  unfold State.composeBody
  dsimp only
  split
  · exact h.composeFooter _ _ _
  · split
    · exact h.setComposer _
    · exact h.composeFooter _ _ _

/-- The buffer is filled again (R173). -/
theorem Transmits.refill {s t : State} (h : Transmits s t) (q : QueuedLine) : Transmits s (t.refill q) := by
  unfold State.refill
  split
  · exact h.fillFromReplies
  · split
    · exact (h.setComposer _).setConsole _ rfl rfl rfl (Nat.le_refl _)
    · exact h.fillFromReplies
  · rename_i kind sect cursor start abort hc
    have g := h.composeBody kind sect cursor start abort
    exact g.setConsole _ rfl rfl rfl (Nat.le_refl _)

/-- The buffered line moves on (R189). -/
theorem Transmits.startConsole {s t : State} (h : Transmits s t) : Transmits s t.startConsole := by
  unfold State.startConsole
  split
  · rename_i q h1 h2 h3
    have g := h.setConsole { t.console with tx := some ⟨q.line, 0⟩, buffer := none } rfl rfl rfl (Nat.le_refl _)
    exact g.refill q
  · exact h

/-- What placing a reply line does: the sequence in hand ends, at most one line joins the reply queue, and the transmit
side moves on. -/
structure Replies (s t : State) : Prop where
  frame : t.outsideLinks = s.outsideLinks
  rx : t.console.rx = { s.console.rx with inHand := none }
  hold : t.console.hold = s.console.hold
  rate : t.console.rate = s.console.rate
  shore : s.shore.SameReceive t.shore
  replies : t.console.replies.length ≤ s.console.replies.length + 1
  slots : (s.shore.slots.map Prod.fst).Nodup → (t.shore.slots.map Prod.fst).Nodup

/-- A reply line of any kind is placed, the RP reply among them. -/
theorem joinReplies_replies (s : State) (q : QueuedLine) :
    Replies s ((s.setConsole { s.console with rx := { s.console.rx with inHand := none } }).joinReplies q) := by
  have key : ∀ c : ConsolePort, c.rx = { s.console.rx with inHand := none } → c.hold = s.console.hold →
      c.rate = s.console.rate → c.replies.length ≤ s.console.replies.length + 1 →
      Replies s ((s.setConsole { s.console with rx := { s.console.rx with inHand := none } }).setConsole
        c).startConsole := by
    intro c h1 h2 h3 h4
    have h := (Transmits.refl ((s.setConsole { s.console with
      rx := { s.console.rx with inHand := none } }).setConsole c)).startConsole
    exact ⟨h.frame, h.rx.trans h1, h.hold.trans h2, h.rate.trans h3, h.shore, h.replies.trans h4, h.slots⟩
  unfold State.joinReplies
  apply key
  all_goals
    simp only [console_setConsole, composer_setConsole]
    rcases Bool.eq_false_or_eq_true (s.console.buffer.isNone && s.composer.state.yields) with hb | hb <;>
      simp only [hb, if_true, Bool.false_eq_true, if_false]
    · unfold ConsolePort.fillFromReplies
      split
      · first | rfl | simp
      · rename_i hr
        first | rfl | (have e := congrArg List.length hr; simp at e ⊢; omega)
    all_goals first | rfl | simp

/-- A console line is placed (R188, R189). -/
theorem consoleLine_replies (s : State) (l : Line) : Replies s (s.consoleLine l) := joinReplies_replies s ⟨l, false⟩

/-- The reply of a verb is placed. -/
theorem reply_replies (s : State) (v : Verb) (fields : List Field) : Replies s (s.reply v fields) :=
  consoleLine_replies s _

/-- The refusal of a verb is placed. -/
theorem refuse_replies (s : State) (v : Verb) (c : RefCode) : Replies s (s.refuse v c) := consoleLine_replies s _

/-- While no report is asked, the lines of the console keep their order as the buffered line moves on. -/
theorem startConsole_idle {s : State} (h : s.composer.state = .idle) :
    s.startConsole = s.setConsole s.startConsole.console ∧ s.startConsole.console.outgoing = s.console.outgoing := by
  unfold State.startConsole
  split
  · rename_i q h1 h2 h3
    simp only [State.refill, composer_setConsole, h, console_setConsole]
    unfold ConsolePort.fillFromReplies
    split <;> simp_all [ConsolePort.outgoing] <;> rfl
  · exact ⟨rfl, rfl⟩

/-- While no report is asked, a reply line is the newest of the console's lines, and nothing but the Console Port
changes. -/
theorem consoleLine_idle {s : State} (h : s.composer.state = .idle) (l : Line) :
    s.consoleLine l = s.setConsole (s.consoleLine l).console ∧
      (s.consoleLine l).console.outgoing = s.console.outgoing ++ [l] := by
  unfold State.consoleLine State.joinReplies
  have key : ∀ c : ConsolePort, c.outgoing = s.console.outgoing ++ [l] →
      (((s.setConsole { s.console with rx := { s.console.rx with inHand := none } }).setConsole c).startConsole =
        s.setConsole ((s.setConsole { s.console with rx := { s.console.rx with inHand := none } }).setConsole
          c).startConsole.console) ∧
      ((s.setConsole { s.console with rx := { s.console.rx with inHand := none } }).setConsole
          c).startConsole.console.outgoing = s.console.outgoing ++ [l] := by
    intro c hc
    have g := startConsole_idle (s := (s.setConsole { s.console with
      rx := { s.console.rx with inHand := none } }).setConsole c) h
    exact ⟨g.1, g.2.trans hc⟩
  apply key
  simp only [console_setConsole, composer_setConsole]
  rcases Bool.eq_false_or_eq_true (s.console.buffer.isNone && s.composer.state.yields) with hb | hb <;>
    simp only [hb, if_true, Bool.false_eq_true, if_false]
  · simp only [Bool.and_eq_true, Option.isNone_iff_eq_none] at hb
    unfold ConsolePort.fillFromReplies
    cases hr : s.console.replies <;> simp [ConsolePort.outgoing, hr, hb.1]
  · simp [ConsolePort.outgoing]

end Sys2Proof.Machine
end

