-- ==== Sys2Proof/Laws/Work.lean ====
section
/-! SUPPORT. What the work of the arbiter, the movers, the pour plan, the margins and the faults can do, said once: the
relation `Work`, and for each of their operations the lemma that it is such work. A proof about a commit, a grading or a
verb cites these and unfolds nothing. -/

namespace Sys2Proof.Machine

/-- A state with everything masked that the work of the blocks can change. -/
def State.outsideWork (s : State) : State :=
  { s with
    attention := ⟨[], 0⟩
    loop := { s.loop with drive := FieldLoop.blank.drive }
    tankTable := State.reset.tankTable
    transfers := ⟨[], [], 0⟩
    movers := Movers.blank 0
    cond := { s.cond with request := none, prediction := none }
    pour := State.reset.pour
    faults := FaultSupervisor.blank
    shore := ShorePort.blank 0 }

/-- What the work of the blocks can do: the clock, the links' receive sides, the modes, the stores, the settings, the
scan, the watched entries, the composer, the console, the stamp, the evaluations, the volumes, the gauges, the locks, the holds and the queue
stay, and the attention set, the drive image and the shore slots stay good. -/
structure Work (s t : State) : Prop where
  frame : t.outsideWork = s.outsideWork
  attention : s.attention.Good → t.attention.Good
  drive : DriveGood s → DriveGood t
  shoreRx : t.shore.rx = { s.shore.rx with inHand := t.shore.rx.inHand } ∧ t.shore.hold = s.shore.hold ∧
    t.shore.rate = s.shore.rate
  slots : (s.shore.slots.map Prod.fst).Nodup → (t.shore.slots.map Prod.fst).Nodup
  tanks : ∀ n, (t.tank n).volume = (s.tank n).volume ∧ (t.tank n).gauge = (s.tank n).gauge ∧
    (t.tank n).lock = (s.tank n).lock
  origins : t.tankTable.store = s.tankTable.store ∧ t.tankTable.storeGood = s.tankTable.storeGood
  holds : t.pour.holds = s.pour.holds
  quiet : ∀ m, (t.mover m).quiet = (s.mover m).quiet

theorem Work.refl (s : State) : Work s s :=
  ⟨rfl, id, id, ⟨rfl, rfl, rfl⟩, id, fun _ => ⟨rfl, rfl, rfl⟩, ⟨rfl, rfl⟩, rfl, fun _ => rfl⟩

theorem Work.trans {s t u : State} (h : Work s t) (g : Work t u) : Work s u where
  frame := g.frame.trans h.frame
  attention := fun x => g.attention (h.attention x)
  drive := fun x => g.drive (h.drive x)
  shoreRx := by
    refine ⟨?_, g.shoreRx.2.1.trans h.shoreRx.2.1, g.shoreRx.2.2.trans h.shoreRx.2.2⟩
    have e := g.shoreRx.1
    rw [h.shoreRx.1] at e
    exact e
  slots := fun x => g.slots (h.slots x)
  tanks := fun n => ⟨(g.tanks n).1.trans (h.tanks n).1, (g.tanks n).2.1.trans (h.tanks n).2.1,
    (g.tanks n).2.2.trans (h.tanks n).2.2⟩
  origins := ⟨g.origins.1.trans h.origins.1, g.origins.2.trans h.origins.2⟩
  holds := g.holds.trans h.holds
  quiet := fun m => (g.quiet m).trans (h.quiet m)

/-! ## What work leaves -/

section
variable {s t : State} (h : Work s t)
include h

theorem Work.now : t.now = s.now := by have e := congrArg State.now h.frame; exact e
theorem Work.freeCount : t.freeCount = s.freeCount := by have e := congrArg State.freeCount h.frame; exact e
theorem Work.sent : t.sent = s.sent := by have e := congrArg State.sent h.frame; exact e
theorem Work.modes : t.modes = s.modes := by have e := congrArg State.modes h.frame; exact e
theorem Work.particulars : t.particulars = s.particulars := by have e := congrArg State.particulars h.frame; exact e
theorem Work.settings : t.settings = s.settings := by have e := congrArg State.settings h.frame; exact e
theorem Work.composer : t.composer = s.composer := by have e := congrArg State.composer h.frame; exact e
theorem Work.console : t.console = s.console := by have e := congrArg State.console h.frame; exact e
theorem Work.margins : t.margins = s.margins := by have e := congrArg State.margins h.frame; exact e
theorem Work.pending : t.pending = s.pending := by have e := congrArg State.pending h.frame; exact e

/-- Work leaves the field loop but for the drive image. -/
theorem Work.loop : { t.loop with drive := s.loop.drive } = s.loop := by
  have e := congrArg (fun x : State => { x.loop with drive := s.loop.drive }) h.frame
  exact e

/-- Work leaves the Condition Unit but for the prediction request and its run. -/
theorem Work.cond : { t.cond with request := s.cond.request, prediction := s.cond.prediction } = s.cond := by
  have e := congrArg (fun x : State =>
    { x.cond with request := s.cond.request, prediction := s.cond.prediction }) h.frame
  exact e

theorem Work.parts : t.parts = s.parts := congrArg ParticularsStore.inUse h.particulars

end

/-! ## The single moves -/

/-- Work over each element of a list. -/
theorem Work.foldl {α : Type} {s t : State} {f : State → α → State} (l : List α)
    (hf : ∀ u x, Work s u → Work s (f u x)) (h : Work s t) : Work s (l.foldl f t) := by
  induction l generalizing t with
  | nil => exact h
  | cons x xs ih => exact ih (hf t x h)

section
variable {s t : State}

/-- Work over each element of a list, by what is known of the elements. -/
theorem Work.foldlMem {α : Type} {f : State → α → State} (l : List α)
    (hf : ∀ u, ∀ x ∈ l, Work s u → Work s (f u x)) (h : Work s t) : Work s (l.foldl f t) := by
  induction l generalizing t with
  | nil => exact h
  | cons x xs ih => exact ih (fun u y hy => hf u y (List.mem_cons_of_mem _ hy)) (hf t x List.mem_cons_self h)

theorem Work.setTransfers (h : Work s t) (x : TransferTable) : Work s (t.setTransfers x) :=
  h.trans ⟨rfl, id, id, ⟨rfl, rfl, rfl⟩, id, fun _ => ⟨rfl, rfl, rfl⟩, ⟨rfl, rfl⟩, rfl, fun _ => rfl⟩

theorem Work.setMover (h : Work s t) (m : MoverId) (x : Mover) (hq : x.quiet = (t.mover m).quiet) :
    Work s (t.setMover m x) := by
  refine h.trans ?_
  cases m <;>
    exact ⟨rfl, id, id, ⟨rfl, rfl, rfl⟩, id, fun _ => ⟨rfl, rfl, rfl⟩, ⟨rfl, rfl⟩, rfl,
      fun k => by cases k <;> first | rfl | exact hq⟩

theorem Work.setPour (h : Work s t) (x : PourPlan) (hx : x.holds = t.pour.holds) : Work s (t.setPour x) :=
  h.trans ⟨rfl, id, id, ⟨rfl, rfl, rfl⟩, id, fun _ => ⟨rfl, rfl, rfl⟩, ⟨rfl, rfl⟩, hx, fun _ => rfl⟩

theorem Work.setCond (h : Work s t) (x : ConditionUnit)
    (hx : { x with request := none, prediction := none } = { t.cond with request := none, prediction := none }) :
    Work s (t.setCond x) := by
  refine h.trans ⟨?_, id, id, ⟨rfl, rfl, rfl⟩, id, fun _ => ⟨rfl, rfl, rfl⟩, ⟨rfl, rfl⟩, rfl, fun _ => rfl⟩
  exact congrArg (fun c : ConditionUnit => t.outsideWork.setCond c) hx

theorem Work.setTankTable (h : Work s t) (x : TankTable) (h1 : x.tanks = t.tankTable.tanks)
    (h2 : x.store = t.tankTable.store) (h3 : x.storeGood = t.tankTable.storeGood) : Work s (t.setTankTable x) := by
  have e : (t.setTankTable x).tank = t.tank := by
    funext n
    simp [State.tank, h1]
  refine h.trans ⟨rfl, id, fun hd a ha => ?_, ⟨rfl, rfl, rfl⟩, id, fun n => by simp [e], ⟨h2, h3⟩, rfl, fun _ => rfl⟩
  rw [e]
  exact hd a ha

/-- The record of a tank, read after a record is set. -/
theorem tank_setTank (u : State) (n k : Nat) (x : TankLive) :
    (u.setTank n x).tank k = if n - 1 = k - 1 ∧ n - 1 < 24 then x else u.tank k := by
  simp only [State.tank, State.setTank, tankTable_setTankTable, Vector.getElem?_setIfInBounds]
  split
  · split <;> simp_all
  · simp_all

theorem Work.setTank (h : Work s t) (n : Nat) (x : TankLive) (h1 : x.volume = (t.tank n).volume)
    (h2 : x.gauge = (t.tank n).gauge) (h3 : x.lock = (t.tank n).lock)
    (h4 : (t.tank n).claim ≠ none → x.claim ≠ none) : Work s (t.setTank n x) := by
  refine h.trans ⟨rfl, id, fun hd a ha => ?_, ⟨rfl, rfl, rfl⟩, id, fun k => ?_, ⟨rfl, rfl⟩, rfl, fun _ => rfl⟩
  · have g := hd a ha
    refine ⟨g.1, g.2.1, fun k hk => ?_⟩
    rw [tank_setTank]
    split
    · rename_i hn
      have e : t.tank k = t.tank n := by simp only [State.tank, hn.1]
      exact h4 (e ▸ g.2.2 k hk)
    · exact g.2.2 k hk
  rw [tank_setTank]
  split
  · rename_i hk
    have e : t.tank k = t.tank n := by simp only [State.tank, hk.1]
    rw [e]
    exact ⟨h1, h2, h3⟩
  · exact ⟨rfl, rfl, rfl⟩

theorem Work.raise (h : Work s t) (i : Item) : Work s (t.raise i) :=
  h.trans ⟨rfl, fun x => raise_good x i, id, ⟨rfl, rfl, rfl⟩, id, fun _ => ⟨rfl, rfl, rfl⟩, ⟨rfl, rfl⟩, rfl, fun _ => rfl⟩

/-- The Fault Supervisor takes a value that leaves NORMAL for no other state. -/
theorem Work.setFaults (h : Work s t) (f : FaultSupervisor) (hf : f.state ≠ .normal → t.faults.state ≠ .normal) :
    Work s (t.setFaults f) := by
  refine h.trans ⟨rfl, id, fun hd a ha => ?_, ⟨rfl, rfl, rfl⟩, id, fun _ => ⟨rfl, rfl, rfl⟩, ⟨rfl, rfl⟩, rfl,
    fun _ => rfl⟩
  have g := hd a ha
  exact ⟨g.1, by_contra fun hn => hf hn g.2.1, g.2.2⟩

theorem Work.setMoverCause (h : Work s t) (m : MoverId) (c : Option MoverCause) : Work s (t.setMoverCause m c) := by
  cases m <;> exact h.setFaults _ id

theorem Work.shoreSend (h : Work s t) (k : ShoreSlot) (l : Line) : Work s (t.shoreSend k l) :=
  h.trans ⟨rfl, id, id, ⟨by rw [(shoreSend_same t k l).1], (shoreSend_same t k l).2⟩, fun x => shoreSend_nodup x k l, fun _ => ⟨rfl, rfl, rfl⟩, ⟨rfl, rfl⟩, rfl,
    fun _ => rfl⟩

theorem Work.pourMessage (h : Work s t) (m : PourMessage) (fields : List Field) : Work s (t.pourMessage m fields) :=
  h.shoreSend _ _

theorem Work.shoreReply (h : Work s t) (l : Line) : Work s (t.shoreReply l) := by
  have g := shoreReply_rx t l
  exact h.trans ⟨rfl, id, id, ⟨by rw [g.1], g.2⟩, fun x => shoreReply_nodup x l, fun _ => ⟨rfl, rfl, rfl⟩, ⟨rfl, rfl⟩, rfl,
    fun _ => rfl⟩

/-! ## The drive image -/

/-- The drive image, read after a point is set. -/
theorem drive_setDrive (u : State) (a b : Nat) (d : DrivePoint) :
    (u.setDrive a d).drive b = if a = b ∧ a < 64 then d else u.drive b := by
  simp only [State.drive, State.setDrive, loop_setLoop, Vector.getElem?_setIfInBounds]
  split
  · split <;> simp_all
  · simp_all

/-- A point is set to a command that the drive invariant allows. -/
theorem Work.setDrive (h : Work s t) (a : Nat) (d : DrivePoint)
    (hd : d.on = true → (t.drive a).on = true ∨ ((roleOf t.parts a).isDrive = true ∧ t.faults.state = .normal ∧
      ∀ n, roleOf t.parts a = .tankValve n → (t.tank n).claim ≠ none)) :
    Work s (t.setDrive a d) := by
  refine h.trans ⟨rfl, id, fun g b hb => ?_, ⟨rfl, rfl, rfl⟩, id, fun _ => ⟨rfl, rfl, rfl⟩, ⟨rfl, rfl⟩, rfl,
    fun _ => rfl⟩
  rw [drive_setDrive] at hb
  split at hb
  · rename_i hab
    rcases hd hb with x | x
    · exact hab.1 ▸ g a x
    · exact hab.1 ▸ x
  · exact g b hb

/-- A write of a command (R24 to R26). -/
theorem Work.writePoint (h : Work s t) (a : Nat) (on : Bool) : Work s (t.writePoint a on) := by
  unfold State.writePoint
  dsimp only
  split
  · exact h
  · rename_i hr
    split
    · exact h
    · rename_i ho
      split
      · exact h
      · refine h.setDrive a _ fun hon => Or.inr ⟨by simpa using hr, ?_, fun n hn => ?_⟩
        all_goals
          have hon' : on = true := hon
          subst hon'
          simp only [Bool.true_and, State.onRefused, Bool.or_eq_true, not_or, State.isNormal] at ho
        · simpa using ho.1
        · simpa [hn] using ho.2

theorem Work.writePoints (h : Work s t) (points : List Nat) (on : Bool) : Work s (t.writePoints points on) :=
  h.foldl points fun _ _ g => g.writePoint _ _

theorem Work.writeAllOff (h : Work s t) : Work s t.writeAllOff := h.foldl _ fun _ _ g => g.writePoint _ _

end

end Sys2Proof.Machine
end

