-- ==== Sys2Proof/Laws/Blocks.lean ====
section
/-! SUPPORT. Every operation of the arbiter, the pour plan, the faults, the movers, the margins and the tanks is `Work`. -/

namespace Sys2Proof.Machine

section
variable {s t : State}

/-- Work on both sides of a choice. -/
theorem Work.ite {a b : State} (c : Prop) [Decidable c] (ha : Work s a) (hb : Work s b) :
    Work s (if c then a else b) := by
  split
  · exact ha
  · exact hb

/-! ## Records, origins and claims -/

theorem Work.updTransfer (h : Work s t) (id : Nat) (f : Transfer → Transfer) : Work s (t.updTransfer id f) :=
  h.setTransfers _

theorem Work.updStep (h : Work s t) (id : Nat) (f : PourStep → PourStep) : Work s (t.updStep id f) := h.setPour _ (by rfl)

theorem Work.originChanged (h : Work s t) : Work s t.originChanged := by
  unfold State.originChanged; split <;> exact h.setTankTable _ (by rfl) (by rfl) (by rfl)

theorem Work.setOrigin (h : Work s t) (n : Nat) (o : OriginEntry) : Work s (t.setOrigin n o) := by
  unfold State.setOrigin
  split
  · exact h
  · exact (h.setTank n _ (by rfl) (by rfl) (by rfl) (by exact id)).originChanged

theorem Work.fillStart (h : Work s t) (n : Nat) : Work s (t.fillStart n) := h.setOrigin _ _

theorem Work.claimTanks (h : Work s t) (tanks : List Nat) (id : Nat) : Work s (t.claimTanks tanks id) :=
  h.foldl tanks fun _ _ g => g.setTank _ _ (by rfl) (by rfl) (by rfl) (by simp)

/-- An address has the role of a tank's valve only when the particulars name it so (R23). -/
theorem role_tankValve {p : Option Memory} {a n : Nat} (h : roleOf p a = .tankValve n) : a = tankValve p n ∧ 1 ≤ n := by
  unfold roleOf roleIn at h
  split at h
  · rename_i q hq
    have hm := List.mem_of_find?_eq_some hq
    have ha : q.1 = a := by simpa using List.find?_some hq
    simp only [namedPoints, List.mem_append, List.mem_flatMap, List.mem_cons, List.not_mem_nil, or_false] at hm
    rcases hm with ⟨t, ht, hq | hq⟩ | ⟨m, _, hq⟩
    · subst hq
      have e : t = n := by simpa using h
      subst e
      refine ⟨ha.symm, ?_⟩
      simp only [definedTanks, numbers, List.mem_filter, List.mem_map, List.mem_range] at ht
      obtain ⟨⟨k, _, rfl⟩, _⟩ := ht
      omega
    · subst hq
      cases h
    · unfold moverPoints at hq
      split at hq
      · cases hq
      · split at hq <;>
          (simp only [List.mem_cons, List.not_mem_nil, or_false] at hq
           rcases hq with rfl | rfl | rfl <;> cases h)
  · cases h

/-- A write of OFF turns no point ON. -/
theorem drive_writeOff {u : State} {a b : Nat} (h : ((u.writePoint b false).drive a).on = true) :
    (u.drive a).on = true := by
  unfold State.writePoint at h
  dsimp only at h
  split at h
  · exact h
  · simp only [Bool.false_and, Bool.false_eq_true, if_false] at h
    split at h
    · exact h
    · rw [drive_setDrive] at h
      split at h
      · exact absurd h (by simp)
      · exact h

/-- A drive point written OFF is OFF. -/
theorem drive_writeOff_self {u : State} {a : Nat} (hr : (roleOf u.parts a).isDrive = true) :
    ((u.writePoint a false).drive a).on = false := by
  unfold State.writePoint
  simp only [hr, Bool.not_true, Bool.false_eq_true, if_false, Bool.false_and]
  split
  · assumption
  · rw [drive_setDrive]
    split
    · rfl
    · rename_i ha
      have e : u.drive a = ⟨false, .awaiting, none⟩ := by
        unfold State.drive
        rw [Vector.getElem?_eq_none (by simp at ha; omega)]
        rfl
      rw [e]

/-- A tank is released: its valve is OFF then, so the claim may go (R25). -/
theorem Work.releaseTank (h : Work s t) (n : Nat) (hn : 1 ≤ n) : Work s (t.releaseTank n) := by
  have g := (Work.refl (t.setTank n { t.tank n with claim := none })).writePoint (tankValve t.parts n) false
  refine h.trans ⟨g.frame, g.attention, fun hd a ha => ?_, g.shoreRx, g.slots, fun k => ?_, g.origins, g.holds, g.quiet⟩
  · have hon : (t.drive a).on = true := drive_writeOff (u := t.setTank n { t.tank n with claim := none }) ha
    have d := hd a hon
    have hp : (t.releaseTank n).parts = t.parts := g.parts
    have hf : (t.releaseTank n).faults = t.faults := by
      unfold State.releaseTank State.writePoint
      dsimp only
      split
      · rfl
      · split
        · rfl
        · split <;> rfl
    rw [hp, hf]
    refine ⟨d.1, d.2.1, fun k hk hc => ?_⟩
    have hv := role_tankValve hk
    by_cases hkn : k = n
    · subst hkn
      have off : ((t.releaseTank k).drive a).on = false := by
        rw [hv.1]
        exact drive_writeOff_self (u := t.setTank k { t.tank k with claim := none }) (hv.1 ▸ d.1)
      rw [off] at ha
      cases ha
    · have e : (t.releaseTank n).tank k = t.tank k := by
        have e1 : (t.releaseTank n).tank k = (t.setTank n { t.tank n with claim := none }).tank k := by
          unfold State.releaseTank State.writePoint
          dsimp only
          split
          · rfl
          · split
            · rfl
            · split <;> rfl
        rw [e1, tank_setTank, if_neg (by omega)]
      exact d.2.2 k hk (e ▸ hc)
  · have e := g.tanks k
    rw [tank_setTank] at e
    split at e
    · rename_i hk
      have x : t.tank k = t.tank n := by simp only [State.tank, hk.1]
      rw [x]
      exact e
    · exact e

theorem Work.releaseClaims (h : Work s t) (id : Nat) : Work s (t.releaseClaims id) := by
  refine h.foldlMem _ fun u x hx g => g.releaseTank x ?_
  simp only [State.claimedFor, numbers, List.mem_filter, List.mem_map, List.mem_range] at hx
  obtain ⟨⟨k, _, rfl⟩, _⟩ := hx
  omega

/-! ## Arbiter -/

theorem Work.enterPhase (h : Work s t) (m : MoverId) (ph : Phase) : Work s (t.enterPhase m ph) := h.setMover m _ (by rfl)

theorem Work.enterStop (h : Work s t) (m : MoverId) (r : StopReason) (o : Option TransferOutcome) :
    Work s (t.enterStop m r o) := by
  unfold State.enterStop
  split
  · exact h.setMover m _ (by rfl)
  · split
    · exact (h.enterPhase _ _).writePoints _ _
    · exact (h.enterPhase _ _).writePoint _ _

theorem Work.markGaugeDue (h : Work s t) (m : MoverId) : Work s (t.markGaugeDue m) := by
  unfold State.markGaugeDue
  split
  · split
    · exact h.setMover m _ (by rfl)
    · exact h
  · exact h

theorem Work.enterLining (h : Work s t) (m : MoverId) : Work s (t.enterLining m) := by
  unfold State.enterLining
  split
  · exact h
  · rename_i x _
    dsimp only
    generalize (if x.reverify = true then t.examine x else x) = y
    have g := fun x f => (h.updTransfer x f).enterPhase m .lining
    split
    · exact (g _ _).enterStop _ _ _
    · exact ((g _ _).writePoints _ _).markGaugeDue _

theorem Work.startFill (h : Work s t) (m : MoverId) : Work s (t.startFill m) := by
  unfold State.startFill
  split
  · exact h
  · split
    · exact h.fillStart _
    · exact h
    · exact h

theorem Work.enterStarting (h : Work s t) (m : MoverId) : Work s (t.enterStarting m) :=
  ((h.enterPhase _ _).writePoint _ _).startFill _

theorem Work.takeFlow (h : Work s t) (m : MoverId) : Work s (t.takeFlow m) := h.setMover m _ (by rfl)

theorem Work.enterRunning (h : Work s t) (m : MoverId) : Work s (t.enterRunning m) := (h.enterPhase _ _).takeFlow _

theorem Work.resumeRunning (h : Work s t) (m : MoverId) (n : Nat) : Work s (t.resumeRunning m n) :=
  ((h.setMover m { t.mover m with phase := .running, gaugeDue := false } (by rfl)).writePoint _ _).takeFlow _

theorem Work.enterSwitching (h : Work s t) (m : MoverId) (x : Transfer) (n : Nat) :
    Work s (t.enterSwitching m x n) := by
  unfold State.enterSwitching
  refine Work.markGaugeDue (Work.startFill ?_ _) _
  have g := (h.updTransfer x.id fun y => { y with active := n }).setMover m
    { (t.updTransfer x.id fun y => { y with active := n }).mover m with
      phase := .switching (x.activeTank.getD 0), flow := none, gaugeDue := false } (by rfl)
  dsimp only
  split
  · exact g.writePoint _ _
  · exact g

theorem Work.enqueueNew (h : Work s t) (id : Nat) : Work s (t.enqueueNew id) := h.setTransfers _
theorem Work.enqueueReturned (h : Work s t) (id : Nat) : Work s (t.enqueueReturned id) := h.setTransfers _
theorem Work.dequeue (h : Work s t) (id : Nat) : Work s (t.dequeue id) := h.setTransfers _

theorem Work.takeSlot (h : Work s t) (m : MoverId) (id : Nat) : Work s (t.takeSlot m id) :=
  (h.setMover m _ (by rfl)).claimTanks _ _

theorem Work.assign (h : Work s t) (m : MoverId) (id : Nat) : Work s (t.assign m id) :=
  (((h.dequeue _).updTransfer _ _).takeSlot _ _).enterLining _

theorem Work.dropReservation (h : Work s t) (m : MoverId) : Work s (t.dropReservation m) := h.setTransfers _

theorem Work.reserve (h : Work s t) (id : Nat) (m : MoverId) : Work s (t.reserve id m) :=
  (h.updTransfer _ _).enterStop _ _ _

theorem Work.judgePending (h : Work s t) (id : Nat) : Work s (t.judgePending id) := by
  unfold State.judgePending
  split
  · exact h
  · split
    · exact h
    · split
      · split
        · exact h.assign _ _
        · exact h
      · split
        · exact h.reserve _ _
        · exact h

theorem Work.scan (h : Work s t) : Work s t.scan := h.foldl _ fun _ _ g => g.judgePending _

theorem Work.enrol (h : Work s t) (a : Admission) : Work s (t.enrol a) := (h.setTransfers _).enqueueNew _

theorem Work.admitTransfer (h : Work s t) (a : Admission) (scans : Bool) : Work s (t.admitTransfer a scans) := by
  unfold State.admitTransfer
  split
  · exact (h.enrol a).scan
  · exact h.enrol a

theorem Work.askCorrection (h : Work s t) (i : Nat) (sign : Sign) : Work s (t.askCorrection i sign) := by
  unfold State.askCorrection
  split
  · exact h
  · split
    · exact h.raise _
    · split
      · exact h.raise _
      · split
        · exact h
        · split
          · exact h.raise _
          · split
            · exact h.raise _
            · exact h.admitTransfer _ _

/-! ## Pour plan -/

theorem Work.judgeReady (h : Work s t) (id : Nat) : Work s (t.judgeReady id) := by
  unfold State.judgeReady
  split
  · exact h
  · split
    · exact h.updStep _ _
    · exact h

theorem Work.judgePairing (h : Work s t) (scans : Bool) (id : Nat) : Work s (t.judgePairing scans id) := by
  unfold State.judgePairing
  split
  · exact h
  · split
    · exact ((h.updStep _ _).admitTransfer _ _).judgeReady _
    · exact h

theorem Work.pairWindow (h : Work s t) (scans : Bool) : Work s (t.pairWindow scans) :=
  h.foldl _ fun _ _ g => g.judgePairing _ _

theorem Work.judgeWindow (h : Work s t) : Work s t.judgeWindow :=
  (((h.setPour { t.pour with
    steps := t.pour.steps.map fun x =>
      if (t.window.any fun i => decide (i = x.id)) || decide (x.state ≠ .ready) then x else { x with state := .planned } }
    rfl).pairWindow true).foldl _ fun _ _ g => g.judgeReady _)

theorem Work.noticeFreed (h : Work s t) (id : Nat) (o : TransferOutcome) : Work s (t.noticeFreed id o) := h.setPour _ (by rfl)

theorem Work.freeRecord (h : Work s t) (id : Nat) : Work s (t.freeRecord id) := (h.setTransfers _).dequeue _

theorem Work.freeAndTell (h : Work s t) (id : Nat) (o : TransferOutcome) : Work s (t.freeAndTell id o) :=
  ((h.freeRecord _).noticeFreed _ _).pairWindow _

theorem Work.withdrawPrediction (h : Work s t) : Work s t.withdrawPrediction := by
  unfold State.withdrawPrediction
  split
  · exact h
  · exact h.setCond _ (by rfl)

theorem Work.endClearance (h : Work s t) (l : Line) : Work s (t.endClearance l) := by
  unfold State.endClearance
  split
  · exact h
  · exact ((h.setPour _ (by rfl)).withdrawPrediction).shoreReply _

theorem Work.endClearanceHold (h : Work s t) (cause : String) : Work s (t.endClearanceHold cause) := by
  unfold State.endClearanceHold
  split
  · exact h
  · exact h.endClearance _

theorem Work.holdStep (h : Work s t) (id : Nat) (cause : HoldCause) : Work s (t.holdStep id cause) :=
  ((h.updStep _ _).pourMessage _ _).raise _

theorem Work.stopGrant (h : Work s t) : Work s t.stopGrant := h.setPour _ (by rfl)

theorem Work.blockStep (h : Work s t) (cause : HoldCause) (x : PourStep) : Work s (t.blockStep cause x) := by
  unfold State.blockStep
  split
  · exact ((h.updStep _ _).stopGrant).pourMessage _ _
  · exact h.holdStep _ _
  · exact h
  · exact h
  · exact h

theorem Work.block (h : Work s t) (cause : HoldCause) : Work s (t.block cause) :=
  (h.foldl _ fun _ _ g => g.blockStep _ _).endClearanceHold _

theorem Work.haltStep (h : Work s t) (x : PourStep) : Work s (t.haltStep x) := by
  unfold State.haltStep
  split
  · exact h.stopGrant.holdStep _ _
  · exact h.holdStep _ _
  · exact h
  · exact h
  · exact h

theorem Work.haltPour (h : Work s t) : Work s t.haltPour :=
  (h.foldl _ fun _ _ g => g.haltStep _).endClearanceHold _

theorem Work.releaseStep (h : Work s t) (x : PourStep) : Work s (t.releaseStep x) := by
  unfold State.releaseStep
  split
  · exact (h.updStep _ _).pourMessage _ _
  · exact h

theorem Work.judgeRelease (h : Work s t) : Work s t.judgeRelease := by
  unfold State.judgeRelease
  split
  · exact h.foldl _ fun _ _ g => g.releaseStep _
  · exact h

theorem Work.commitVolumes (h : Work s t) : Work s t.commitVolumes := h.setPour _ (by rfl)

theorem Work.pourCommit (h : Work s t) : Work s t.pourCommit := h.commitVolumes.foldl _ fun _ _ g => g.judgeReady _

/-! ## Faults -/

theorem Work.haltSlots (h : Work s t) (m : MoverId) : Work s (t.haltSlots m) := h.setMover m _ (by rfl)

theorem Work.haltTransfers (h : Work s t) : Work s t.haltTransfers := by
  unfold State.haltTransfers
  dsimp only
  refine Work.foldl _ (fun _ _ g => g.noticeFreed _ _) (Work.setTransfers (Work.foldl _ (fun _ _ g => g.haltSlots _)
    (h.foldlMem _ fun u n hn g => ?_)) _)
  split
  · refine g.releaseTank _ ?_
    simp only [numbers, List.mem_map, List.mem_range] at hn
    obtain ⟨k, _, rfl⟩ := hn
    omega
  · exact g

theorem Work.haltMover (h : Work s t) (m : MoverId) : Work s (t.haltMover m) := by
  unfold State.haltMover
  dsimp only
  split
  · exact h.setMover m _ (by rfl)
  · exact (h.setMover m _ (by rfl)).setMoverCause _ _
  · exact (h.setMover m _ (by rfl)).setMoverCause _ _

/-- After points are written OFF one by one, none of them is ON, and no other has turned ON. -/
theorem drive_writeOffs (points : List (Nat × Role)) (u : State) (a : Nat)
    (h : ((points.foldl (fun s q => s.writePoint q.1 false) u).drive a).on = true) :
    (u.drive a).on = true ∧ ∀ q ∈ points, q.1 = a → (roleOf u.parts a).isDrive = false := by
  induction points generalizing u with
  | nil => exact ⟨h, by simp⟩
  | cons p rest ih =>
    have g := ih (u.writePoint p.1 false) h
    have e : (u.writePoint p.1 false).parts = u.parts := ((Work.refl u).writePoint p.1 false).parts
    refine ⟨drive_writeOff g.1, fun q hq hqa => ?_⟩
    rcases List.mem_cons.1 hq with hq | hq
    · subst hq
      by_contra hr
      have hr' : (roleOf u.parts a).isDrive = true := by simpa using hr
      rw [← hqa] at hr' g
      rw [drive_writeOff_self hr'] at g
      exact absurd g.1 (by simp)
    · rw [← e]; exact g.2 q hq hqa

/-- A point below 64 with a drive role is a drive point. -/
theorem mem_drivePoints {p : Option Memory} {a : Nat} (ha : a < 64) (hr : (roleOf p a).isDrive = true) :
    (a, roleOf p a) ∈ drivePoints p := by
  simp only [drivePoints, List.mem_filter, List.mem_map, List.mem_range]
  exact ⟨⟨a, ha, rfl⟩, hr⟩

/-- A point that is commanded ON lies in the drive image. -/
theorem lt_of_on {u : State} {a : Nat} (h : (u.drive a).on = true) : a < 64 := by
  by_contra ha
  unfold State.drive at h
  rw [Vector.getElem?_eq_none (by omega)] at h
  exact absurd h (by simp)

/-- With only drive points ON, every point is OFF once all have been written OFF (R26). -/
theorem allOff_writeAllOff {u : State} (h : ∀ a, (u.drive a).on = true → (roleOf u.parts a).isDrive = true) (a : Nat) :
    (u.writeAllOff.drive a).on = false := by
  by_contra hn
  have hon : (u.writeAllOff.drive a).on = true := by simpa using hn
  have g := drive_writeOffs (drivePoints u.parts) u a hon
  have hr := h a g.1
  have e := g.2 _ (mem_drivePoints (lt_of_on g.1) hr) rfl
  rw [hr] at e
  exact absurd e (by simp)

/-- The halt begins: the fault state leaves NORMAL and every drive point is written OFF, as one event (R26, R161). -/
theorem Work.haltBegins (h : Work s t) (f : FaultSupervisor) : Work s (t.setFaults f).writeAllOff := by
  have g : Work (t.setFaults f) (t.setFaults f).writeAllOff := (Work.refl _).writeAllOff
  refine h.trans ⟨g.frame, g.attention, fun hd a ha => ?_, g.shoreRx, g.slots, g.tanks, g.origins, g.holds, g.quiet⟩
  have off := allOff_writeAllOff (u := t.setFaults f) (fun b hb => (hd b hb).1) a
  rw [off] at ha
  exact absurd ha (by simp)

theorem Work.haltStop (h : Work s t) : Work s t.haltStop := by
  unfold State.haltStop
  exact (((Work.foldl _ (fun _ _ g => g.haltMover _) (h.haltBegins _).haltTransfers).haltPour).raise _).setFaults _ (by exact id)

theorem Work.addCause (h : Work s t) (c : Cause) : Work s (t.addCause c) := by
  unfold State.addCause
  split
  · exact h
  · exact h.setFaults _ (by exact id)

theorem Work.class1 (h : Work s t) (c : Cause) : Work s (t.class1 c) := by
  unfold State.class1
  split
  · exact (h.setFaults _ (by exact id)).haltStop
  · split
    · exact h
    · exact (h.addCause _).raise _
  · split
    · exact h
    · exact (h.addCause _).raise _
  · exact h.addCause _

theorem Work.returnStack (h : Work s t) (m : MoverId) : Work s (t.returnStack m) :=
  (h.setMover m { t.mover m with stack := [] } rfl).foldl _ fun _ _ g => g.enqueueReturned _

theorem Work.faultStop (h : Work s t) (m : MoverId) : Work s (t.faultStop m) :=
  (((h.enterStop _ _ _).dropReservation _).returnStack _).scan

theorem Work.class2 (h : Work s t) (m : MoverId) (c : MoverCause) : Work s (t.class2 m c) := by
  unfold State.class2
  split
  · exact h.class1 _
  · exact ((h.setMoverCause _ _).raise _).faultStop _

/-! ## Movers -/

theorem Work.resume (h : Work s t) (m : MoverId) (id : Nat) : Work s (t.resume m id) := (h.takeSlot _ _).enterLining _

theorem Work.popTimes (n : Nat) (h : Work s t) (m : MoverId) : Work s (State.popTimes n t m) := by
  induction n generalizing t with
  | zero =>
    unfold State.popTimes
    split
    · exact (h.enterPhase _ _).setMover m _ (by rfl)
    · exact h
    · rename_i h0 _; exact absurd h0 (by simp)
  | succ n ih =>
    unfold State.popTimes
    split
    · exact (h.enterPhase _ _).setMover m _ (by rfl)
    · rename_i h0 _; exact absurd h0 (by simp)
    · rename_i hn _
      simp only [Nat.succ.injEq] at hn
      subst hn
      refine Work.ite _ ?_ ?_
      · exact Work.resume (h.setMover m _ (by rfl)) _ _
      · exact ih (Work.enqueueReturned (h.setMover m _ (by rfl)) _)

theorem Work.pop (h : Work s t) (m : MoverId) : Work s (t.pop m) := Work.popTimes _ (h.setMover m _ (by rfl)) m

theorem Work.leaveSlot (h : Work s t) (m : MoverId) (id : Nat) : Work s (t.leaveSlot m id) :=
  (h.setMover m { t.mover m with run := none } rfl).releaseClaims _

theorem Work.recordOutcome (h : Work s t) (m : MoverId) (id : Nat) (o : TransferOutcome) :
    Work s (t.recordOutcome m id o) := h.setMover m _ (by rfl)

theorem Work.askStrip (h : Work s t) (x : Transfer) : Work s (t.askStrip x) := by
  unfold State.askStrip
  dsimp only
  split
  · exact h
  · split
    · exact h.raise _
    · exact h.admitTransfer _ _

theorem Work.judgeReservation (h : Work s t) (m : MoverId) : Work s (t.judgeReservation m) := by
  unfold State.judgeReservation
  split
  · exact h.pop _
  · split
    · exact h.assign _ _
    · exact (h.dropReservation _).pop _

theorem Work.completeEnd (h : Work s t) (m : MoverId) (id : Nat) (o : TransferOutcome) :
    Work s (t.completeEnd m id o) := by
  unfold State.completeEnd
  dsimp only
  have g := (h.recordOutcome m id o).raise (.ended m)
  refine ((((((?_ : Work s _).freeRecord _).leaveSlot _ _).noticeFreed _ _).judgeReservation _).pairWindow _).scan
  split
  · split
    · exact g.askStrip _
    · exact g
  · exact g

theorem Work.completePreempt (h : Work s t) (m : MoverId) (id : Nat) : Work s (t.completePreempt m id) :=
  (((h.setMover m _ (by rfl)).leaveSlot _ _).judgeReservation _).scan

theorem Work.completeFault (h : Work s t) (m : MoverId) (id : Nat) : Work s (t.completeFault m id) :=
  (((((((h.recordOutcome _ _ _).freeRecord _).leaveSlot _ _).scan).noticeFreed _ _).pairWindow _).enterPhase _ _).scan

theorem Work.completeStop (h : Work s t) (m : MoverId) (r : StopReason) (o : Option TransferOutcome) :
    Work s (t.completeStop m r o) := by
  unfold State.completeStop
  split
  · split
    · exact Work.scan (h.enterPhase _ _)
    · exact h
  all_goals
    split
    · split
      · first | exact h.completeEnd _ _ _ | exact h.completePreempt _ _ | exact h.completeFault _ _
      · exact h
    · exact h

theorem Work.stopStep (h : Work s t) (m : MoverId) (r : StopReason) (o : Option TransferOutcome) (g : StopStage) :
    Work s (t.stopStep m r o g) := by
  unfold State.stopStep
  split
  · split
    · exact (h.setMover m _ (by rfl)).writePoints _ _
    · exact h
  · exact h.completeStop _ _ _

theorem Work.flowCheck (h : Work s t) (m : MoverId) (x : Transfer) : Work s (t.flowCheck m x) := by
  unfold State.flowCheck
  split
  · exact h
  · split
    · exact h.takeFlow _
    · split
      · exact h.class2 _ _
      · exact h

theorem Work.progressCheck (h : Work s t) (m : MoverId) : Work s (t.progressCheck m) := by
  unfold State.progressCheck
  split
  · exact h
  · split
    · exact h
    · split
      · dsimp only
        split
        · exact (h.updTransfer _ _).enterSwitching _ _ _
        · exact (h.updTransfer _ _).enterStop _ _ _
      · exact h.flowCheck _ _

theorem Work.moverStep (h : Work s t) (m : MoverId) : Work s (t.moverStep m) := by
  unfold State.moverStep
  split
  · exact h
  · exact h
  · unfold State.liningStep
    split
    · exact h
    · split
      · exact h.enterStarting _
      · exact h
  · unfold State.startingStep
    split
    · exact h.enterRunning _
    · exact h
  · exact h.progressCheck _
  · unfold State.switchingStep
    split
    · exact h
    · split
      · exact h.resumeRunning _ _
      · exact h
  · exact h.stopStep _ _ _ _

theorem Work.moverCommit (h : Work s t) (m : MoverId) (lost : Bool) (ds : List Disagreement) :
    Work s (t.moverCommit m lost ds) := by
  unfold State.moverCommit
  split
  · exact h.class2 _ _
  · exact h.moverStep _

/-! ## Margins -/

theorem Work.raiseGraded (h : Work s t) (g : Graded) : Work s (t.raiseGraded g) := by
  unfold State.raiseGraded
  split
  · exact h.raise _
  · split
    · split <;> first | exact h.raise _ | exact h
    · exact h

theorem Work.tellBlocking (h : Work s t) (gs : List Graded) : Work s (t.tellBlocking gs) := by
  unfold State.tellBlocking
  dsimp only
  split
  · split
    · exact h.judgeRelease
    · exact h
  · split <;> exact h.block _

theorem Work.askGraded (h : Work s t) (g : Graded) : Work s (t.askGraded g) := by
  unfold State.askGraded
  split
  · exact h.askCorrection _ _
  · exact h

theorem Work.handBreach (h : Work s t) (g : Graded) : Work s (t.handBreach g) := by
  unfold State.handBreach
  split
  · exact h.class1 _
  · exact h

theorem Work.relievePending (h : Work s t) (id : Nat) : Work s (t.relievePending id) := by
  unfold State.relievePending
  split
  · exact h
  · exact Work.ite _ (h.freeAndTell _ _) h

theorem Work.relieveActive (h : Work s t) (m : MoverId) : Work s (t.relieveActive m) := by
  unfold State.relieveActive
  split
  · exact h
  · refine Work.ite _ ?_ h
    split
    · exact h
    · exact h
    · exact h
    · exact h.enterStop _ _ _

/-- A grading sets the watched entries, and the rest of it is work. -/
theorem Work.gradePublication (s : State) (c : Condition) :
    Work (s.setGraded (Vector.ofFn fun i : Fin 36 => s.gradeEntry c i.val) c.stamp) (s.gradePublication c) := by
  unfold State.gradePublication
  dsimp only
  exact Work.foldl _ (fun _ _ g => g.relieveActive _) (Work.foldl _ (fun _ _ g => g.relievePending _)
    (Work.foldl _ (fun _ _ g => g.handBreach _) (Work.foldl _ (fun _ _ g => g.askGraded _)
      (Work.tellBlocking (Work.foldl _ (fun _ _ g => g.raiseGraded _) (Work.refl _)) _))))

/-- The entries after a grading, and the stamp last graded (R119, R124). -/
theorem gradePublication_margins (s : State) (c : Condition) :
    (s.gradePublication c).margins.graded = some c.stamp ∧
      ∀ i, i < 36 → (s.gradePublication c).watched i = (s.gradeEntry c i).after := by
  have h := (Work.gradePublication s c).margins
  constructor
  · rw [h]
    rfl
  · intro i hi
    unfold State.watched
    rw [h]
    simp only [State.setGraded, margins_setMargins, Vector.getElem?_ofFn, hi, dif_pos, Option.getD_some]
    simp

theorem Work.retryCorrections (h : Work s t) : Work s t.retryCorrections := by
  refine h.foldl _ fun u i g => ?_
  split
  · exact g.askCorrection _ _
  · exact g

/-! ## Grading and the readers of a commit -/

theorem Work.gradePoint {x : State × List HandedPoint} (h : Work s x.1) (q : Nat × Role) :
    Work s (State.gradePoint x q).1 := by
  unfold State.gradePoint
  dsimp only
  split <;> exact h.setDrive _ _ fun hon => Or.inl hon

theorem Work.gradePoints (h : Work s t) : Work s t.gradePoints.1 := by
  unfold State.gradePoints
  have key : ∀ (l : List (Nat × Role)) (x : State × List HandedPoint), Work s x.1 →
      Work s (l.foldl State.gradePoint x).1 := by
    intro l
    induction l with
    | nil => exact fun _ g => g
    | cons q rest ih => exact fun x g => ih _ (Work.gradePoint g q)
  exact key _ _ h

theorem Work.noticePoint (h : Work s t) (p : HandedPoint) : Work s (t.noticePoint p) := by
  unfold State.noticePoint
  dsimp only
  split
  · exact h.raise _
  · exact h

theorem Work.clearGaugeDue (h : Work s t) : Work s t.clearGaugeDue := h.foldl _ fun _ m g => g.setMover m _ (by rfl)

theorem Work.confirmHalt (h : Work s t) : Work s t.confirmHalt := by
  unfold State.confirmHalt
  split
  · rename_i hc
    simp only [Bool.and_eq_true, decide_eq_true_eq] at hc
    exact h.setFaults _ fun _ => by rw [hc.1]; simp
  · exact h

/-! ## Retirement -/

theorem Work.retire (h : Work s t) (id : Nat) : Work s (t.retire id) := by
  unfold State.retire
  split
  · split
    · exact h
    · exact h.enterStop _ _ _
  · split
    · exact Work.freeAndTell (h.setMover _ _ (by rfl)) _ _
    · split
      · exact h.freeAndTell _ _
      · exact h

theorem Work.retirePaired (h : Work s t) (p : Pairing) (step : Nat) : Work s (t.retirePaired p step) := by
  unfold State.retirePaired
  split
  · split
    · exact h.retire _
    · exact h
  · exact h

end

end Sys2Proof.Machine
end

