-- ==== Sys2Proof/Laws/Arbiter.lean ====
section
/-! SUPPORT. What the single operations of the arbiter and the movers do to the records they touch, and that they leave
the others: mover and transfer records, claims, commands, origins, the queue, the first fault cause. -/

namespace Sys2Proof.Machine

section

variable (s : State) (m : MoverId)

/-! ## Mover records -/

theorem mover_setMover (k : MoverId) (x : Mover) : (s.setMover m x).mover k = if k = m then x else s.mover k := by
  cases m <;> cases k <;> rfl

theorem transfer_setMover (x : Mover) (id : Nat) : (s.setMover m x).transfer? id = s.transfer? id := by cases m <;> rfl

theorem tank_setMover (x : Mover) (n : Nat) : (s.setMover m x).tank n = s.tank n := by cases m <;> rfl

theorem drive_setMover (x : Mover) (a : Nat) : (s.setMover m x).drive a = s.drive a := by cases m <;> rfl

theorem mover_setLoop (l : FieldLoop) : (s.setLoop l).mover m = s.mover m := by cases m <;> rfl

/-! ## The transfer in the run slot -/

theorem runTransfer_eq : s.runTransfer m = (s.mover m).run.bind s.transfer? := by
  unfold State.runTransfer
  cases (s.mover m).run <;> rfl

theorem runTransfer_setLoop (l : FieldLoop) : (s.setLoop l).runTransfer m = s.runTransfer m := by cases m <;> rfl

theorem activeTank_setLoop (l : FieldLoop) : (s.setLoop l).activeTank m = s.activeTank m := by cases m <;> rfl

/-- The record with an id, after the records change and keep their ids. -/
theorem transfer_updTransfer (id k : Nat) (f : Transfer → Transfer) (hf : ∀ t, t.id = id → (f t).id = id) :
    (s.updTransfer id f).transfer? k = (s.transfer? k).map fun t => if t.id = id then f t else t := by
  simp only [State.transfer?, State.updTransfer, transfers_setTransfers]
  rw [List.find?_map]
  have e : ((fun t : Transfer => decide (t.id = k)) ∘ fun t => if t.id = id then f t else t) =
      fun t => decide (t.id = k) := by
    funext t
    by_cases h : t.id = id
    · simp [Function.comp, h, hf t h]
    · simp only [Function.comp, if_neg h]
  rw [e]

theorem transfer_id {id : Nat} {t : Transfer} (h : s.transfer? id = some t) : t.id = id := by
  simpa using List.find?_some h

/-- The transfer in the run slot, after it changes and keeps its id. -/
theorem runTransfer_updTransfer (t : Transfer) (f : Transfer → Transfer) (ht : s.runTransfer m = some t)
    (hf : ∀ y, y.id = t.id → (f y).id = t.id) : (s.updTransfer t.id f).runTransfer m = some (f t) := by
  rw [runTransfer_eq] at ht ⊢
  have e : (s.updTransfer t.id f).mover m = s.mover m := by cases m <;> rfl
  rw [e]
  cases hr : (s.mover m).run with
  | none => simp [hr] at ht
  | some id =>
    simp only [hr, Option.bind_some] at ht ⊢
    rw [transfer_updTransfer s t.id id f hf, ht]
    simp

/-! ## Claims and commands -/

theorem claimTanks_frame (l : List Nat) (id : Nat) :
    s.claimTanks l id = s.setTankTable { s.tankTable with tanks := (s.claimTanks l id).tankTable.tanks } := by
  induction l generalizing s with
  | nil => rfl
  | cons a l ih =>
    have e : s.claimTanks (a :: l) id = (s.setTank a { s.tank a with claim := some id }).claimTanks l id := rfl
    rw [e]
    conv => lhs; rw [ih]
    rfl

/-- The tanks named are claimed, and nothing else changes in a record (R53). -/
theorem claimTanks_tank (l : List Nat) (id : Nat) (hl : ∀ k ∈ l, 1 ≤ k) (n : Nat) (h1 : 1 ≤ n) (h2 : n ≤ 24) :
    (s.claimTanks l id).tank n = { s.tank n with claim := if n ∈ l then some id else (s.tank n).claim } := by
  induction l generalizing s with
  | nil => simp [State.claimTanks]
  | cons a l ih =>
    change ((s.setTank a { s.tank a with claim := some id }).claimTanks l id).tank n = _
    rw [ih _ fun k hk => hl k (List.mem_cons_of_mem _ hk), tank_setTank]
    have ha := hl a List.mem_cons_self
    by_cases h : n = a
    · subst h
      simp [show n - 1 < 24 by omega]
    · simp [show ¬ (a - 1 = n - 1 ∧ a - 1 < 24) by omega, h]

theorem writePoint_frame (a : Nat) (on : Bool) :
    s.writePoint a on = s.setLoop { s.loop with drive := (s.writePoint a on).loop.drive } := by
  unfold State.writePoint
  dsimp only
  split
  · rfl
  · split
    · rfl
    · split <;> rfl

theorem writePoints_frame (l : List Nat) (on : Bool) :
    s.writePoints l on = s.setLoop { s.loop with drive := (s.writePoints l on).loop.drive } := by
  induction l generalizing s with
  | nil => rfl
  | cons a l ih =>
    have e : s.writePoints (a :: l) on = (s.writePoint a on).writePoints l on := rfl
    rw [e]
    conv => lhs; rw [ih]
    rw [writePoint_frame]
    rfl

/-- A write of OFF (R24). -/
theorem writePoint_off (a b : Nat) :
    (s.writePoint a false).drive b =
      if a = b ∧ a < 64 ∧ (roleOf s.parts a).isDrive = true ∧ (s.drive a).on = true then ⟨false, .awaiting, none⟩
      else s.drive b := by
  unfold State.writePoint
  dsimp only
  by_cases hr : (roleOf s.parts a).isDrive = true
  · by_cases ho : (s.drive a).on = true
    · simp [hr, ho, drive_setDrive]
    · simp [hr, ho]
  · simp [hr]

theorem claimedFor_mem (id n : Nat) : n ∈ s.claimedFor id ↔ (1 ≤ n ∧ n ≤ 24) ∧ (s.tank n).claim = some id := by
  simp only [State.claimedFor, numbers, List.mem_filter, List.mem_map, List.mem_range, decide_eq_true_eq]
  constructor
  · rintro ⟨⟨k, hk, rfl⟩, h⟩
    exact ⟨by omega, h⟩
  · rintro ⟨h, g⟩
    exact ⟨⟨n - 1, by omega, by omega⟩, g⟩

/-- Tanks are released: their claims go, and their valves are written OFF (R25, R57). -/
theorem releaseTanks_facts (l : List Nat) (hl : ∀ k ∈ l, 1 ≤ k ∧ k ≤ 24) :
    let u := l.foldl State.releaseTank s
    u = (s.setTankTable { s.tankTable with tanks := u.tankTable.tanks }).setLoop { s.loop with drive := u.loop.drive } ∧
      (∀ n, 1 ≤ n → n ≤ 24 → u.tank n = { s.tank n with claim := if n ∈ l then none else (s.tank n).claim }) ∧
      ∀ a < 64, u.drive a =
        if (s.drive a).on = true ∧ (roleOf s.parts a).isDrive = true ∧ ∃ n ∈ l, tankValve s.parts n = a then
          ⟨false, .awaiting, none⟩
        else s.drive a := by
  induction l generalizing s with
  | nil => exact ⟨rfl, by simp, by simp⟩
  | cons k l ih =>
    have hk := hl k List.mem_cons_self
    have e := ih (s.releaseTank k) fun x hx => hl x (List.mem_cons_of_mem _ hx)
    dsimp only at e ⊢
    rw [List.foldl_cons]
    have hf : s.releaseTank k = (s.setTank k { s.tank k with claim := none }).setLoop
        { s.loop with drive := (s.releaseTank k).loop.drive } := by
      unfold State.releaseTank
      conv => lhs; rw [writePoint_frame]
      rfl
    have hp : (s.releaseTank k).parts = s.parts := by rw [hf]; rfl
    have ht : ∀ n, (s.releaseTank k).tank n = (s.setTank k { s.tank k with claim := none }).tank n := by
      intro n
      rw [hf]
      rfl
    have hd : ∀ b, (s.releaseTank k).drive b =
        if tankValve s.parts k = b ∧ tankValve s.parts k < 64 ∧ (roleOf s.parts (tankValve s.parts k)).isDrive = true ∧
            (s.drive (tankValve s.parts k)).on = true then ⟨false, .awaiting, none⟩
        else s.drive b := by
      intro b
      unfold State.releaseTank
      rw [writePoint_off]
      rfl
    refine ⟨?_, ?_, ?_⟩
    · conv => lhs; rw [e.1]
      rw [hf]
      rfl
    · intro n h1 h2
      rw [e.2.1 n h1 h2, ht, tank_setTank]
      by_cases h : n = k
      · subst h
        simp [show n - 1 < 24 by omega]
      · simp [show ¬ (k - 1 = n - 1 ∧ k - 1 < 24) by omega, h]
    · intro a ha
      rw [e.2.2 a ha, hp, hd]
      by_cases hv : tankValve s.parts k = a
      · subst hv
        by_cases h1 : (s.drive (tankValve s.parts k)).on = true <;>
          by_cases h2 : (roleOf s.parts (tankValve s.parts k)).isDrive = true <;> simp [h1, h2, ha]
      · simp [hv]

/-! ## Origins -/

theorem setOrigin_frame (n : Nat) (o : OriginEntry) :
    s.setOrigin n o = s.setTankTable (s.setOrigin n o).tankTable := by
  unfold State.setOrigin State.originChanged
  split
  · rfl
  · split <;> rfl

theorem fillStart_frame (n : Nat) : s.fillStart n = s.setTankTable (s.fillStart n).tankTable := setOrigin_frame s n _

theorem fillStart_runTransfer (n : Nat) : (s.fillStart n).runTransfer m = s.runTransfer m := by
  rw [fillStart_frame]
  cases m <;> rfl

end

/-! ## The queue -/

/-- A list whose ranks fall splits at a rank as its filters do. -/
theorem split_by_rank (l : List Nat) (r : Nat → Nat) (c : Nat) (h : l.Pairwise fun x y => r y ≤ r x) :
    (l.takeWhile fun x => decide (c ≤ r x)) = l.filter (fun x => decide (c ≤ r x)) ∧
      (l.dropWhile fun x => decide (c ≤ r x)) = l.filter fun x => decide (r x < c) := by
  induction l with
  | nil => exact ⟨rfl, rfl⟩
  | cons a l ih =>
    rw [List.pairwise_cons] at h
    have ih := ih h.2
    by_cases ha : c ≤ r a
    · simp [ha, show ¬ r a < c by omega, ih]
    · have h' : r a < c := by omega
      simp only [List.takeWhile_cons, ha, List.dropWhile_cons, List.filter_cons, h', decide_false, decide_true,
        Bool.false_eq_true, if_false, if_true]
      refine ⟨(List.filter_eq_nil_iff.2 fun x hx => ?_).symm, congrArg _ (List.filter_eq_self.2 fun x hx => ?_).symm⟩
      · have := h.1 x hx
        simp only [decide_eq_true_eq]
        omega
      · have := h.1 x hx
        simp only [decide_eq_true_eq]
        omega

/-! ## Fault causes -/

/-- The first cause of a list is one of it, of the least order (R78). -/
theorem firstCause_spec (l : List (Nat × MoverCause)) :
    match firstCause l with
    | none => l = []
    | some d => d ∈ l ∧ ∀ e ∈ l, d.1 ≤ e.1 := by
  induction l with
  | nil => simp [firstCause]
  | cons c rest ih =>
    unfold firstCause
    cases h : firstCause rest with
    | none =>
      rw [h] at ih
      simp only at ih
      subst ih
      simp
    | some d =>
      rw [h] at ih
      dsimp only at ih ⊢
      by_cases hd : d.1 < c.1
      · rw [if_pos hd]
        refine ⟨List.mem_cons_of_mem _ ih.1, fun e he => ?_⟩
        rcases List.mem_cons.1 he with rfl | he
        · omega
        · exact ih.2 e he
      · rw [if_neg hd]
        refine ⟨List.mem_cons_self, fun e he => ?_⟩
        rcases List.mem_cons.1 he with rfl | he
        · exact Nat.le_refl _
        · have := ih.2 e he
          omega

end Sys2Proof.Machine
end

