-- ==== Sys2Proof/Laws/Memory.lean ====
section
/-! SUPPORT. The addressed store of the particulars: reading after writing, and the canonical form kept by every
operation. -/

namespace Sys2Proof.Machine

/-- A canonical store above a bound is one above any lower bound. -/
theorem wfFrom_mono {m : Memory} {a b : Nat} (hab : a ≤ b) (h : Memory.wfFrom b m = true) :
    Memory.wfFrom a m = true := by
  cases m with
  | nil => rfl
  | cons q rest =>
    simp only [Memory.wfFrom, Bool.and_eq_true, decide_eq_true_eq] at h ⊢
    exact ⟨⟨by omega, h.1.2⟩, h.2⟩

/-- An address below the bound of a canonical store reads 0. -/
theorem read_below {m : Memory} {lo a : Nat} (h : Memory.wfFrom lo m = true) (ha : a < lo) : m.read a = 0 := by
  induction m generalizing lo with
  | nil => rfl
  | cons q rest ih =>
    simp only [Memory.wfFrom, Bool.and_eq_true, decide_eq_true_eq] at h
    simp only [Memory.read]
    rw [if_neg (by omega)]
    exact ih h.2 (by omega)

/-- A write keeps the canonical form above a bound that the address respects. -/
theorem wfFrom_write {m : Memory} {lo a : Nat} (v : Int) (h : Memory.wfFrom lo m = true) (ha : lo ≤ a) :
    Memory.wfFrom lo (m.write a v) = true := by
  induction m generalizing lo with
  | nil =>
    simp only [Memory.write]
    split <;> simp_all [Memory.wfFrom]
  | cons q rest ih =>
    obtain ⟨k, w⟩ := q
    simp only [Memory.wfFrom, Bool.and_eq_true, decide_eq_true_eq] at h
    simp only [Memory.write]
    split
    · split <;> simp_all [Memory.wfFrom]
    · split
      · split
        · exact wfFrom_mono (by omega) h.2
        · simp_all [Memory.wfFrom]
      · simp only [Memory.wfFrom, Bool.and_eq_true, decide_eq_true_eq]
        exact ⟨h.1, ih h.2 (by omega)⟩

/-- A write keeps the canonical form. -/
theorem wf_write {m : Memory} (h : m.wf = true) (a : Nat) (v : Int) : (m.write a v).wf = true :=
  wfFrom_write v h (Nat.zero_le a)

/-- Reading after a write of a canonical store. -/
theorem read_write_from {m : Memory} {lo a : Nat} (v : Int) (h : Memory.wfFrom lo m = true) (b : Nat) :
    (m.write a v).read b = if b = a then v else m.read b := by
  induction m generalizing lo with
  | nil =>
    simp only [Memory.write]
    by_cases hb : b = a
    · subst hb
      split
      · rename_i hv
        simp [Memory.read, hv]
      · simp [Memory.read]
    · have hb' : a ≠ b := fun h => hb h.symm
      split <;> simp [Memory.read, hb']
  | cons q rest ih =>
    obtain ⟨k, w⟩ := q
    simp only [Memory.wfFrom, Bool.and_eq_true, decide_eq_true_eq] at h
    simp only [Memory.write]
    split
    · rename_i hak
      split
      · rename_i hv
        by_cases hb : b = a
        · subst hb
          simp only [Memory.read, if_true]
          rw [if_neg (by omega), read_below h.2 (by omega), hv]
        · simp [hb]
      · by_cases hb : b = a
        · simp [Memory.read, hb]
        · simp only [Memory.read, hb, if_false]
          rw [if_neg (fun h => hb h.symm)]
    · split
      · rename_i hk
        subst hk
        by_cases hb : b = a
        · subst hb
          split
          · rename_i hv
            simp [read_below h.2 (Nat.lt_succ_self b), hv]
          · simp [Memory.read]
        · have hb' : a ≠ b := fun h => hb h.symm
          split <;> simp [Memory.read, hb']
      · rename_i hk
        simp only [Memory.read]
        by_cases hb : k = b
        · subst hb
          rw [if_pos rfl, if_neg (fun h => hk h.symm), if_pos rfl]
        · rw [if_neg hb, if_neg hb]
          exact ih h.2

/-- Reading after a write. -/
theorem read_write {m : Memory} (h : m.wf = true) (a b : Nat) (v : Int) :
    (m.write a v).read b = if b = a then v else m.read b := read_write_from v h b

/-- Writing a run of values keeps the canonical form. -/
theorem wf_writeAll {m : Memory} (h : m.wf = true) (a : Nat) (vs : List Int) : (m.writeAll a vs).wf = true := by
  induction vs generalizing m a with
  | nil => exact h
  | cons v vs ih => exact ih (wf_write h a v) (a + 1)

/-- Reading after a run of values is written. -/
theorem read_writeAll {m : Memory} (h : m.wf = true) (a : Nat) (vs : List Int) (b : Nat) :
    (m.writeAll a vs).read b = if a ≤ b ∧ b < a + vs.length then vs.getD (b - a) 0 else m.read b := by
  induction vs generalizing m a with
  | nil =>
    rw [if_neg (by simp only [List.length_nil]; omega)]
    rfl
  | cons v vs ih =>
    simp only [Memory.writeAll, List.length_cons]
    rw [ih (wf_write h a v) (a + 1), read_write h]
    by_cases h1 : b = a
    · subst h1
      rw [if_neg (by omega), if_pos rfl, if_pos (by omega)]
      simp
    · by_cases h2 : a + 1 ≤ b ∧ b < a + 1 + vs.length
      · rw [if_pos h2, if_pos (by omega)]
        obtain ⟨k, hk⟩ : ∃ k, b - a = k + 1 := ⟨b - a - 1, by omega⟩
        rw [hk, show b - (a + 1) = k by omega]
        simp
      · rw [if_neg h2, if_neg h1, if_neg (by omega)]

/-- The addresses that a write lists are those listed before and the one written. -/
theorem mem_write {m : Memory} {a : Nat} {v : Int} {q : Nat × Int} (h : q ∈ m.write a v) : q ∈ m ∨ q.1 = a := by
  induction m with
  | nil =>
    simp only [Memory.write] at h
    split at h <;> simp_all
  | cons r rest ih =>
    obtain ⟨k, w⟩ := r
    simp only [Memory.write] at h
    split at h
    · split at h
      · exact Or.inl h
      · rcases List.mem_cons.1 h with h | h
        · exact Or.inr (by rw [h])
        · exact Or.inl h
    · split at h
      · split at h
        · exact Or.inl (List.mem_cons_of_mem _ h)
        · rcases List.mem_cons.1 h with h | h
          · exact Or.inr (by rw [h])
          · exact Or.inl (List.mem_cons_of_mem _ h)
      · rcases List.mem_cons.1 h with h | h
        · exact Or.inl (by rw [h]; exact List.mem_cons_self)
        · rcases ih h with h | h
          · exact Or.inl (List.mem_cons_of_mem _ h)
          · exact Or.inr h

/-- The empty block is good. -/
theorem good_nil : Memory.good [] := ⟨rfl, by simp⟩

/-- Writing values within the block keeps it good. -/
theorem good_writeAll {m : Memory} (h : m.good) (a : Nat) (vs : List Int) (hv : a + vs.length ≤ Config.blockWords) :
    (m.writeAll a vs).good := by
  induction vs generalizing m a with
  | nil => exact h
  | cons v vs ih =>
    simp only [List.length_cons] at hv
    refine ih (m := m.write a v) ⟨wf_write h.1 a v, fun q hq => ?_⟩ (a + 1) (by omega)
    rcases mem_write hq with hq | hq
    · exact h.2 q hq
    · omega

/-- A list of words with rising addresses and no word 0 is canonical. -/
theorem wfFrom_of_range (f : Nat → Int) (lo n : Nat) :
    Memory.wfFrom lo (((List.range' lo n).map fun a => (a, f a)).filter fun q => decide (q.2 ≠ 0)) = true := by
  induction n generalizing lo with
  | zero => rfl
  | succ n ih =>
    simp only [List.range'_succ, List.map_cons]
    rw [List.filter_cons]
    split
    · rename_i h
      simp only [Memory.wfFrom, Bool.and_eq_true, decide_eq_true_eq]
      exact ⟨⟨Nat.le_refl _, by simpa using h⟩, ih (lo + 1)⟩
    · exact wfFrom_mono (Nat.le_succ lo) (ih (lo + 1))

/-- The words read after a cut-off write are a good block. -/
theorem good_cutBlock (k : Nat) : (cutBlock k).good := by
  refine ⟨?_, fun q hq => ?_⟩
  · have h := wfFrom_of_range (fun a => clampWord (Config.cutWord k a)) 0 Config.blockWords
    rw [← List.range_eq_range'] at h
    exact h
  · simp only [cutBlock, List.mem_filter, List.mem_map, List.mem_range] at hq
    obtain ⟨⟨a, ha, rfl⟩, -⟩ := hq
    exact ha

end Sys2Proof.Machine
end

