-- ==== Sys2Proof/Laws/Requests.lean ====
section
/-! SUPPORT. What a request does once the link takes it: one refusal rung a check, then the effect. -/

namespace Sys2Proof.Machine

/-- A request that the console takes has its turn. -/
theorem consoleTurn_of_takes {s : State} {v : Verb} {ps : List Int} (h : ConsoleTakes s v ps) :
    s.consoleTurn v ps = .taken := by
  obtain ⟨h1, h2, h3 | ⟨h3, h4, h5, h6⟩⟩ := h
  · simp [State.consoleTurn, State.running, h1, h2, h3, turnOf]
  · simp [State.consoleTurn, State.running, State.consoleRoom, h1, h2, h3, h4, h5, h6, turnOf, Config.replyCount]

/-- A request that the shore link takes has its turn. -/
theorem shoreTurn_of_takes {s : State} {v : Verb} {ps : List Int} (h : ShoreTakes s v ps) :
    s.shoreTurn v ps = .taken := by
  obtain ⟨h1, h2, h3 | ⟨h3, h4, h5⟩⟩ := h
  · simp [State.shoreTurn, State.running, h1, h2, h3, turnOf]
  · simp [State.shoreTurn, State.running, State.shoreRoom, h1, h2, h3, h4, h5, turnOf]

/-- The first check of a console request that is taken: its refusal, or the checks that follow. -/
theorem consoleRequest_cons {s : State} {v : Verb} {ps : List Int} (h : ConsoleTakes s v ps) (failed : Bool)
    (c : RefCode) (rest : List (Bool × RefCode)) (take : State → State) :
    s.consoleRequest v ps ((failed, c) :: rest) take =
      if failed then s.refuse v c else s.consoleRequest v ps rest take := by
  cases failed <;> simp [State.consoleRequest, consoleTurn_of_takes h, firstRefusal]

/-- A console request that is taken and passes its checks has its effect. -/
theorem consoleRequest_nil {s : State} {v : Verb} {ps : List Int} (h : ConsoleTakes s v ps) (take : State → State) :
    s.consoleRequest v ps [] take = take s := by
  simp [State.consoleRequest, consoleTurn_of_takes h, firstRefusal]

/-- The first check of a shore request that is taken. -/
theorem shoreRequest_cons {s : State} {v : Verb} {ps : List Int} (h : ShoreTakes s v ps) (failed : Bool)
    (c : RefCode) (rest : List (Bool × RefCode)) (take : State → State) :
    s.shoreRequest v ps ((failed, c) :: rest) take =
      if failed then s.shoreRefuse v c else s.shoreRequest v ps rest take := by
  cases failed <;> simp [State.shoreRequest, shoreTurn_of_takes h, firstRefusal]

/-- A shore request that is taken and passes its checks has its effect. -/
theorem shoreRequest_nil {s : State} {v : Verb} {ps : List Int} (h : ShoreTakes s v ps) (take : State → State) :
    s.shoreRequest v ps [] take = take s := by
  simp [State.shoreRequest, shoreTurn_of_takes h, firstRefusal]

/-- A rung of a ladder of checks, with the check read as a proposition. -/
theorem rung {α : Type} {b : Bool} {P : Prop} [Decidable P] {x y z : α} (h : b = true ↔ P) (rest : ¬ P → y = z) :
    (if b = true then x else y) = (if P then x else z) := by
  by_cases hp : P
  · simp [hp, h.2 hp]
  · have hb : b = false := by cases b <;> simp_all
    simp [hp, hb, rest hp]

/-- What a console request can do at all: nothing, the LOST refusal, the refusal of a failed check, or its effect after
every check has passed. -/
theorem consoleRequest_cases (s : State) (v : Verb) (ps : List Int) (checks : List (Bool × RefCode))
    (take : State → State) :
    s.consoleRequest v ps checks take = s ∨
      (s.consoleTurn v ps = .lost ∧ s.consoleRequest v ps checks take =
        (s.setConsole { s.console with rx := { s.console.rx with gap := false } }).refuse v .lost) ∨
      (s.consoleTurn v ps = .taken ∧ ∃ c, s.consoleRequest v ps checks take = s.refuse v c) ∨
      (s.consoleTurn v ps = .taken ∧ firstRefusal checks = none ∧ s.consoleRequest v ps checks take = take s) := by
  unfold State.consoleRequest
  cases s.consoleTurn v ps <;> cases h : firstRefusal checks <;> simp

/-- What a shore request can do at all. -/
theorem shoreRequest_cases (s : State) (v : Verb) (ps : List Int) (checks : List (Bool × RefCode))
    (take : State → State) :
    s.shoreRequest v ps checks take = s ∨
      (s.shoreTurn v ps = .lost ∧ s.shoreRequest v ps checks take =
        (s.setShore { s.shore with rx := { s.shore.rx with gap := false } }).shoreRefuse v .lost) ∨
      (s.shoreTurn v ps = .taken ∧ ∃ c, s.shoreRequest v ps checks take = s.shoreRefuse v c) ∨
      (s.shoreTurn v ps = .taken ∧ firstRefusal checks = none ∧ s.shoreRequest v ps checks take = take s) := by
  unfold State.shoreRequest
  cases s.shoreTurn v ps <;> cases h : firstRefusal checks <;> simp

/-- A console request has its turn only with room in the reply queue. -/
theorem consoleTurn_room {s : State} {v : Verb} {ps : List Int} (h : s.consoleTurn v ps ≠ .notTaken) :
    s.modes.condition = .running ∧ s.particulars.writing = none ∧
      (s.console.rx.inHand ≠ none ∨ s.console.replies.length < Config.replyCount) := by
  unfold State.consoleTurn State.running turnOf State.consoleRoom State.running at h
  split at h
  · rename_i hr
    simp at hr
    cases hi : s.console.rx.inHand with
    | some q => exact ⟨hr.1, by cases hw : s.particulars.writing <;> simp_all, Or.inl (by simp)⟩
    | none =>
      simp only [hi] at h
      split at h
      · rename_i hm
        simp at hm
        exact ⟨hr.1, by cases hw : s.particulars.writing <;> simp_all, Or.inr hm.1.1.2⟩
      · exact absurd rfl h
  · exact absurd rfl h

end Sys2Proof.Machine
end

