-- ==== Sys2Proof/Laws/Resets.lean ====
section
/-! SUPPORT. What the resets do, field by field: the clearing of the volatile records (`clearVolatile`, `resetTo`,
`clearPower`), the completion and the cutting off of writes in progress, a commit of the particulars, and the end of a
start. Later proofs cite these and unfold none of them. -/

namespace Sys2Proof.Machine

section

variable (s : State) (c : ResetCause) (k : RunCondition)

/-! ## The clearing -/

@[simp] theorem now_clearVolatile : s.clearVolatile.now = s.now := rfl
@[simp] theorem freeCount_clearVolatile : s.clearVolatile.freeCount = s.freeCount := rfl
@[simp] theorem sent_clearVolatile : s.clearVolatile.sent = s.sent := rfl
@[simp] theorem modes_clearVolatile : s.clearVolatile.modes = s.modes := rfl
@[simp] theorem particulars_clearVolatile : s.clearVolatile.particulars = s.particulars := rfl
@[simp] theorem settings_clearVolatile : s.clearVolatile.settings = s.settings := rfl
@[simp] theorem attention_clearVolatile : s.clearVolatile.attention = ⟨[], 0⟩ := rfl
@[simp] theorem loop_clearVolatile : s.clearVolatile.loop = FieldLoop.blank := rfl
@[simp] theorem tankTable_clearVolatile : s.clearVolatile.tankTable = { s.tankTable with tanks := tanksFrom s.tankTable.store, writing := none, rewrite := false } := rfl
@[simp] theorem transfers_clearVolatile : s.clearVolatile.transfers = ⟨[], [], 0⟩ := rfl
@[simp] theorem movers_clearVolatile : s.clearVolatile.movers = Movers.blank s.now := rfl
@[simp] theorem cond_clearVolatile : s.clearVolatile.cond = { s.cond with
      stamp := 0, evaluation := none, again := false, request := none, prediction := none, published := none } := rfl
@[simp] theorem margins_clearVolatile : s.clearVolatile.margins = MarginMonitor.blank := rfl
@[simp] theorem pour_clearVolatile : s.clearVolatile.pour = { s.pour with steps := [], clearance := none, grantTimer := none } := rfl
@[simp] theorem faults_clearVolatile : s.clearVolatile.faults = s.faults := rfl
@[simp] theorem composer_clearVolatile : s.clearVolatile.composer = ⟨.idle, 0⟩ := rfl
@[simp] theorem console_clearVolatile : s.clearVolatile.console = ConsolePort.blank s.console.rate := rfl
@[simp] theorem shore_clearVolatile : s.clearVolatile.shore = ShorePort.blank s.shore.rate := rfl
@[simp] theorem pending_clearVolatile : s.clearVolatile.pending = s.pending := rfl

@[simp] theorem now_resetTo : (s.resetTo c k).now = s.now := rfl
@[simp] theorem freeCount_resetTo : (s.resetTo c k).freeCount = s.freeCount := rfl
@[simp] theorem sent_resetTo : (s.resetTo c k).sent = s.sent := rfl
@[simp] theorem modes_resetTo : (s.resetTo c k).modes = { s.modes with
      mode := .standby, exchangeArea := false, resetCause := c, condition := k, resetAsked := none } := rfl
@[simp] theorem particulars_resetTo : (s.resetTo c k).particulars = { s.particulars with inUse := none, edit := none } := rfl
@[simp] theorem settings_resetTo : (s.resetTo c k).settings = s.settings := rfl
@[simp] theorem attention_resetTo : (s.resetTo c k).attention = ⟨[], 0⟩ := rfl
@[simp] theorem loop_resetTo : (s.resetTo c k).loop = FieldLoop.blank := rfl
@[simp] theorem tankTable_resetTo : (s.resetTo c k).tankTable = { s.tankTable with tanks := tanksFrom s.tankTable.store, writing := none, rewrite := false } := rfl
@[simp] theorem transfers_resetTo : (s.resetTo c k).transfers = ⟨[], [], 0⟩ := rfl
@[simp] theorem movers_resetTo : (s.resetTo c k).movers = Movers.blank s.now := rfl
@[simp] theorem cond_resetTo : (s.resetTo c k).cond = { s.cond with
      stamp := 0, evaluation := none, again := false, request := none, prediction := none, published := none } := rfl
@[simp] theorem margins_resetTo : (s.resetTo c k).margins = MarginMonitor.blank := rfl
@[simp] theorem pour_resetTo : (s.resetTo c k).pour = { s.pour with steps := [], clearance := none, grantTimer := none } := rfl
@[simp] theorem faults_resetTo : (s.resetTo c k).faults = FaultSupervisor.blank := rfl
@[simp] theorem composer_resetTo : (s.resetTo c k).composer = ⟨.idle, 0⟩ := rfl
@[simp] theorem console_resetTo : (s.resetTo c k).console = ConsolePort.blank s.console.rate := rfl
@[simp] theorem shore_resetTo : (s.resetTo c k).shore = ShorePort.blank s.shore.rate := rfl
@[simp] theorem pending_resetTo : (s.resetTo c k).pending = s.pending := rfl

@[simp] theorem now_clearPower : s.clearPower.now = s.now := rfl
@[simp] theorem freeCount_clearPower : s.clearPower.freeCount = s.freeCount := rfl
@[simp] theorem sent_clearPower : s.clearPower.sent = s.sent := rfl
@[simp] theorem modes_clearPower : s.clearPower.modes = { s.modes with location := none } := rfl
@[simp] theorem particulars_clearPower : s.clearPower.particulars = s.particulars := rfl
@[simp] theorem settings_clearPower : s.clearPower.settings = s.settings := rfl
@[simp] theorem attention_clearPower : s.clearPower.attention = s.attention := rfl
@[simp] theorem loop_clearPower : s.clearPower.loop = s.loop := rfl
@[simp] theorem tankTable_clearPower : s.clearPower.tankTable = s.tankTable := rfl
@[simp] theorem transfers_clearPower : s.clearPower.transfers = s.transfers := rfl
@[simp] theorem movers_clearPower : s.clearPower.movers = s.movers := rfl
@[simp] theorem cond_clearPower : s.clearPower.cond = { s.cond with
      items := Vector.replicate 8 ⟨0, false⟩, berth := none, tide := ⟨.unset, 0, s.now⟩ } := rfl
@[simp] theorem margins_clearPower : s.clearPower.margins = s.margins := rfl
@[simp] theorem pour_clearPower : s.clearPower.pour = { s.pour with holds := Vector.replicate 9 ⟨0, false⟩ } := rfl
@[simp] theorem faults_clearPower : s.clearPower.faults = s.faults := rfl
@[simp] theorem composer_clearPower : s.clearPower.composer = s.composer := rfl
@[simp] theorem console_clearPower : s.clearPower.console = s.console := rfl
@[simp] theorem shore_clearPower : s.clearPower.shore = s.shore := rfl
@[simp] theorem pending_clearPower : s.clearPower.pending = s.pending := rfl

/-! ## Writes cut off by a loss of power (log 7) -/

theorem cutOriginWrite_eq : ∃ x n, s.cutOriginWrite = (s.setTankTable x).setFreeCount n ∧ x.writing = none ∧
    x.tanks = s.tankTable.tanks := by
  unfold State.cutOriginWrite
  rcases h : s.tankTable.writing with _ | copy
  · exact ⟨s.tankTable, s.freeCount, rfl, h, rfl⟩
  · exact ⟨_, _, rfl, rfl, rfl⟩

theorem cutSettingsSave_eq : ∃ x n, s.cutSettingsSave = (s.setSettings x).setFreeCount n ∧ x.saving = none ∧
    x.working = s.settings.working := by
  unfold State.cutSettingsSave
  rcases h : s.settings.saving with _ | record
  · exact ⟨s.settings, s.freeCount, rfl, h, rfl⟩
  · exact ⟨_, _, rfl, rfl, rfl⟩

theorem cutParticularsWrite_eq : ∃ x n, s.cutParticularsWrite = (s.setParticulars x).setFreeCount n ∧
    x.writing = none ∧ x.inUse = s.particulars.inUse ∧ x.edit = s.particulars.edit := by
  unfold State.cutParticularsWrite
  rcases h : s.particulars.writing with _ | block
  · exact ⟨s.particulars, s.freeCount, rfl, h, rfl, rfl⟩
  · refine ⟨_, _, rfl, ?_⟩
    split
    · exact ⟨rfl, rfl, rfl⟩
    · split <;> exact ⟨rfl, rfl, rfl⟩

/-- Cutting off every write in progress changes the three stores and uses free values, and no write is left. -/
theorem cutWrites_eq : ∃ a b p n,
    s.cutWrites = (((s.setTankTable a).setSettings b).setParticulars p).setFreeCount n ∧ a.writing = none ∧
      b.saving = none ∧ p.writing = none := by
  obtain ⟨a, i, ea, ha, -⟩ := cutOriginWrite_eq s
  obtain ⟨b, j, eb, hb, -⟩ := cutSettingsSave_eq s.cutOriginWrite
  obtain ⟨p, n, ep, hp, -⟩ := cutParticularsWrite_eq s.cutOriginWrite.cutSettingsSave
  refine ⟨a, b, p, n, ?_, ha, hb, hp⟩
  rw [State.cutWrites, ep, eb, ea]
  rfl

/-! ## A commit of the particulars, and writes that complete (R202, R17, R204) -/

theorem requestEvaluation_eq : ∃ q, s.requestEvaluation = s.setCond q ∧ q.berth = s.cond.berth ∧
    q.tide = s.cond.tide ∧ q.stamp = s.cond.stamp ∧ q.items = s.cond.items ∧ q.published = s.cond.published := by
  unfold State.requestEvaluation
  split
  · exact ⟨_, rfl, rfl, rfl, rfl, rfl, rfl⟩
  · exact ⟨_, rfl, rfl, rfl, rfl, rfl, rfl⟩

theorem massChange_eq : ∃ q, s.massChange = s.setCond q ∧ q.berth = s.cond.berth ∧ q.tide = s.cond.tide ∧
    q.stamp = s.cond.stamp + 1 ∧ q.items = s.cond.items ∧ q.published = s.cond.published := by
  obtain ⟨q, e, h1, h2, h3, h4, h5⟩ :=
    requestEvaluation_eq (s.setCond { s.cond with stamp := s.cond.stamp + 1 })
  refine ⟨q, ?_, h1, h2, h3, h4, h5⟩
  rw [State.massChange, e]
  rfl

theorem setTankTable_setTankTable (x y : TankTable) : (s.setTankTable x).setTankTable y = s.setTankTable y := rfl

/-- The rebuilding of the Tank Table changes the Tank Table alone, its tanks as R19 says. -/
theorem rebuildTanks_eq (old new : Option Memory) : ∃ a, s.rebuildTanks old new = s.setTankTable a ∧
    a.tanks = Vector.ofFn fun i : Fin 24 =>
      if keptNumber tankDefined old new (i.val + 1) then s.tankTable.tanks[i]
      else if tankDefined old (i.val + 1) || tankDefined new (i.val + 1) then TankLive.blank
      else s.tankTable.tanks[i] := by
  rw [State.rebuildTanks]
  split
  · rw [State.originChanged]
    split
    · exact ⟨_, setTankTable_setTankTable _ _ _, rfl⟩
    · exact ⟨_, setTankTable_setTankTable _ _ _, rfl⟩
  · exact ⟨_, rfl, rfl⟩

/-- The particulars after a commit of a block. -/
def committed (m : Memory) : ParticularsStore :=
  { s.particulars with inUse := some m, store := m, storeChecksum := m.checksum, storeBlank := false, writing := none }


/-! What each rebuilding leaves. -/

@[simp] theorem now_rebuildTanks (old new : Option Memory) : (s.rebuildTanks old new).now = s.now := by obtain ⟨a, e, -⟩ := rebuildTanks_eq s old new; simp only [e, now_setTankTable]
@[simp] theorem freeCount_rebuildTanks (old new : Option Memory) : (s.rebuildTanks old new).freeCount = s.freeCount := by obtain ⟨a, e, -⟩ := rebuildTanks_eq s old new; simp only [e, freeCount_setTankTable]
@[simp] theorem sent_rebuildTanks (old new : Option Memory) : (s.rebuildTanks old new).sent = s.sent := by obtain ⟨a, e, -⟩ := rebuildTanks_eq s old new; simp only [e, sent_setTankTable]
@[simp] theorem modes_rebuildTanks (old new : Option Memory) : (s.rebuildTanks old new).modes = s.modes := by obtain ⟨a, e, -⟩ := rebuildTanks_eq s old new; simp only [e, modes_setTankTable]
@[simp] theorem particulars_rebuildTanks (old new : Option Memory) : (s.rebuildTanks old new).particulars = s.particulars := by obtain ⟨a, e, -⟩ := rebuildTanks_eq s old new; simp only [e, particulars_setTankTable]
@[simp] theorem settings_rebuildTanks (old new : Option Memory) : (s.rebuildTanks old new).settings = s.settings := by obtain ⟨a, e, -⟩ := rebuildTanks_eq s old new; simp only [e, settings_setTankTable]
@[simp] theorem attention_rebuildTanks (old new : Option Memory) : (s.rebuildTanks old new).attention = s.attention := by obtain ⟨a, e, -⟩ := rebuildTanks_eq s old new; simp only [e, attention_setTankTable]
@[simp] theorem loop_rebuildTanks (old new : Option Memory) : (s.rebuildTanks old new).loop = s.loop := by obtain ⟨a, e, -⟩ := rebuildTanks_eq s old new; simp only [e, loop_setTankTable]
@[simp] theorem transfers_rebuildTanks (old new : Option Memory) : (s.rebuildTanks old new).transfers = s.transfers := by obtain ⟨a, e, -⟩ := rebuildTanks_eq s old new; simp only [e, transfers_setTankTable]
@[simp] theorem movers_rebuildTanks (old new : Option Memory) : (s.rebuildTanks old new).movers = s.movers := by obtain ⟨a, e, -⟩ := rebuildTanks_eq s old new; simp only [e, movers_setTankTable]
@[simp] theorem cond_rebuildTanks (old new : Option Memory) : (s.rebuildTanks old new).cond = s.cond := by obtain ⟨a, e, -⟩ := rebuildTanks_eq s old new; simp only [e, cond_setTankTable]
@[simp] theorem margins_rebuildTanks (old new : Option Memory) : (s.rebuildTanks old new).margins = s.margins := by obtain ⟨a, e, -⟩ := rebuildTanks_eq s old new; simp only [e, margins_setTankTable]
@[simp] theorem pour_rebuildTanks (old new : Option Memory) : (s.rebuildTanks old new).pour = s.pour := by obtain ⟨a, e, -⟩ := rebuildTanks_eq s old new; simp only [e, pour_setTankTable]
@[simp] theorem faults_rebuildTanks (old new : Option Memory) : (s.rebuildTanks old new).faults = s.faults := by obtain ⟨a, e, -⟩ := rebuildTanks_eq s old new; simp only [e, faults_setTankTable]
@[simp] theorem composer_rebuildTanks (old new : Option Memory) : (s.rebuildTanks old new).composer = s.composer := by obtain ⟨a, e, -⟩ := rebuildTanks_eq s old new; simp only [e, composer_setTankTable]
@[simp] theorem console_rebuildTanks (old new : Option Memory) : (s.rebuildTanks old new).console = s.console := by obtain ⟨a, e, -⟩ := rebuildTanks_eq s old new; simp only [e, console_setTankTable]
@[simp] theorem shore_rebuildTanks (old new : Option Memory) : (s.rebuildTanks old new).shore = s.shore := by obtain ⟨a, e, -⟩ := rebuildTanks_eq s old new; simp only [e, shore_setTankTable]
@[simp] theorem pending_rebuildTanks (old new : Option Memory) : (s.rebuildTanks old new).pending = s.pending := by obtain ⟨a, e, -⟩ := rebuildTanks_eq s old new; simp only [e, pending_setTankTable]

@[simp] theorem now_rebuildRoles (old new : Option Memory) : (s.rebuildRoles old new).now = s.now := by simp only [State.rebuildRoles, now_setLoop]
@[simp] theorem freeCount_rebuildRoles (old new : Option Memory) : (s.rebuildRoles old new).freeCount = s.freeCount := by simp only [State.rebuildRoles, freeCount_setLoop]
@[simp] theorem sent_rebuildRoles (old new : Option Memory) : (s.rebuildRoles old new).sent = s.sent := by simp only [State.rebuildRoles, sent_setLoop]
@[simp] theorem modes_rebuildRoles (old new : Option Memory) : (s.rebuildRoles old new).modes = s.modes := by simp only [State.rebuildRoles, modes_setLoop]
@[simp] theorem particulars_rebuildRoles (old new : Option Memory) : (s.rebuildRoles old new).particulars = s.particulars := by simp only [State.rebuildRoles, particulars_setLoop]
@[simp] theorem settings_rebuildRoles (old new : Option Memory) : (s.rebuildRoles old new).settings = s.settings := by simp only [State.rebuildRoles, settings_setLoop]
@[simp] theorem attention_rebuildRoles (old new : Option Memory) : (s.rebuildRoles old new).attention = s.attention := by simp only [State.rebuildRoles, attention_setLoop]
@[simp] theorem tankTable_rebuildRoles (old new : Option Memory) : (s.rebuildRoles old new).tankTable = s.tankTable := by simp only [State.rebuildRoles, tankTable_setLoop]
@[simp] theorem transfers_rebuildRoles (old new : Option Memory) : (s.rebuildRoles old new).transfers = s.transfers := by simp only [State.rebuildRoles, transfers_setLoop]
@[simp] theorem movers_rebuildRoles (old new : Option Memory) : (s.rebuildRoles old new).movers = s.movers := by simp only [State.rebuildRoles, movers_setLoop]
@[simp] theorem cond_rebuildRoles (old new : Option Memory) : (s.rebuildRoles old new).cond = s.cond := by simp only [State.rebuildRoles, cond_setLoop]
@[simp] theorem margins_rebuildRoles (old new : Option Memory) : (s.rebuildRoles old new).margins = s.margins := by simp only [State.rebuildRoles, margins_setLoop]
@[simp] theorem pour_rebuildRoles (old new : Option Memory) : (s.rebuildRoles old new).pour = s.pour := by simp only [State.rebuildRoles, pour_setLoop]
@[simp] theorem faults_rebuildRoles (old new : Option Memory) : (s.rebuildRoles old new).faults = s.faults := by simp only [State.rebuildRoles, faults_setLoop]
@[simp] theorem composer_rebuildRoles (old new : Option Memory) : (s.rebuildRoles old new).composer = s.composer := by simp only [State.rebuildRoles, composer_setLoop]
@[simp] theorem console_rebuildRoles (old new : Option Memory) : (s.rebuildRoles old new).console = s.console := by simp only [State.rebuildRoles, console_setLoop]
@[simp] theorem shore_rebuildRoles (old new : Option Memory) : (s.rebuildRoles old new).shore = s.shore := by simp only [State.rebuildRoles, shore_setLoop]
@[simp] theorem pending_rebuildRoles (old new : Option Memory) : (s.rebuildRoles old new).pending = s.pending := by simp only [State.rebuildRoles, pending_setLoop]

@[simp] theorem now_rebuildItems (old new : Option Memory) : (s.rebuildItems old new).now = s.now := by simp only [State.rebuildItems, now_setCond]
@[simp] theorem freeCount_rebuildItems (old new : Option Memory) : (s.rebuildItems old new).freeCount = s.freeCount := by simp only [State.rebuildItems, freeCount_setCond]
@[simp] theorem sent_rebuildItems (old new : Option Memory) : (s.rebuildItems old new).sent = s.sent := by simp only [State.rebuildItems, sent_setCond]
@[simp] theorem modes_rebuildItems (old new : Option Memory) : (s.rebuildItems old new).modes = s.modes := by simp only [State.rebuildItems, modes_setCond]
@[simp] theorem particulars_rebuildItems (old new : Option Memory) : (s.rebuildItems old new).particulars = s.particulars := by simp only [State.rebuildItems, particulars_setCond]
@[simp] theorem settings_rebuildItems (old new : Option Memory) : (s.rebuildItems old new).settings = s.settings := by simp only [State.rebuildItems, settings_setCond]
@[simp] theorem attention_rebuildItems (old new : Option Memory) : (s.rebuildItems old new).attention = s.attention := by simp only [State.rebuildItems, attention_setCond]
@[simp] theorem loop_rebuildItems (old new : Option Memory) : (s.rebuildItems old new).loop = s.loop := by simp only [State.rebuildItems, loop_setCond]
@[simp] theorem tankTable_rebuildItems (old new : Option Memory) : (s.rebuildItems old new).tankTable = s.tankTable := by simp only [State.rebuildItems, tankTable_setCond]
@[simp] theorem transfers_rebuildItems (old new : Option Memory) : (s.rebuildItems old new).transfers = s.transfers := by simp only [State.rebuildItems, transfers_setCond]
@[simp] theorem movers_rebuildItems (old new : Option Memory) : (s.rebuildItems old new).movers = s.movers := by simp only [State.rebuildItems, movers_setCond]
@[simp] theorem margins_rebuildItems (old new : Option Memory) : (s.rebuildItems old new).margins = s.margins := by simp only [State.rebuildItems, margins_setCond]
@[simp] theorem pour_rebuildItems (old new : Option Memory) : (s.rebuildItems old new).pour = s.pour := by simp only [State.rebuildItems, pour_setCond]
@[simp] theorem faults_rebuildItems (old new : Option Memory) : (s.rebuildItems old new).faults = s.faults := by simp only [State.rebuildItems, faults_setCond]
@[simp] theorem composer_rebuildItems (old new : Option Memory) : (s.rebuildItems old new).composer = s.composer := by simp only [State.rebuildItems, composer_setCond]
@[simp] theorem console_rebuildItems (old new : Option Memory) : (s.rebuildItems old new).console = s.console := by simp only [State.rebuildItems, console_setCond]
@[simp] theorem shore_rebuildItems (old new : Option Memory) : (s.rebuildItems old new).shore = s.shore := by simp only [State.rebuildItems, shore_setCond]
@[simp] theorem pending_rebuildItems (old new : Option Memory) : (s.rebuildItems old new).pending = s.pending := by simp only [State.rebuildItems, pending_setCond]

@[simp] theorem now_rebuildHolds (old new : Option Memory) : (s.rebuildHolds old new).now = s.now := by simp only [State.rebuildHolds, now_setPour]
@[simp] theorem freeCount_rebuildHolds (old new : Option Memory) : (s.rebuildHolds old new).freeCount = s.freeCount := by simp only [State.rebuildHolds, freeCount_setPour]
@[simp] theorem sent_rebuildHolds (old new : Option Memory) : (s.rebuildHolds old new).sent = s.sent := by simp only [State.rebuildHolds, sent_setPour]
@[simp] theorem modes_rebuildHolds (old new : Option Memory) : (s.rebuildHolds old new).modes = s.modes := by simp only [State.rebuildHolds, modes_setPour]
@[simp] theorem particulars_rebuildHolds (old new : Option Memory) : (s.rebuildHolds old new).particulars = s.particulars := by simp only [State.rebuildHolds, particulars_setPour]
@[simp] theorem settings_rebuildHolds (old new : Option Memory) : (s.rebuildHolds old new).settings = s.settings := by simp only [State.rebuildHolds, settings_setPour]
@[simp] theorem attention_rebuildHolds (old new : Option Memory) : (s.rebuildHolds old new).attention = s.attention := by simp only [State.rebuildHolds, attention_setPour]
@[simp] theorem loop_rebuildHolds (old new : Option Memory) : (s.rebuildHolds old new).loop = s.loop := by simp only [State.rebuildHolds, loop_setPour]
@[simp] theorem tankTable_rebuildHolds (old new : Option Memory) : (s.rebuildHolds old new).tankTable = s.tankTable := by simp only [State.rebuildHolds, tankTable_setPour]
@[simp] theorem transfers_rebuildHolds (old new : Option Memory) : (s.rebuildHolds old new).transfers = s.transfers := by simp only [State.rebuildHolds, transfers_setPour]
@[simp] theorem movers_rebuildHolds (old new : Option Memory) : (s.rebuildHolds old new).movers = s.movers := by simp only [State.rebuildHolds, movers_setPour]
@[simp] theorem cond_rebuildHolds (old new : Option Memory) : (s.rebuildHolds old new).cond = s.cond := by simp only [State.rebuildHolds, cond_setPour]
@[simp] theorem margins_rebuildHolds (old new : Option Memory) : (s.rebuildHolds old new).margins = s.margins := by simp only [State.rebuildHolds, margins_setPour]
@[simp] theorem faults_rebuildHolds (old new : Option Memory) : (s.rebuildHolds old new).faults = s.faults := by simp only [State.rebuildHolds, faults_setPour]
@[simp] theorem composer_rebuildHolds (old new : Option Memory) : (s.rebuildHolds old new).composer = s.composer := by simp only [State.rebuildHolds, composer_setPour]
@[simp] theorem console_rebuildHolds (old new : Option Memory) : (s.rebuildHolds old new).console = s.console := by simp only [State.rebuildHolds, console_setPour]
@[simp] theorem shore_rebuildHolds (old new : Option Memory) : (s.rebuildHolds old new).shore = s.shore := by simp only [State.rebuildHolds, shore_setPour]
@[simp] theorem pending_rebuildHolds (old new : Option Memory) : (s.rebuildHolds old new).pending = s.pending := by simp only [State.rebuildHolds, pending_setPour]

@[simp] theorem now_rebuildMargins (new : Option Memory) : (s.rebuildMargins new).now = s.now := by simp only [State.rebuildMargins, now_setMargins]
@[simp] theorem freeCount_rebuildMargins (new : Option Memory) : (s.rebuildMargins new).freeCount = s.freeCount := by simp only [State.rebuildMargins, freeCount_setMargins]
@[simp] theorem sent_rebuildMargins (new : Option Memory) : (s.rebuildMargins new).sent = s.sent := by simp only [State.rebuildMargins, sent_setMargins]
@[simp] theorem modes_rebuildMargins (new : Option Memory) : (s.rebuildMargins new).modes = s.modes := by simp only [State.rebuildMargins, modes_setMargins]
@[simp] theorem particulars_rebuildMargins (new : Option Memory) : (s.rebuildMargins new).particulars = s.particulars := by simp only [State.rebuildMargins, particulars_setMargins]
@[simp] theorem settings_rebuildMargins (new : Option Memory) : (s.rebuildMargins new).settings = s.settings := by simp only [State.rebuildMargins, settings_setMargins]
@[simp] theorem attention_rebuildMargins (new : Option Memory) : (s.rebuildMargins new).attention = s.attention := by simp only [State.rebuildMargins, attention_setMargins]
@[simp] theorem loop_rebuildMargins (new : Option Memory) : (s.rebuildMargins new).loop = s.loop := by simp only [State.rebuildMargins, loop_setMargins]
@[simp] theorem tankTable_rebuildMargins (new : Option Memory) : (s.rebuildMargins new).tankTable = s.tankTable := by simp only [State.rebuildMargins, tankTable_setMargins]
@[simp] theorem transfers_rebuildMargins (new : Option Memory) : (s.rebuildMargins new).transfers = s.transfers := by simp only [State.rebuildMargins, transfers_setMargins]
@[simp] theorem movers_rebuildMargins (new : Option Memory) : (s.rebuildMargins new).movers = s.movers := by simp only [State.rebuildMargins, movers_setMargins]
@[simp] theorem cond_rebuildMargins (new : Option Memory) : (s.rebuildMargins new).cond = s.cond := by simp only [State.rebuildMargins, cond_setMargins]
@[simp] theorem pour_rebuildMargins (new : Option Memory) : (s.rebuildMargins new).pour = s.pour := by simp only [State.rebuildMargins, pour_setMargins]
@[simp] theorem faults_rebuildMargins (new : Option Memory) : (s.rebuildMargins new).faults = s.faults := by simp only [State.rebuildMargins, faults_setMargins]
@[simp] theorem composer_rebuildMargins (new : Option Memory) : (s.rebuildMargins new).composer = s.composer := by simp only [State.rebuildMargins, composer_setMargins]
@[simp] theorem console_rebuildMargins (new : Option Memory) : (s.rebuildMargins new).console = s.console := by simp only [State.rebuildMargins, console_setMargins]
@[simp] theorem shore_rebuildMargins (new : Option Memory) : (s.rebuildMargins new).shore = s.shore := by simp only [State.rebuildMargins, shore_setMargins]
@[simp] theorem pending_rebuildMargins (new : Option Memory) : (s.rebuildMargins new).pending = s.pending := by simp only [State.rebuildMargins, pending_setMargins]

@[simp] theorem now_requestEvaluation : (s.requestEvaluation).now = s.now := by obtain ⟨q, e, -⟩ := requestEvaluation_eq s; simp only [e, now_setCond]
@[simp] theorem freeCount_requestEvaluation : (s.requestEvaluation).freeCount = s.freeCount := by obtain ⟨q, e, -⟩ := requestEvaluation_eq s; simp only [e, freeCount_setCond]
@[simp] theorem sent_requestEvaluation : (s.requestEvaluation).sent = s.sent := by obtain ⟨q, e, -⟩ := requestEvaluation_eq s; simp only [e, sent_setCond]
@[simp] theorem modes_requestEvaluation : (s.requestEvaluation).modes = s.modes := by obtain ⟨q, e, -⟩ := requestEvaluation_eq s; simp only [e, modes_setCond]
@[simp] theorem particulars_requestEvaluation : (s.requestEvaluation).particulars = s.particulars := by obtain ⟨q, e, -⟩ := requestEvaluation_eq s; simp only [e, particulars_setCond]
@[simp] theorem settings_requestEvaluation : (s.requestEvaluation).settings = s.settings := by obtain ⟨q, e, -⟩ := requestEvaluation_eq s; simp only [e, settings_setCond]
@[simp] theorem attention_requestEvaluation : (s.requestEvaluation).attention = s.attention := by obtain ⟨q, e, -⟩ := requestEvaluation_eq s; simp only [e, attention_setCond]
@[simp] theorem loop_requestEvaluation : (s.requestEvaluation).loop = s.loop := by obtain ⟨q, e, -⟩ := requestEvaluation_eq s; simp only [e, loop_setCond]
@[simp] theorem tankTable_requestEvaluation : (s.requestEvaluation).tankTable = s.tankTable := by obtain ⟨q, e, -⟩ := requestEvaluation_eq s; simp only [e, tankTable_setCond]
@[simp] theorem transfers_requestEvaluation : (s.requestEvaluation).transfers = s.transfers := by obtain ⟨q, e, -⟩ := requestEvaluation_eq s; simp only [e, transfers_setCond]
@[simp] theorem movers_requestEvaluation : (s.requestEvaluation).movers = s.movers := by obtain ⟨q, e, -⟩ := requestEvaluation_eq s; simp only [e, movers_setCond]
@[simp] theorem margins_requestEvaluation : (s.requestEvaluation).margins = s.margins := by obtain ⟨q, e, -⟩ := requestEvaluation_eq s; simp only [e, margins_setCond]
@[simp] theorem pour_requestEvaluation : (s.requestEvaluation).pour = s.pour := by obtain ⟨q, e, -⟩ := requestEvaluation_eq s; simp only [e, pour_setCond]
@[simp] theorem faults_requestEvaluation : (s.requestEvaluation).faults = s.faults := by obtain ⟨q, e, -⟩ := requestEvaluation_eq s; simp only [e, faults_setCond]
@[simp] theorem composer_requestEvaluation : (s.requestEvaluation).composer = s.composer := by obtain ⟨q, e, -⟩ := requestEvaluation_eq s; simp only [e, composer_setCond]
@[simp] theorem console_requestEvaluation : (s.requestEvaluation).console = s.console := by obtain ⟨q, e, -⟩ := requestEvaluation_eq s; simp only [e, console_setCond]
@[simp] theorem shore_requestEvaluation : (s.requestEvaluation).shore = s.shore := by obtain ⟨q, e, -⟩ := requestEvaluation_eq s; simp only [e, shore_setCond]
@[simp] theorem pending_requestEvaluation : (s.requestEvaluation).pending = s.pending := by obtain ⟨q, e, -⟩ := requestEvaluation_eq s; simp only [e, pending_setCond]

@[simp] theorem now_massChange : (s.massChange).now = s.now := by obtain ⟨q, e, -⟩ := massChange_eq s; simp only [e, now_setCond]
@[simp] theorem freeCount_massChange : (s.massChange).freeCount = s.freeCount := by obtain ⟨q, e, -⟩ := massChange_eq s; simp only [e, freeCount_setCond]
@[simp] theorem sent_massChange : (s.massChange).sent = s.sent := by obtain ⟨q, e, -⟩ := massChange_eq s; simp only [e, sent_setCond]
@[simp] theorem modes_massChange : (s.massChange).modes = s.modes := by obtain ⟨q, e, -⟩ := massChange_eq s; simp only [e, modes_setCond]
@[simp] theorem particulars_massChange : (s.massChange).particulars = s.particulars := by obtain ⟨q, e, -⟩ := massChange_eq s; simp only [e, particulars_setCond]
@[simp] theorem settings_massChange : (s.massChange).settings = s.settings := by obtain ⟨q, e, -⟩ := massChange_eq s; simp only [e, settings_setCond]
@[simp] theorem attention_massChange : (s.massChange).attention = s.attention := by obtain ⟨q, e, -⟩ := massChange_eq s; simp only [e, attention_setCond]
@[simp] theorem loop_massChange : (s.massChange).loop = s.loop := by obtain ⟨q, e, -⟩ := massChange_eq s; simp only [e, loop_setCond]
@[simp] theorem tankTable_massChange : (s.massChange).tankTable = s.tankTable := by obtain ⟨q, e, -⟩ := massChange_eq s; simp only [e, tankTable_setCond]
@[simp] theorem transfers_massChange : (s.massChange).transfers = s.transfers := by obtain ⟨q, e, -⟩ := massChange_eq s; simp only [e, transfers_setCond]
@[simp] theorem movers_massChange : (s.massChange).movers = s.movers := by obtain ⟨q, e, -⟩ := massChange_eq s; simp only [e, movers_setCond]
@[simp] theorem margins_massChange : (s.massChange).margins = s.margins := by obtain ⟨q, e, -⟩ := massChange_eq s; simp only [e, margins_setCond]
@[simp] theorem pour_massChange : (s.massChange).pour = s.pour := by obtain ⟨q, e, -⟩ := massChange_eq s; simp only [e, pour_setCond]
@[simp] theorem faults_massChange : (s.massChange).faults = s.faults := by obtain ⟨q, e, -⟩ := massChange_eq s; simp only [e, faults_setCond]
@[simp] theorem composer_massChange : (s.massChange).composer = s.composer := by obtain ⟨q, e, -⟩ := massChange_eq s; simp only [e, composer_setCond]
@[simp] theorem console_massChange : (s.massChange).console = s.console := by obtain ⟨q, e, -⟩ := massChange_eq s; simp only [e, console_setCond]
@[simp] theorem shore_massChange : (s.massChange).shore = s.shore := by obtain ⟨q, e, -⟩ := massChange_eq s; simp only [e, shore_setCond]
@[simp] theorem pending_massChange : (s.massChange).pending = s.pending := by obtain ⟨q, e, -⟩ := massChange_eq s; simp only [e, pending_setCond]

/-! What a mass change leaves of the Condition Unit. -/

@[simp] theorem stamp_massChange : s.massChange.cond.stamp = s.cond.stamp + 1 := by
  obtain ⟨q, e, -, -, h, -⟩ := massChange_eq s
  rw [e]
  exact h

@[simp] theorem items_massChange : s.massChange.cond.items = s.cond.items := by
  obtain ⟨q, e, -, -, -, h, -⟩ := massChange_eq s
  rw [e]
  exact h

@[simp] theorem berth_massChange : s.massChange.cond.berth = s.cond.berth := by
  obtain ⟨q, e, h, -⟩ := massChange_eq s
  rw [e]
  exact h

@[simp] theorem tide_massChange : s.massChange.cond.tide = s.cond.tide := by
  obtain ⟨q, e, -, h, -⟩ := massChange_eq s
  rw [e]
  exact h

/-! A commit, field by field. -/

@[simp] theorem now_commitBlock (m : Memory) : (s.commitBlock m).now = s.now := by simp [State.commitBlock]
@[simp] theorem freeCount_commitBlock (m : Memory) : (s.commitBlock m).freeCount = s.freeCount := by simp [State.commitBlock]
@[simp] theorem sent_commitBlock (m : Memory) : (s.commitBlock m).sent = s.sent := by simp [State.commitBlock]
@[simp] theorem modes_commitBlock (m : Memory) : (s.commitBlock m).modes = s.modes := by simp [State.commitBlock]
@[simp] theorem settings_commitBlock (m : Memory) : (s.commitBlock m).settings = s.settings := by simp [State.commitBlock]
@[simp] theorem attention_commitBlock (m : Memory) : (s.commitBlock m).attention = s.attention := by simp [State.commitBlock]
@[simp] theorem transfers_commitBlock (m : Memory) : (s.commitBlock m).transfers = s.transfers := by simp [State.commitBlock]
@[simp] theorem movers_commitBlock (m : Memory) : (s.commitBlock m).movers = s.movers := by simp [State.commitBlock]
@[simp] theorem faults_commitBlock (m : Memory) : (s.commitBlock m).faults = s.faults := by simp [State.commitBlock]
@[simp] theorem composer_commitBlock (m : Memory) : (s.commitBlock m).composer = s.composer := by simp [State.commitBlock]
@[simp] theorem console_commitBlock (m : Memory) : (s.commitBlock m).console = s.console := by simp [State.commitBlock]
@[simp] theorem shore_commitBlock (m : Memory) : (s.commitBlock m).shore = s.shore := by simp [State.commitBlock]
@[simp] theorem pending_commitBlock (m : Memory) : (s.commitBlock m).pending = s.pending := by simp [State.commitBlock]

@[simp] theorem particulars_commitBlock (m : Memory) : (s.commitBlock m).particulars = committed s m := by
  simp [State.commitBlock, committed]

theorem tanks_commitBlock (m : Memory) : (s.commitBlock m).tankTable.tanks = Vector.ofFn fun i : Fin 24 =>
    if keptNumber tankDefined s.parts (some m) (i.val + 1) then s.tankTable.tanks[i]
    else if tankDefined s.parts (i.val + 1) || tankDefined (some m) (i.val + 1) then TankLive.blank
    else s.tankTable.tanks[i] := by
  obtain ⟨a, e, h⟩ := rebuildTanks_eq (s.setParticulars (committed s m)) s.parts (some m)
  rw [committed] at e
  simp only [State.commitBlock, e, tankTable_massChange, tankTable_rebuildMargins, tankTable_rebuildHolds,
    tankTable_rebuildItems, tankTable_rebuildRoles, tankTable_setTankTable]
  exact h

theorem loop_commitBlock (m : Memory) : (s.commitBlock m).loop = (s.rebuildRoles s.parts (some m)).loop := by
  simp [State.commitBlock, State.rebuildRoles]

theorem pour_commitBlock (m : Memory) : (s.commitBlock m).pour = (s.rebuildHolds s.parts (some m)).pour := by
  simp [State.commitBlock, State.rebuildHolds]

theorem cond_commitBlock (m : Memory) : (s.commitBlock m).cond.stamp = s.cond.stamp + 1 ∧
    (s.commitBlock m).cond.items = (s.rebuildItems s.parts (some m)).cond.items ∧
    (s.commitBlock m).cond.berth = s.cond.berth ∧ (s.commitBlock m).cond.tide = s.cond.tide := by
  simp [State.commitBlock, State.rebuildItems]
/-! ## Writes that complete -/

@[simp] theorem completeSettingsSave_eq : s.completeSettingsSave = s.setSettings
    (match s.settings.saving with
    | none => s.settings
    | some record => { s.settings with store := record, storeGood := true, saving := none }) := by
  unfold State.completeSettingsSave
  cases h : s.settings.saving <;> rfl

theorem completeOriginWrites_eq : ∃ a, s.completeOriginWrite.completeOriginWrite = s.setTankTable a ∧
    a.writing = none ∧ a.tanks = s.tankTable.tanks := by
  unfold State.completeOriginWrite
  rcases h : s.tankTable.writing with _ | copy
  · exact ⟨s.tankTable, by simp only [h]; rfl, h, rfl⟩
  · rcases hr : s.tankTable.rewrite with _ | _
    · exact ⟨_, rfl, rfl, rfl⟩
    · exact ⟨_, rfl, rfl, rfl⟩

/-- The completion of every write leaves none, and the stores hold what was being written. -/
theorem completeWrites_writes : s.completeWrites.settings.saving = none ∧ s.completeWrites.particulars.writing = none ∧
    s.completeWrites.tankTable.writing = none ∧
    (∀ r, s.settings.saving = some r →
      s.completeWrites.settings.store = r ∧ s.completeWrites.settings.storeGood = true) ∧
    (∀ m, s.particulars.writing = some m → s.completeWrites.particulars = committed s m) ∧
    (s.particulars.writing = none → s.completeWrites.particulars = s.particulars) := by
  obtain ⟨a, ea, ha, -⟩ := completeOriginWrites_eq s.completeParticulars.completeSettingsSave
  rw [State.completeWrites, ea, completeSettingsSave_eq]
  simp only [settings_setTankTable, particulars_setTankTable, tankTable_setTankTable, settings_setSettings,
    particulars_setSettings]
  have hs : s.completeParticulars.settings = s.settings := by
    unfold State.completeParticulars
    split
    · rfl
    · exact settings_commitBlock s _
  rw [hs]
  refine ⟨?_, ?_, ha, ?_, ?_, ?_⟩
  · rcases h : s.settings.saving with _ | r
    · exact h
    · rfl
  · unfold State.completeParticulars
    rcases h : s.particulars.writing with _ | m
    · exact h
    · dsimp only
      rw [particulars_commitBlock]
      rfl
  · intro r h
    rw [h]
    exact ⟨rfl, rfl⟩
  · intro m h
    unfold State.completeParticulars
    rw [h]
    exact particulars_commitBlock s m
  · intro h
    unfold State.completeParticulars
    rw [h]


@[simp] theorem now_completeWrites : s.completeWrites.now = s.now := by
  obtain ⟨a, e, -⟩ := completeOriginWrites_eq s.completeParticulars.completeSettingsSave
  rw [State.completeWrites, e, completeSettingsSave_eq]
  simp only [now_setTankTable, now_setSettings, State.completeParticulars]
  split
  · rfl
  · exact now_commitBlock s _
@[simp] theorem freeCount_completeWrites : s.completeWrites.freeCount = s.freeCount := by
  obtain ⟨a, e, -⟩ := completeOriginWrites_eq s.completeParticulars.completeSettingsSave
  rw [State.completeWrites, e, completeSettingsSave_eq]
  simp only [freeCount_setTankTable, freeCount_setSettings, State.completeParticulars]
  split
  · rfl
  · exact freeCount_commitBlock s _
@[simp] theorem sent_completeWrites : s.completeWrites.sent = s.sent := by
  obtain ⟨a, e, -⟩ := completeOriginWrites_eq s.completeParticulars.completeSettingsSave
  rw [State.completeWrites, e, completeSettingsSave_eq]
  simp only [sent_setTankTable, sent_setSettings, State.completeParticulars]
  split
  · rfl
  · exact sent_commitBlock s _
@[simp] theorem modes_completeWrites : s.completeWrites.modes = s.modes := by
  obtain ⟨a, e, -⟩ := completeOriginWrites_eq s.completeParticulars.completeSettingsSave
  rw [State.completeWrites, e, completeSettingsSave_eq]
  simp only [modes_setTankTable, modes_setSettings, State.completeParticulars]
  split
  · rfl
  · exact modes_commitBlock s _
@[simp] theorem attention_completeWrites : s.completeWrites.attention = s.attention := by
  obtain ⟨a, e, -⟩ := completeOriginWrites_eq s.completeParticulars.completeSettingsSave
  rw [State.completeWrites, e, completeSettingsSave_eq]
  simp only [attention_setTankTable, attention_setSettings, State.completeParticulars]
  split
  · rfl
  · exact attention_commitBlock s _
@[simp] theorem transfers_completeWrites : s.completeWrites.transfers = s.transfers := by
  obtain ⟨a, e, -⟩ := completeOriginWrites_eq s.completeParticulars.completeSettingsSave
  rw [State.completeWrites, e, completeSettingsSave_eq]
  simp only [transfers_setTankTable, transfers_setSettings, State.completeParticulars]
  split
  · rfl
  · exact transfers_commitBlock s _
@[simp] theorem movers_completeWrites : s.completeWrites.movers = s.movers := by
  obtain ⟨a, e, -⟩ := completeOriginWrites_eq s.completeParticulars.completeSettingsSave
  rw [State.completeWrites, e, completeSettingsSave_eq]
  simp only [movers_setTankTable, movers_setSettings, State.completeParticulars]
  split
  · rfl
  · exact movers_commitBlock s _
@[simp] theorem faults_completeWrites : s.completeWrites.faults = s.faults := by
  obtain ⟨a, e, -⟩ := completeOriginWrites_eq s.completeParticulars.completeSettingsSave
  rw [State.completeWrites, e, completeSettingsSave_eq]
  simp only [faults_setTankTable, faults_setSettings, State.completeParticulars]
  split
  · rfl
  · exact faults_commitBlock s _
@[simp] theorem composer_completeWrites : s.completeWrites.composer = s.composer := by
  obtain ⟨a, e, -⟩ := completeOriginWrites_eq s.completeParticulars.completeSettingsSave
  rw [State.completeWrites, e, completeSettingsSave_eq]
  simp only [composer_setTankTable, composer_setSettings, State.completeParticulars]
  split
  · rfl
  · exact composer_commitBlock s _
@[simp] theorem console_completeWrites : s.completeWrites.console = s.console := by
  obtain ⟨a, e, -⟩ := completeOriginWrites_eq s.completeParticulars.completeSettingsSave
  rw [State.completeWrites, e, completeSettingsSave_eq]
  simp only [console_setTankTable, console_setSettings, State.completeParticulars]
  split
  · rfl
  · exact console_commitBlock s _
@[simp] theorem shore_completeWrites : s.completeWrites.shore = s.shore := by
  obtain ⟨a, e, -⟩ := completeOriginWrites_eq s.completeParticulars.completeSettingsSave
  rw [State.completeWrites, e, completeSettingsSave_eq]
  simp only [shore_setTankTable, shore_setSettings, State.completeParticulars]
  split
  · rfl
  · exact shore_commitBlock s _
@[simp] theorem pending_completeWrites : s.completeWrites.pending = s.pending := by
  obtain ⟨a, e, -⟩ := completeOriginWrites_eq s.completeParticulars.completeSettingsSave
  rw [State.completeWrites, e, completeSettingsSave_eq]
  simp only [pending_setTankTable, pending_setSettings, State.completeParticulars]
  split
  · rfl
  · exact pending_commitBlock s _

/-- The completion of writes leaves the berth record and the tide. -/
theorem berth_tide_completeWrites :
    s.completeWrites.cond.berth = s.cond.berth ∧ s.completeWrites.cond.tide = s.cond.tide := by
  obtain ⟨a, e, -⟩ := completeOriginWrites_eq s.completeParticulars.completeSettingsSave
  rw [State.completeWrites, e, completeSettingsSave_eq]
  simp only [cond_setTankTable, cond_setSettings, State.completeParticulars]
  split
  · exact ⟨rfl, rfl⟩
  · exact (cond_commitBlock s _).2.2

end

end Sys2Proof.Machine
end

