-- ==== Sys2Proof/Laws/Scan.lean ====
section
/-! SUPPORT. What the taking of a scan, the readings of a commit and the sending of a frame do (R27, R30, R32, R37). -/

namespace Sys2Proof.Machine

section

variable (s : State) (w : ScanWindow)

/-- A vector given by a function, read where its index stands. -/
theorem ofFn_getD {α : Type} {n : Nat} (f : Fin n → α) (a : Nat) (d : α) (h : a < n) :
    ((Vector.ofFn f)[a]?).getD d = f ⟨a, h⟩ := by
  rw [Vector.getElem?_ofFn, dif_pos h]
  rfl

/-! ## Taking a scan -/

/-- Taking a scan changes the field loop alone. -/
theorem takeScan_eq : s.takeScan w = s.setLoop (s.takeScan w).loop := by
  unfold State.takeScan
  cases w.restart <;> rfl

/-- The field loop after a regular scan is taken (R30, R32). -/
theorem takeScan_loop (h : w.restart = false) : (s.takeScan w).loop = { s.loop with
    scan := (s.takeScan w).loop.scan, staging := [], window := none, failures := 0, state := .good
    fullScan := if w.kind = .full then false else s.loop.fullScan } := by
  simp only [State.takeScan, h, Bool.false_eq_true, if_false, loop_setLoop, FieldLoop.takeImage]

/-- The field loop after a restart scan is taken: the count and the loop state stay (R30, R38). -/
theorem takeScan_restart_loop (h : w.restart = true) : (s.takeScan w).loop = { s.loop with
    scan := (s.takeScan w).loop.scan, staging := [], window := none
    fullScan := if w.kind = .full then false else s.loop.fullScan } := by
  simp only [State.takeScan, h, if_true, loop_setLoop, FieldLoop.takeImage]

/-- A point of the scan image after a scan is taken (R30). -/
theorem takeScan_scanned (a : Nat) (h : a < 64) : (s.takeScan w).scanned a =
    match stagedAt s.loop.staging a with
    | some v => ⟨some v, true⟩
    | none => ⟨(s.scanned a).value, false⟩ := by
  have e : (s.takeScan w).loop.scan = s.loop.takeImage.scan := by
    unfold State.takeScan
    cases w.restart <;> rfl
  have g : s.loop.scan[a]? = some s.loop.scan[a] := Vector.getElem?_eq_getElem h
  simp only [State.scanned, e, g, Option.getD_some]
  exact ofFn_getD _ a _ h

theorem takeScan_parts : (s.takeScan w).parts = s.parts := by
  rw [takeScan_eq]
  simp only [State.parts, particulars_setLoop]

/-! ## Readings -/

/-- The readings change the all-off reading and the movers' quiet readings alone (R37). -/
theorem takeReadings_eq : ∃ ms : Movers, s.takeReadings =
    (s.setLoop { s.loop with allOff := some s.allOffReading }).setMovers ms ∧
      ms = ⟨{ s.movers.m1 with quiet := some (s.quietReading .m1) },
        { s.movers.m2 with quiet := some (s.quietReading .m2) },
        { s.movers.m3 with quiet := some (s.quietReading .m3) }⟩ := by
  refine ⟨_, ?_, rfl⟩
  have hq : ∀ (u : State) (m : MoverId), u.loop.scan = s.loop.scan → u.parts = s.parts →
      u.quietReading m = s.quietReading m := by
    intro u m h1 h2
    unfold State.quietReading State.readsOff State.scanned
    rw [h1, h2]
  unfold State.takeReadings
  simp only [allMovers, List.foldl_cons, List.foldl_nil, State.setMover, State.mover]
  rw [hq _ .m1 rfl rfl, hq _ .m2 rfl rfl, hq _ .m3 rfl rfl]
  rfl

/-! ## Sending a frame -/

/-- A point with its allowance start set, if it had none. -/
def DrivePoint.started (d : DrivePoint) (now : Nat) : DrivePoint := { d with start := some (d.start.getD now) }

theorem startAllowance_facts (a : Nat) :
    s.startAllowance a = s.setLoop { s.loop with drive := (s.startAllowance a).loop.drive } ∧
      ∀ b < 64, (s.startAllowance a).drive b = if a = b then (s.drive b).started s.now else s.drive b := by
  unfold State.startAllowance
  dsimp only
  split
  · rename_i h
    refine ⟨rfl, fun b hb => ?_⟩
    rw [drive_setDrive]
    by_cases hab : a = b
    · subst hab
      have hn : (s.drive a).start = none := by simpa using h
      rw [if_pos ⟨rfl, hb⟩, if_pos rfl, DrivePoint.started, hn]
      rfl
    · rw [if_neg fun x => hab x.1, if_neg hab]
  · rename_i h
    refine ⟨rfl, fun b _ => ?_⟩
    split
    · rename_i hab
      subst hab
      obtain ⟨v, hv⟩ : ∃ v, (s.drive a).start = some v := by
        rcases hs : (s.drive a).start with _ | v
        · rw [hs] at h
          exact absurd rfl h
        · exact ⟨v, rfl⟩
      rw [DrivePoint.started, hv]
      generalize s.drive a = d at *
      cases d
      cases hv
      rfl
    · rfl

theorem startAllowances_facts (l : List (Nat × Role)) (u : State) :
    let t := l.foldl (fun s q => s.startAllowance q.1) u
    t = u.setLoop { u.loop with drive := t.loop.drive } ∧
      ∀ b < 64, t.drive b = if b ∈ l.map Prod.fst then (u.drive b).started u.now else u.drive b := by
  induction l generalizing u with
  | nil => exact ⟨rfl, fun b _ => (if_neg List.not_mem_nil).symm⟩
  | cons q l ih =>
    have h1 := startAllowance_facts u q.1
    have h2 := ih (u.startAllowance q.1)
    have hnow : (u.startAllowance q.1).now = u.now := by
      rw [h1.1]
      rfl
    simp only [List.foldl_cons]
    constructor
    · rw [h2.1]
      nth_rw 1 [h1.1]
      nth_rw 2 [h1.1]
      rfl
    · intro b hb
      rw [h2.2 b hb, h1.2 b hb, hnow]
      simp only [List.map_cons, List.mem_cons]
      by_cases hq : q.1 = b
      · by_cases hm : b ∈ l.map Prod.fst
        · rw [if_pos hm, if_pos hq, if_pos (.inr hm)]
          simp [DrivePoint.started]
        · rw [if_neg hm, if_pos hq, if_pos (.inl hq.symm)]
      · rw [if_neg hq]
        by_cases hm : b ∈ l.map Prod.fst
        · rw [if_pos hm, if_pos (.inr hm)]
        · rw [if_neg hm, if_neg (by rintro (h | h); exacts [hq h.symm, hm h])]

/-- The addresses of the drive points. -/
theorem drivePoints_mem (p : Option Memory) (a : Nat) :
    a ∈ (drivePoints p).map Prod.fst ↔ a < 64 ∧ (roleOf p a).isDrive = true := by
  unfold drivePoints roleOf
  simp only [List.mem_map, List.mem_filter, List.mem_range, Prod.exists, exists_and_right, exists_eq_right]
  constructor
  · rintro ⟨r, ⟨b, hb, e⟩, h⟩
    cases e
    exact ⟨hb, h⟩
  · rintro ⟨h, g⟩
    exact ⟨_, ⟨a, h, rfl⟩, g⟩

/-- A frame is sent (R27, R38): the 64 commands, an allowance start for each drive point that has none, an open window. -/
theorem sendFrame_facts (kind : FrameKind) (restart : Bool) :
    let t := s.sendFrame kind restart
    t = (s.setSent (s.sent ++ [.frame kind (s.loop.drive.toList.map fun d => d.on)])).setLoop
        { s.loop with drive := t.loop.drive, window := some ⟨kind, none, s.now, restart⟩ } ∧
      ∀ a < 64, t.drive a = if (roleOf s.parts a).isDrive = true then (s.drive a).started s.now else s.drive a := by
  have h := startAllowances_facts (drivePoints s.parts)
    (s.send (.frame kind (s.loop.drive.toList.map fun d => d.on)))
  unfold State.sendFrame
  dsimp only at h ⊢
  have hp : (s.send (.frame kind (s.loop.drive.toList.map fun d => d.on))).parts = s.parts := rfl
  rw [hp]
  generalize (drivePoints s.parts).foldl (fun s q => s.startAllowance q.1)
    (s.send (.frame kind (s.loop.drive.toList.map fun d => d.on))) = u at h ⊢
  constructor
  · rw [h.1]
    rfl
  · intro a ha
    have e := h.2 a ha
    simp only [drivePoints_mem, ha, true_and] at e
    exact e

end

end Sys2Proof.Machine
end

