-- ==== Sys2Proof/Tests/Slice0.lean ====
section
/-! SUPPORT. Tests: ill-formed terms are refused; each command acts on a small state; and for each statement with
hypotheses, a state and operands that meet them. -/

namespace Sys2Proof.Tests

open Sys2Proof Sys2Proof.Machine

set_option maxRecDepth 20000

/-! ## Small states -/

/-- A good block of particulars: tanks 1 and 2, hold 1, item 1, station 1, a recipe for index 0 on side +. -/
def ship : Memory :=
  [(2, 1000), (3, 10), (4, 10), (5, 10), (6, 1000), (10, 50), (11, 50)] ++
  [(64, 1), (66, 4000), (67, 50), (68, 100), (69, 2), (72, 4000), (73, 4000), (86, 10), (87, 11)] ++
  [(128, 1), (130, 4000), (131, 50), (132, 100), (133, 2), (136, 4000), (137, 4000), (150, 12), (151, 13)] ++
  [(1600, 1), (1960, 1), (2280, 1)] ++ [(2282, 100), (2283, 100), (2284, 100), (2285, 100)] ++
  [(2286, 100), (2287, 100), (2288, 100), (2289, 100)] ++
  [(2537, 1), (2538, 2), (2540, 3), (2541, 4), (2542, 5), (2544, 6), (2545, 7)] ++
  [(2552, 1), (2553, 1), (2555, 100)]

/-- A part that runs in a mode, with the block in use, and nothing in progress. -/
def idle (m : Mode) : State :=
  (State.reset.setModes { State.reset.modes with condition := .running, mode := m }).setParticulars
    ⟨some ship, ship, ship.checksum, false, none, none⟩

/-- In mode BERTH. -/
def berth : State := idle .berth

/-- In fault state RESTART. -/
def restarting : State := berth.setFaults { berth.faults with state := .restart, attempts := 1, attempt := some 0 }

/-- In fault state HALT. -/
def halted : State := berth.setFaults { berth.faults with state := .halt, causes := [.loopLost], first := some .loopLost }

/-- A sequence in hand on both links. -/
def holding (q : Sequence) (s : State) : State :=
  (s.setConsole { s.console with rx := { s.console.rx with inHand := some q } }).setShore
    { s.shore with rx := { s.shore.rx with inHand := some q } }

/-- Both gap flags set. -/
def gapped (s : State) : State :=
  (s.setConsole { s.console with rx := { s.console.rx with gap := true } }).setShore
    { s.shore with rx := { s.shore.rx with gap := true } }

/-- After some commands, with the links idle again. -/
def after : List Instr → State → State
  | [], s => s
  | c :: cs, s =>
    match exec c s with
    | .next t => after cs ((t.setConsole (ConsolePort.blank 3)).setShore (ShorePort.blank 3))
    | _ => s

/-- The newest console line of a next state. -/
def said (o : Host.Outcome State Fault Refusal) : Option Line :=
  match o with
  | .next t => t.console.outgoing.getLast?
  | _ => none

/-- The newest shore line of a next state. -/
def shoreSaid (o : Host.Outcome State Fault Refusal) : Option Line :=
  match o with
  | .next t => t.shore.outgoing.getLast?
  | _ => none

/-- The next state, where there is one. -/
def next (o : Host.Outcome State Fault Refusal) : Option State :=
  match o with
  | .next t => some t
  | _ => none

/-- A refusal line of a verb. -/
def no (v : Verb) (c : RefCode) : Option Line := some (.refusal (some v.letters) c)

/-- A step planned, a transfer ACTIVE on M1, a step GRANTED, a step POURING. -/
def planned : State := after [.planAppend [7, 1, 100, 0]] berth
def moving : State := after [.transferAdmit [0, 1, 0, 2, 300]] berth
def granted : State :=
  (planned.updStep 7 fun x => { x with state := .granted, granted := some 100, ceiling := some 120 }).setPour
    { (planned.updStep 7 fun x => { x with state := .granted, granted := some 100, ceiling := some 120 }).pour with
      grantTimer := some 0 }
def pouring : State := granted.updStep 7 fun x => { x with state := .pouring }

/-! ## Ill-formed terms -/

theorem test_wellFormed_bounds :
    paramWellFormed 999999999 = true ∧ paramWellFormed (-999999999) = true ∧ paramWellFormed 1000000000 = false ∧
      paramWellFormed (-1000000000) = false := by decide

theorem test_wellFormed_length :
    paramsWellFormed (List.replicate 16 0) = true ∧ paramsWellFormed (List.replicate 17 0) = false := by decide

/-- The check refuses a sequence of 17 parameters, and one with a parameter of ten digits, of every verb. -/
theorem test_wellFormed_everyVerb :
    ∀ v ∈ consoleVerbs ++ shoreVerbs,
      (v.command [1]).wellFormed = true ∧ (v.command (List.replicate 17 1)).wellFormed = false ∧
        (v.command [1000000000]).wellFormed = false := by decide

theorem test_ship_is_good : firstBadWord ship = none := by decide +kernel
theorem test_ship_is_canonical : ship.wf = true := by decide

/-! ## The queue and the links -/

theorem test_witness_StepRunsTheFrontCommand :
    ∃ (c : Instr) (rest : List Instr) (s : State), s.pending = c :: rest :=
  ⟨.start, [.lossOfPower], State.reset.setPending [.start, .lossOfPower], rfl⟩

theorem test_witness_EmptyQueueLetsAMillisecondPass :
    (berth.pending = [] ∧ berth.console.hold = false) ∧
      (berth.setConsole { berth.console with hold := true }).pending = [] ∧
      (berth.setConsole { berth.console with hold := true }).console.hold = true := by decide

/-- Eight replies wait; a command reset is asked; a shore reply waits in the buffer. -/
def fullReplies : State := berth.setConsole { berth.console with replies := List.replicate 8 ⟨.reply .RC [], false⟩ }
def resetting : State := berth.setModes { berth.modes with resetAsked := some ⟨0, false⟩ }
def replyWaiting : State := berth.setShore { berth.shore with buffer := some (.reply, .reply .DQ []) }

/-- Each reason for which a request is not taken, on the console. -/
theorem test_witness_RequestsOutOfTurn_console :
    Verb.ID ∈ consoleVerbs ∧ Verb.RC ∈ consoleVerbs ∧ State.reset.modes.condition ≠ .running ∧
      (berth.setParticulars { berth.particulars with writing := some ship }).particulars.writing ≠ none ∧
      (∃ q, (holding ⟨.TQ, [1]⟩ berth).console.rx.inHand = some q ∧ q ≠ ⟨.ID, []⟩) ∧
      (fullReplies.console.rx.inHand = none ∧ 8 ≤ fullReplies.console.replies.length) ∧
      (resetting.console.rx.inHand = none ∧ resetting.modes.resetAsked ≠ none) :=
  ⟨by decide, by decide, by decide, by decide, ⟨⟨.TQ, [1]⟩, by decide, by decide⟩, by decide, by decide⟩

theorem test_witness_RequestsOutOfTurn_consoleLost :
    let s := (gapped berth).setConsole { (gapped berth).console with replies := List.replicate 7 ⟨.reply .RC [], false⟩ }
    s.modes.condition = .running ∧ s.particulars.writing = none ∧ s.console.rx.inHand = none ∧
      s.console.replies.length < 8 ∧ s.modes.resetAsked = none ∧ s.console.rx.gap = true := by decide

theorem test_witness_RequestsOutOfTurn_shore :
    Verb.CQ ∈ shoreVerbs ∧ Verb.DQ ∈ shoreVerbs ∧ State.reset.modes.condition ≠ .running ∧
      (berth.setPour { berth.pour with clearance := some 7 }).pour.clearance ≠ none ∧
      (∃ q, (holding ⟨.DQ, []⟩ berth).shore.rx.inHand = some q ∧ q ≠ ⟨.CQ, [7]⟩) ∧
      (replyWaiting.shore.rx.inHand = none ∧ replyWaiting.shore.replyPending = true) ∧
      (gapped berth).modes.condition = .running ∧ (gapped berth).pour.clearance = none ∧
      (gapped berth).shore.rx.inHand = none ∧ (gapped berth).shore.replyPending = false ∧
      (gapped berth).shore.rx.gap = true :=
  ⟨by decide, by decide, by decide, by decide, ⟨⟨.DQ, []⟩, by decide, by decide⟩, by decide, by decide⟩

theorem test_lost_clears_the_gap :
    said (exec (.identify []) (gapped berth)) = no .ID .lost ∧
      (next (exec (.identify []) (gapped berth))).map (fun t => t.console.rx.gap) = some false := by decide

theorem test_witness_LinesArePlaced : berth.composer.state = .idle := by decide

theorem test_witness_ParserMovesByItsState :
    ([] : List Byte).length < 2 ∧ [charByte 'A'].length < 2 ∧
      Ending.complete (charByte 'A', charByte 'K') (List.replicate 16 1) ∈
        (Parser.run .ground (Sequence.bytes ⟨.AK, List.replicate 16 1⟩)).2 := by decide

theorem test_witness_ParserReadsEveryWrittenSequence :
    paramsWellFormed ([999999999, -999999999, 0] ++ List.replicate 13 1) = true ∧ Verb.TQ ∈ linkVerbs .console ∧
      Verb.DQ ∈ linkVerbs .shore ∧ Verb.TQ ∉ linkVerbs .shore ∧ Verb.DQ ∉ linkVerbs .console := by decide

/-- The characters of a sequence, written out, and a 17th parameter. -/
theorem test_parser_words :
    "#TD,-5;".toList.map charByte = [0x23, 0x54, 0x44, 0x2C, 0x2D, 0x35, 0x3B] ∧
      Parser.run .ground [0x23, 0x54, 0x44, 0x2C, 0x2D, 0x35, 0x3B] = (.ground, [.complete (0x54, 0x44) [-5]]) ∧
      (Parser.run .ground (Sequence.bytes ⟨.AK, List.replicate 17 1⟩)).2 = [.malformed (some (0x41, 0x4B))] := by decide

theorem test_witness_ParserTakesTheOldestCharacter :
    let s := (berth.setRx .console { berth.rx .console with queue := [charByte '#'] }).setRx .shore
      { berth.rx .shore with queue := [charByte '#', charByte 'D'], paused := true }
    (s.rx .console).queue = charByte '#' :: [] ∧ (s.rx .shore).queue = charByte '#' :: [charByte 'D'] ∧
      s.modes.condition = .running ∧ (s.rx .console).inHand = none ∧ (s.rx .shore).inHand = none ∧
      s.console.replies.length < 8 ∧ s.particulars.writing = none ∧ s.modes.resetAsked = none ∧
      s.shore.replyPending = false ∧ s.pour.clearance = none ∧ (berth.rx .shore).queue = [] ∧
      State.reset.modes.condition ≠ .running := by decide

theorem test_parser_takes_and_resumes :
    let s := berth.setRx .shore { berth.rx .shore with queue := [0x23, 0x44], paused := true }
    next (exec (.parserTakesCharacter .shore) s) =
      some ((s.setRx .shore ⟨[0x44], false, false, .verb [], none⟩).setSent [.flow .shore false]) := by decide

theorem test_character_received :
    next (exec (.characterReceived .console 0x41 true) berth) =
        some (berth.setRx .console ⟨[0x41], false, false, .ground, none⟩) ∧
      next (exec (.characterReceived .console 0x41 false) berth) =
        some (berth.setRx .console ⟨[0], false, false, .ground, none⟩) := by decide

theorem test_witness_CharactersAndFlowControlAreReceived :
    berth.modes.condition = .running ∧ berth.console.tx = none ∧ berth.composer.state = .idle ∧
      (berth.setConsole { berth.console with tx := some ⟨.reply .RC [], 0⟩ }).console.tx =
        some ⟨.reply .RC [], 0⟩ := by decide

theorem test_pause_and_resume :
    next (exec (.pauseReceived .console) berth) = some (berth.setConsole { berth.console with hold := true }) ∧
      next (exec (.resumeReceived .console) (berth.setConsole { berth.console with hold := true })) = some berth := by
  decide

/-- A state with a line in transmission on each link. -/
def talking : State :=
  (berth.setConsole { berth.console with tx := some ⟨.reply .RS [], 0⟩ }).setShore
    { berth.shore with tx := some ⟨.reply .DQ [], 0⟩ }

theorem test_witness_LinesAreSent :
    talking.console.tx = some ⟨.reply .RS [], 0⟩ ∧ talking.console.hold = false ∧
      talking.shore.tx = some ⟨.reply .DQ [], 0⟩ ∧ talking.composer.state = .idle ∧ berth.console.tx = none ∧
      berth.shore.tx = none ∧
      (talking.setConsole { talking.console with hold := true }).console.hold = true := by decide

theorem test_lines_are_sent :
    (next (exec .lineSent talking)).map (fun t => (t.sent, t.console.tx)) =
        some ([.line .console (.reply .RS [])], none) ∧
      (next (exec .shoreLineSent talking)).map (fun t => (t.sent, t.shore.tx)) =
        some ([.line .shore (.reply .DQ [])], none) := by decide

/-- A shore port with a line in the buffer and two in slots. -/
def waiting (hold : Bool) : State :=
  talking.setShore { talking.shore with
    hold := hold, buffer := some (.reply, .reply .CQ []), slots := [(.state, .reply .CS []), (.departure, .reply .CT [])] }

theorem test_witness_LinesAreSent_shore :
    (waiting true).shore.tx = some ⟨.reply .DQ [], 0⟩ ∧ (waiting true).shore.hold = true ∧
      (waiting false).shore.hold = false ∧ (waiting false).shore.buffer = some (.reply, .reply .CQ []) ∧
      (talking.console.tx ≠ none ∨ talking.console.hold = true ∨ talking.console.buffer = none) := by decide

/-- The next shore line starts, or stays under the hold; a RESUME starts it; lines on idle links go at once (R136, R189). -/
theorem test_lines_move_on :
    let lines := fun t : State => (t.shore.tx.map TxLine.line, t.shore.buffer.map Prod.snd, t.shore.slots.map Prod.snd)
    (next (exec .shoreLineSent (waiting false))).map lines =
        some (some (.reply .CQ []), some (.reply .CS []), [.reply .CT []]) ∧
      (next (exec .shoreLineSent (waiting true))).map lines =
        some (none, some (.reply .CQ []), [.reply .CS [], .reply .CT []]) ∧
      (next (exec .shoreLineSent (waiting true))).map (fun t => (next (exec (.resumeReceived .shore) t)).map lines) =
        some (some (some (.reply .CQ []), some (.reply .CS []), [.reply .CT []])) ∧
      lines (berth.shoreSend .state (.reply .CS [])) = (some (.reply .CS []), none, []) ∧
      (berth.consoleLine (.reply .RC [])).console.tx = some ⟨.reply .RC [], 0⟩ ∧
      (talking.consoleLine (.reply .RC [])).console.buffer = some ⟨.reply .RC [], false⟩ := by decide

/-! ## The verbs: each with the state its statement asks for, its own effect, and its refusals at the boundaries -/

theorem test_idleTakes (m : Mode) (v : Verb) (ps : List Int) : ConsoleTakes (idle m) v ps ∧ ShoreTakes (idle m) v ps :=
  ⟨⟨rfl, rfl, .inr ⟨rfl, Nat.zero_lt_succ 7, rfl, rfl⟩⟩, ⟨rfl, rfl, .inr ⟨rfl, rfl, rfl⟩⟩⟩

theorem test_holdingTakes (m : Mode) (v : Verb) (ps : List Int) :
    ConsoleTakes (holding ⟨v, ps⟩ (idle m)) v ps ∧ ShoreTakes (holding ⟨v, ps⟩ (idle m)) v ps :=
  ⟨⟨rfl, rfl, .inl rfl⟩, ⟨rfl, rfl, .inl rfl⟩⟩

/-- A FAULTED mover M3 with a true quiet reading; a report asked; a save in progress. -/
def faultedMover : State :=
  (berth.setMover .m3 { berth.mover .m3 with phase := .faulted, quiet := some true }).setMoverCause .m3 (some .noFlow)
def reporting : State := after [.report [1]] berth
def saving : State := after [.settingsSave []] berth

theorem test_witness_RecordsAreQueried_TQ :
    ConsoleTakes berth .TQ [1] ∧
      said (exec (.tankQuery [1]) berth) =
        some (.reply .TQ [.num 1, .word "P", .num 4000, .empty, .empty, .word "UNREAD", .empty, .word "STILL", .empty, .word "FREE", .word "NOT-EXCHANGED", .word "NONE", .num 0]) :=
  ⟨by unfold ConsoleTakes; decide, by decide⟩

theorem test_TQ_refusals :
   said (exec (.tankQuery []) berth) = no .TQ .args ∧ said (exec (.tankQuery [0]) berth) = no .TQ .range ∧
      said (exec (.tankQuery [25]) berth) = no .TQ .range ∧ said (exec (.tankQuery [24]) restarting) = no .TQ .halt ∧
      said (exec (.tankQuery [24]) berth) = no .TQ .none := by decide

theorem test_witness_TanksAreLockedAndDeclared_TL :
    ConsoleTakes berth .TL [2] ∧
      said (exec (.tankLock [2]) berth) =
        some (.reply .TL [.num 2, .word "LOCKED"]) :=
  ⟨by unfold ConsoleTakes; decide, by decide⟩

theorem test_TL_refusals :
   said (exec (.tankLock [1, 1]) berth) = no .TL .args ∧ said (exec (.tankLock [25]) berth) = no .TL .range ∧
      said (exec (.tankLock [1]) restarting) = no .TL .halt ∧ said (exec (.tankLock [24]) berth) = no .TL .none ∧
      said (exec (.tankLock [2]) moving) = no .TL .claim := by decide

theorem test_witness_TanksAreLockedAndDeclared_TU :
    ConsoleTakes berth .TU [1] ∧
      said (exec (.tankUnlock [1]) berth) =
        some (.reply .TU [.num 1, .word "FREE"]) :=
  ⟨by unfold ConsoleTakes; decide, by decide⟩

theorem test_TU_refusals :
   said (exec (.tankUnlock []) berth) = no .TU .args ∧ said (exec (.tankUnlock [0]) berth) = no .TU .range ∧
      said (exec (.tankUnlock [1]) restarting) = no .TU .halt ∧
      said (exec (.tankUnlock [3]) berth) = no .TU .none := by decide

theorem test_witness_TanksAreLockedAndDeclared_TO :
    ConsoleTakes berth .TO [1, 1, 0, 9999, 1] ∧
      said (exec (.tankOriginDeclare [1, 1, 0, 9999, 1]) berth) =
        some (.reply .TQ [.num 1, .word "P", .num 4000, .empty, .empty, .word "UNREAD", .empty, .word "STILL", .empty, .word "FREE", .word "EXCHANGED", .word "NONE", .num 0, .num 9999, .num 1]) :=
  ⟨by unfold ConsoleTakes; decide, by decide⟩

theorem test_TO_refusals :
   said (exec (.tankOriginDeclare [1, 1]) berth) = no .TO .args ∧
      said (exec (.tankOriginDeclare [1, 1, 0, 5, 5]) berth) = no .TO .range ∧
      said (exec (.tankOriginDeclare [1, 2, 0]) berth) = no .TO .range ∧
      said (exec (.tankOriginDeclare [1, 1, 0]) restarting) = no .TO .halt ∧
      said (exec (.tankOriginDeclare [3, 1, 0]) berth) = no .TO .none ∧
      said (exec (.tankOriginDeclare [2, 1, 0]) moving) = no .TO .claim := by decide

theorem test_witness_TransferIsAdmittedWithItsId_XA :
    ConsoleTakes berth .XA [0, 1, 0, 2, 300] ∧
      said (exec (.transferAdmit [0, 1, 0, 2, 300]) berth) =
        some (.reply .XA [.num 1, .word "ACTIVE", .word "M1", .empty]) :=
  ⟨by unfold ConsoleTakes; decide, by decide⟩

theorem test_XA_refusals :
   said (exec (.transferAdmit [0, 1, 0]) berth) = no .XA .args ∧
      said (exec (.transferAdmit [1, 1, 0, 2, 300]) berth) = no .XA .range ∧
      said (exec (.transferAdmit [0, 1, 0, 2, 4001]) berth) = no .XA .range ∧
      said (exec (.transferAdmit [0, 1, 0, 2, 300]) (idle .standby)) = no .XA .mode ∧
      said (exec (.transferAdmit [0, 1, 0, 2, 300]) halted) = no .XA .halt ∧
      said (exec (.transferAdmit [0, 1, 0, 3, 300]) berth) = no .XA .none := by decide

theorem test_witness_TransferIsChanged_XC :
    ConsoleTakes moving .XC [1, 1, 400] ∧
      said (exec (.transferChange [1, 1, 400]) moving) =
        some (.reply .XQ [.num 1, .word "PLANNED", .word "PUMP", .word "FILL", .word "ACTIVE", .word "M1", .empty, .word "CONSOLE", .empty, .empty, .empty, .num 0, .num 1, .num 2, .num 300, .num 0, .num 1, .num 400, .num 0]) :=
  ⟨by unfold ConsoleTakes; decide, by decide⟩

theorem test_XC_refusals :
   said (exec (.transferChange [1]) moving) = no .XC .args ∧
      said (exec (.transferChange [1, 25]) moving) = no .XC .range ∧
      said (exec (.transferChange [1, 1, 4001]) moving) = no .XC .range ∧
      said (exec (.transferChange [1, 1]) restarting) = no .XC .halt ∧
      said (exec (.transferChange [2, 1]) moving) = no .XC .none ∧
      said (exec (.transferChange [1, 3]) moving) = no .XC .none ∧
      said (exec (.transferChange [1, 1]) moving) = no .XC .none ∧
      said (exec (.transferChange [1, 2]) moving) = no .XC .state := by decide

/-- A pending transfer of four tanks that has never been assigned, both pumps FAULTED. -/
def unassigned : State :=
  ((berth.setMover .m1 { berth.mover .m1 with phase := .faulted }).setMover .m2
    { berth.mover .m2 with phase := .faulted }).setTransfers
    ⟨[{ id := 1, cls := .planned, kind := .pump, direction := .fill,
        entries := [⟨1, 5, false⟩, ⟨2, 6, false⟩, ⟨3, 7, true⟩, ⟨4, 8, false⟩], active := 1, source := .console,
        stopIndex := none, reverify := false, reservation := none, assigned := false }], [1], 1⟩

theorem test_witness_TransferIsChanged_entries : ∃ e ∈ ([⟨2, 6, true⟩, ⟨3, 7, false⟩] : List Entry), e.done = false := by
  decide

/-- The active entry removed: index 1 while never assigned (R53), else one of the entries still to be worked (log 35). -/
theorem test_XC_removes_the_active_entry :
    (next (exec (.transferChange [1, 1]) unassigned)).map
        (fun t => (t.transfers.records.map fun x => (x.active, x.activeTank), t.freeCount)) = some ([(1, some 2)], 0) ∧
      unassigned.transfers.records.map (fun x => ({ x with assigned := true }.removeEntry 1 5).active) = [3] ∧
      unassigned.transfers.records.map (fun x => ({ x with active := 2 }.removeEntry 1 5).active) = [1] := by decide

theorem test_witness_TransferIsRetired_XR :
    ConsoleTakes moving .XR [1] ∧
      said (exec (.transferRetire [1]) moving) =
        some (.reply .XR [.num 1, .word "RETIRING"]) :=
  ⟨by unfold ConsoleTakes; decide, by decide⟩

theorem test_XR_refusals :
   said (exec (.transferRetire []) moving) = no .XR .args ∧
      said (exec (.transferRetire [256]) moving) = no .XR .range ∧
      said (exec (.transferRetire [1]) restarting) = no .XR .halt ∧
      said (exec (.transferRetire [2]) moving) = no .XR .none := by decide

theorem test_witness_TransferQueryReports_XQ :
    ConsoleTakes moving .XQ [] ∧
      said (exec (.transferQuery []) moving) =
        some (.reply .XQ [.num 1, .num 0, .num 1]) :=
  ⟨by unfold ConsoleTakes; decide, by decide⟩

theorem test_XQ_refusals :
   said (exec (.transferQuery [1, 1]) moving) = no .XQ .args ∧
      said (exec (.transferQuery [0]) moving) = no .XQ .range ∧
      said (exec (.transferQuery []) restarting) = no .XQ .halt ∧
      said (exec (.transferQuery [255]) moving) = no .XQ .none := by decide

theorem test_witness_RecordsAreQueried_MQ :
    ConsoleTakes moving .MQ [1] ∧
      said (exec (.moverQuery [1]) moving) =
        some (.reply .MQ [.word "M1", .word "PUMP", .word "LINING", .empty, .empty, .empty, .num 1, .num 1, .num 2, .empty, .empty, .num 0, .empty, .empty, .empty, .empty, .empty, .empty]) :=
  ⟨by unfold ConsoleTakes; decide, by decide⟩

theorem test_MQ_refusals :
   said (exec (.moverQuery []) berth) = no .MQ .args ∧ said (exec (.moverQuery [4]) berth) = no .MQ .range ∧
      said (exec (.moverQuery [3]) restarting) = no .MQ .halt := by decide

theorem test_witness_MoverAndHaltAreAcknowledged_MR :
    ConsoleTakes faultedMover .MR [3] ∧
      said (exec (.moverReset [3]) faultedMover) =
        some (.reply .MR [.word "M3", .word "IDLE"]) :=
  ⟨by unfold ConsoleTakes; decide, by decide⟩

theorem test_MR_refusals :
   said (exec (.moverReset []) berth) = no .MR .args ∧ said (exec (.moverReset [0]) berth) = no .MR .range ∧
      said (exec (.moverReset [3]) restarting) = no .MR .halt ∧
      said (exec (.moverReset [3]) berth) = no .MR .state := by decide

theorem test_witness_StepsJoinThePlan_PA :
    ConsoleTakes berth .PA [7, 1, 100, 0] ∧
      said (exec (.planAppend [7, 1, 100, 0]) berth) =
        some (.reply .PA [.num 7, .num 1, .word "READY"]) :=
  ⟨by unfold ConsoleTakes; decide, by decide⟩

theorem test_PA_refusals :
   said (exec (.planAppend [7, 1, 100]) berth) = no .PA .args ∧
      said (exec (.planAppend [7, 1, 0, 0]) berth) = no .PA .range ∧
      said (exec (.planAppend [1000, 1, 100, 0]) berth) = no .PA .range ∧
      said (exec (.planAppend [7, 1, 100, 0]) (idle .commission)) = no .PA .mode ∧
      said (exec (.planAppend [7, 1, 100, 0]) restarting) = no .PA .halt ∧
      said (exec (.planAppend [7, 2, 100, 0]) berth) = no .PA .none ∧
      said (exec (.planAppend [7, 1, 100, 0]) planned) = no .PA .state := by decide

theorem test_witness_StepsJoinThePlan_PI :
    ConsoleTakes planned .PI [7, 8, 1, 100, 0] ∧
      said (exec (.planInsert [7, 8, 1, 100, 0]) planned) =
        some (.reply .PI [.num 8, .num 1, .word "READY"]) :=
  ⟨by unfold ConsoleTakes; decide, by decide⟩

theorem test_PI_refusals :
   said (exec (.planInsert [7, 8, 1, 100]) planned) = no .PI .args ∧
      said (exec (.planInsert [0, 8, 1, 100, 0]) planned) = no .PI .range ∧
      said (exec (.planInsert [7, 8, 1, 100, 0]) (idle .commission)) = no .PI .mode ∧
      said (exec (.planInsert [7, 8, 1, 100, 0]) restarting) = no .PI .halt ∧
      said (exec (.planInsert [7, 8, 1, 100, 0]) berth) = no .PI .none ∧
      said (exec (.planInsert [7, 8, 1, 100, 0]) granted) = no .PI .state := by decide

theorem test_witness_StepsAreChangedAndRetired_PC :
    ConsoleTakes planned .PC [7, 200, 5, 1, 40] ∧
      said (exec (.planChange [7, 200, 5, 1, 40]) planned) =
        some (.reply .PC [.num 7, .word "PLANNED", .word "RUNNING"]) :=
  ⟨by unfold ConsoleTakes; decide, by decide⟩

theorem test_PC_refusals :
   said (exec (.planChange [7, 200]) planned) = no .PC .args ∧
      said (exec (.planChange [7, 30001, 0]) planned) = no .PC .range ∧
      said (exec (.planChange [7, 200, 0]) restarting) = no .PC .halt ∧
      said (exec (.planChange [8, 200, 0]) planned) = no .PC .none ∧
      said (exec (.planChange [7, 200, 0]) pouring) = no .PC .state := by decide

theorem test_witness_StepsAreChangedAndRetired_PR :
    ConsoleTakes planned .PR [7] ∧
      said (exec (.planRetire [7]) planned) =
        some (.reply .PR [.num 7, .empty]) :=
  ⟨by unfold ConsoleTakes; decide, by decide⟩

theorem test_PR_refusals :
   said (exec (.planRetire []) planned) = no .PR .args ∧ said (exec (.planRetire [0]) planned) = no .PR .range ∧
      said (exec (.planRetire [7]) restarting) = no .PR .halt ∧
      said (exec (.planRetire [999]) planned) = no .PR .none ∧
      said (exec (.planRetire [7]) granted) = no .PR .state := by decide

/-- A step with its paired transfer ACTIVE on M1. -/
def paired : State := after [.planAppend [7, 1, 100, 5, 1, 0]] (berth.setTank 1 { berth.tank 1 with volume := some 3000 })

theorem test_witness_StepsAreChangedAndRetired_paired :
    (∃ t ∈ (paired.transfer? 1).toList, t.source = .step 7) ∧ ¬ (∃ t ∈ (paired.transfer? 2).toList, t.source = .step 7) ∧
      ((paired.mover .m1).run = some 1 ∧ (paired.mover .m1).phase = .lining) := by decide

/-- The four cases of a paired retirement (R62). -/
theorem test_paired_retirement :
    paired.pairedAnswer (.running 1) 7 = some .retiring ∧ paired.pairedAnswer (.running 2) 7 = some .retired ∧
      (paired.setMover .m1 { paired.mover .m1 with phase := .stopping .fault none .pump }).pairedAnswer (.running 1) 7 =
        some .ending ∧
      ((paired.retirePaired (.running 1) 7).mover .m1).phase = .stopping .ended (some .retired) .pump ∧
      paired.pairedAnswer .unpaired 7 = none := by decide

theorem test_witness_ConditionRecordsAreSet_FW :
    ConsoleTakes berth .FW [1, 99999] ∧
      said (exec (.fixedWeight [1, 99999]) berth) =
        some (.reply .FW [.num 1, .num 99999, .num 1]) :=
  ⟨by unfold ConsoleTakes; decide, by decide⟩

theorem test_FW_refusals :
   said (exec (.fixedWeight [1]) berth) = no .FW .args ∧ said (exec (.fixedWeight [9, 0]) berth) = no .FW .range ∧
      said (exec (.fixedWeight [1, 100000]) berth) = no .FW .range ∧
      said (exec (.fixedWeight [1, 0]) restarting) = no .FW .halt ∧
      said (exec (.fixedWeight [8, 0]) berth) = no .FW .none := by decide

theorem test_witness_ConditionRecordsAreSet_HC :
    ConsoleTakes berth .HC [1, 999999] ∧
      said (exec (.holdCargo [1, 999999]) berth) =
        some (.reply .HC [.num 1, .num 999999, .num 1]) :=
  ⟨by unfold ConsoleTakes; decide, by decide⟩

theorem test_HC_refusals :
   said (exec (.holdCargo [1]) berth) = no .HC .args ∧ said (exec (.holdCargo [10, 0]) berth) = no .HC .range ∧
      said (exec (.holdCargo [1, 1000000]) berth) = no .HC .range ∧
      said (exec (.holdCargo [1, 0]) restarting) = no .HC .halt ∧
      said (exec (.holdCargo [9, 0]) berth) = no .HC .none ∧
      said (exec (.holdCargo [1, 0]) pouring) = no .HC .busy := by decide

theorem test_witness_ConditionRecordsAreSet_BR :
    ConsoleTakes berth .BR [1, 0, 9999, 4, 5] ∧
      said (exec (.berthRecord [1, 0, 9999, 4, 5]) berth) =
        some (.reply .BR [.num 1, .num 0, .num 9999, .num 4, .num 5]) :=
  ⟨by unfold ConsoleTakes; decide, by decide⟩

theorem test_BR_refusals :
   said (exec (.berthRecord [1]) berth) = no .BR .args ∧
      said (exec (.berthRecord [0, 1, 1, 1, 1]) berth) = no .BR .range ∧
      said (exec (.berthRecord [1, 0, 0, 0, 0]) restarting) = no .BR .halt ∧
      said (exec (.berthRecord [1, 0, 0, 0, 0]) granted) = no .BR .busy := by decide

theorem test_witness_ConditionRecordsAreSet_TD :
    ConsoleTakes berth .TD [-999] ∧
      said (exec (.tide [-999]) berth) =
        some (.reply .TD [.num (-999)]) :=
  ⟨by unfold ConsoleTakes; decide, by decide⟩

theorem test_TD_refusals :
   said (exec (.tide []) berth) = no .TD .args ∧ said (exec (.tide [-1000]) berth) = no .TD .range ∧
      said (exec (.tide [10000]) berth) = no .TD .range ∧
      said (exec (.tide [0]) restarting) = no .TD .halt := by decide

theorem test_witness_ConditionAndMarginsAreReported_KQ :
    ConsoleTakes berth .KQ [3] ∧
      said (exec (.conditionQuery [3]) berth) =
        some (.reply .KQ [.empty, .empty, .empty, .empty, .empty, .empty, .empty, .empty, .empty, .empty, .empty, .empty, .empty, .word "UNSET"]) :=
  ⟨by unfold ConsoleTakes; decide, by decide⟩

theorem test_KQ_refusals :
   said (exec (.conditionQuery [0, 0]) berth) = no .KQ .args ∧
      said (exec (.conditionQuery [4]) berth) = no .KQ .range ∧
      said (exec (.conditionQuery []) restarting) = no .KQ .halt := by decide

theorem test_witness_ConditionAndMarginsAreReported_WQ :
    ConsoleTakes berth .WQ [0, 0] ∧
      said (exec (.watchedQuantityQuery [0, 0]) berth) =
        some (.reply .WQ [.num 0, .word "+", .word "DISCHARGE", .num 100, .num 1, .empty]) :=
  ⟨by unfold ConsoleTakes; decide, by decide⟩

/-- Field 8 in COMMISSION, before the next publication: none for a limit, the berth record's for a clearance (R122, R133). -/
theorem test_WQ_clearance_without_limits :
    let s := idle .commission
    let u := (s.setCond { s.cond with berth := some ⟨9, 900, 2500, 50, 60⟩ }).setMargins
      ⟨Vector.replicate 36 ⟨none, none, .indeterminate, .minus, none⟩, none⟩
    u.wqLimit 33 = .empty ∧ u.wqLimit 34 = .num 50 ∧ u.wqLimit 35 = .num 60 ∧ s.wqLimit 34 = .empty := by decide

theorem test_WQ_refusals :
   said (exec (.watchedQuantityQuery [0, 0, 0]) berth) = no .WQ .args ∧
      said (exec (.watchedQuantityQuery [36]) berth) = no .WQ .range ∧
      said (exec (.watchedQuantityQuery [35, 2]) berth) = no .WQ .range ∧
      said (exec (.watchedQuantityQuery []) restarting) = no .WQ .halt := by decide

/-- The reply is in transmission, and the header follows it into the buffer (R173). -/
theorem test_witness_ReportsAreAskedAndAborted_RP :
    ConsoleTakes berth .RP [4] ∧
      (next (exec (.report [4]) berth)).map (fun t => (t.console.tx.map fun x => x.line, t.console.outgoing.length)) =
        some (some (.reply .RP [.num 4]), 2) := ⟨by unfold ConsoleTakes; decide, by decide⟩

theorem test_RP_refusals :
   said (exec (.report []) berth) = no .RP .args ∧ said (exec (.report [5]) berth) = no .RP .range ∧
      said (exec (.report [1]) (idle .commission)) = no .RP .mode ∧
      said (exec (.report [1]) restarting) = no .RP .halt ∧ said (exec (.report [4]) moving) = no .RP .state ∧
      said (exec (.report [1]) reporting) = no .RP .busy := by decide

theorem test_witness_ReportsAreAskedAndAborted_RA :
    ConsoleTakes reporting .RA [] ∧
      said (exec (.reportAbort []) reporting) =
        some (.reply .RA [.num 1, .word "ABORTED"]) :=
  ⟨by unfold ConsoleTakes; decide, by decide⟩

theorem test_RA_refusals :
   said (exec (.reportAbort [1]) berth) = no .RA .args ∧ said (exec (.reportAbort []) restarting) = no .RA .halt ∧
      said (exec (.reportAbort []) berth) = no .RA .state := by decide

theorem test_witness_AttentionAndIdentityReport_AQ :
    ConsoleTakes berth .AQ [64] ∧
      said (exec (.attentionQuery [64]) berth) =
        some (.reply .AQ [.num 0, .num 0, .num 0, .num 64]) :=
  ⟨by unfold ConsoleTakes; decide, by decide⟩

theorem test_AQ_refusals :
   said (exec (.attentionQuery [1, 1]) berth) = no .AQ .args ∧
      said (exec (.attentionQuery [65]) berth) = no .AQ .range ∧
      said (exec (.attentionQuery [0]) berth) = no .AQ .range := by decide

theorem test_witness_AttentionAndIdentityReport_ID :
    ConsoleTakes berth .ID [0] ∧
      said (exec (.identify [0]) berth) =
        some (.reply .ID [.num 0, .num 2, .word "MERIGAL PANDREL"]) :=
  ⟨by unfold ConsoleTakes; decide, by decide⟩

theorem test_ID_refusals :
   said (exec (.identify [1, 1]) berth) = no .ID .args ∧
      said (exec (.identify [3]) berth) = no .ID .range := by decide

theorem test_witness_AttentionItemsComeAndGo_AK :
    ConsoleTakes berth .AK [4] ∧
      said (exec (.attentionAcknowledge [4]) berth) =
        some (.reply .AK [.num 0, .num 0]) :=
  ⟨by unfold ConsoleTakes; decide, by decide⟩

theorem test_AK_refusals :
   said (exec (.attentionAcknowledge []) berth) = no .AK .args ∧
      said (exec (.attentionAcknowledge [3]) berth) = no .AK .range ∧
      said (exec (.attentionAcknowledge [4]) restarting) = no .AK .halt := by decide

theorem test_witness_RecordsAreQueried_FQ :
    ConsoleTakes berth .FQ [] ∧
      said (exec (.faultQuery []) berth) =
        some (.reply .FQ [.word "NORMAL", .empty, .num 0, .empty, .empty, .empty, .word "GOOD", .num 0, .empty, .empty, .empty, .empty]) :=
  ⟨by unfold ConsoleTakes; decide, by decide⟩

theorem test_FQ_refusals :
   said (exec (.faultQuery [1]) berth) = no .FQ .args := by decide

theorem test_witness_MoverAndHaltAreAcknowledged_FA :
    ConsoleTakes halted .FA [] ∧
      said (exec (.faultAcknowledge []) halted) =
        some (.reply .FA [.word "NORMAL"]) :=
  ⟨by unfold ConsoleTakes; decide, by decide⟩

theorem test_FA_refusals :
   said (exec (.faultAcknowledge [1]) berth) = no .FA .args ∧
      said (exec (.faultAcknowledge []) restarting) = no .FA .halt ∧
      said (exec (.faultAcknowledge []) berth) = no .FA .state := by decide

theorem test_witness_SettingsAndResetVerbsAnswer_SS :
    ConsoleTakes berth .SS [7, 0] ∧
      said (exec (.settingsSet [7, 0]) berth) =
        some (.reply .SS [.num 3, .num 3, .num 3, .num 3, .num 0, .num 0, .num 0, .word "IDLE"]) :=
  ⟨by unfold ConsoleTakes; decide, by decide⟩

theorem test_SS_refusals :
   said (exec (.settingsSet [1]) berth) = no .SS .args ∧ said (exec (.settingsSet [4, 8]) berth) = no .SS .range ∧
      said (exec (.settingsSet [5, 2]) berth) = no .SS .range ∧
      said (exec (.settingsSet [8, 0]) berth) = no .SS .range ∧
      said (exec (.settingsSet []) restarting) = no .SS .halt := by decide

theorem test_witness_SettingsAndResetVerbsAnswer_SV :
    ConsoleTakes berth .SV [] ∧
      said (exec (.settingsSave []) berth) =
        some (.reply .SV [.word "SAVING"]) :=
  ⟨by unfold ConsoleTakes; decide, by decide⟩

theorem test_SV_refusals :
   said (exec (.settingsSave [1]) berth) = no .SV .args ∧ said (exec (.settingsSave []) restarting) = no .SV .halt ∧
      said (exec (.settingsSave []) saving) = no .SV .busy := by decide

theorem test_witness_ParticularsAreWritten_PW :
    ConsoleTakes (idle .commission) .PW [2839, -7] ∧ ((idle .commission).particulars.edit.getD []).wf = true ∧
      said (exec (.particularsWrite [2839, -7]) (idle .commission)) =
        some (.reply .PW [.num 2839, .num 1]) :=
  ⟨by unfold ConsoleTakes; decide, by decide⟩

theorem test_PW_refusals :
   said (exec (.particularsWrite [0]) berth) = no .PW .args ∧
      said (exec (.particularsWrite [2839, 1, 1]) berth) = no .PW .range ∧
      said (exec (.particularsWrite [0, 1]) restarting) = no .PW .halt ∧
      said (exec (.particularsWrite [0, 1]) berth) = no .PW .lock := by decide

theorem test_witness_ParticularsAreCommitted_PK :
    ConsoleTakes (idle .commission) .PK [] ∧
      said (exec (.particularsCommit []) (idle .commission)) =
        some (.reply .PK [.word "REJECTED", .num 2]) :=
  ⟨by unfold ConsoleTakes; decide, by decide⟩

theorem test_PK_refusals :
   said (exec (.particularsCommit [1]) berth) = no .PK .args ∧
      said (exec (.particularsCommit []) restarting) = no .PK .halt ∧
      said (exec (.particularsCommit []) berth) = no .PK .lock := by decide

theorem test_witness_ModeAndLocationAreSet_MD :
    ConsoleTakes berth .MD [2] ∧
      said (exec (.mode [2]) berth) =
        some (.reply .MD [.num 2]) :=
  ⟨by unfold ConsoleTakes; decide, by decide⟩

theorem test_MD_refusals :
   said (exec (.mode []) berth) = no .MD .args ∧ said (exec (.mode [4]) berth) = no .MD .range ∧
      said (exec (.mode [0]) restarting) = no .MD .halt ∧ said (exec (.mode [3]) planned) = no .MD .state ∧
      said (exec (.mode [0]) moving) = no .MD .busy := by decide

theorem test_witness_ModeAndLocationAreSet_LC :
    ConsoleTakes (idle .passage) .LC [9999, 1] ∧
      said (exec (.location [9999, 1]) (idle .passage)) =
        some (.reply .LC [.num 9999, .num 1]) :=
  ⟨by unfold ConsoleTakes; decide, by decide⟩

theorem test_LC_refusals :
   said (exec (.location [1]) berth) = no .LC .args ∧ said (exec (.location [0, 1]) berth) = no .LC .range ∧
      said (exec (.location [1, 1]) berth) = no .LC .mode := by decide

theorem test_witness_SettingsAndResetVerbsAnswer_RS :
    ConsoleTakes berth .RS [] ∧
      said (exec (.commandResetRequest []) berth) =
        some (.reply .RS []) :=
  ⟨by unfold ConsoleTakes; decide, by decide⟩

theorem test_RS_refusals :
   said (exec (.commandResetRequest [1]) berth) = no .RS .args ∧
      said (exec (.commandResetRequest []) restarting) = no .RS .halt := by decide

theorem test_witness_SettingsAndResetVerbsAnswer_RQ :
    ConsoleTakes berth .RQ [] ∧
      said (exec (.resetCauseQuery []) berth) =
        some (.reply .RQ [.num 1, .num 0, .num 0, .num 0]) :=
  ⟨by unfold ConsoleTakes; decide, by decide⟩

theorem test_RQ_refusals :
   said (exec (.resetCauseQuery [1]) berth) = no .RQ .args := by decide

theorem test_witness_SettingsAndResetVerbsAnswer_RC :
    ConsoleTakes berth .RC [] ∧
      said (exec (.resetCauseClear []) berth) =
        some (.reply .RC []) :=
  ⟨by unfold ConsoleTakes; decide, by decide⟩

theorem test_RC_refusals :
   said (exec (.resetCauseClear [1]) berth) = no .RC .args ∧
      said (exec (.resetCauseClear []) restarting) = no .RC .halt := by decide

/-- The clearance begins: no line yet, the sequence in hand, a prediction run of the remaining tonnes (R146). -/
theorem test_witness_ClearanceIsAskedAndChuteStarted_CQ :
    ShoreTakes planned .CQ [7] ∧
      (next (exec (.clearanceQuery [7]) planned)).map (fun t => (t.pour.clearance, t.shore.rx.inHand, t.cond.request)) =
        some (some 7, some ⟨.CQ, [7]⟩, some ⟨7, 1, 100, 1, true⟩) := ⟨by unfold ShoreTakes; decide, by decide⟩

theorem test_CQ_refusals :
   shoreSaid (exec (.clearanceQuery []) planned) = no .CQ .args ∧
      shoreSaid (exec (.clearanceQuery [0]) planned) = no .CQ .range ∧
      shoreSaid (exec (.clearanceQuery [7]) (idle .standby)) = no .CQ .mode ∧
      shoreSaid (exec (.clearanceQuery [8]) planned) = no .CQ .none ∧
      shoreSaid (exec (.clearanceQuery [7]) granted) = no .CQ .state := by decide

theorem test_witness_ClearanceIsAskedAndChuteStarted_CS :
    ShoreTakes granted .CS [7] ∧
      shoreSaid (exec (.chuteStart [7]) granted) =
        some (.reply .CS [.num 7, .num 100]) :=
  ⟨by unfold ShoreTakes; decide, by decide⟩

theorem test_CS_refusals :
   shoreSaid (exec (.chuteStart []) planned) = no .CS .args ∧
      shoreSaid (exec (.chuteStart [1000]) planned) = no .CS .range ∧
      shoreSaid (exec (.chuteStart [7]) (idle .standby)) = no .CS .mode ∧
      shoreSaid (exec (.chuteStart [7]) halted) = no .CS .halt ∧
      shoreSaid (exec (.chuteStart [8]) planned) = no .CS .none ∧
      shoreSaid (exec (.chuteStart [7]) pouring) = no .CS .state ∧
      shoreSaid (exec (.chuteStart [7]) planned) = no .CS .late := by decide

theorem test_witness_TalliesAreTaken_CT :
    ShoreTakes pouring .CT [7, 40] ∧
      shoreSaid (exec (.chuteTally [7, 40]) pouring) =
        some (.reply .CT [.num 7, .num 40, .num 40, .num 1]) :=
  ⟨by unfold ShoreTakes; decide, by decide⟩

theorem test_CT_refusals :
   shoreSaid (exec (.chuteTally [7]) planned) = no .CT .args ∧
      shoreSaid (exec (.chuteTally [7, 100000]) planned) = no .CT .range ∧
      shoreSaid (exec (.chuteTally [7, 1]) restarting) = no .CT .halt ∧
      shoreSaid (exec (.chuteTally [8, 1]) planned) = no .CT .none ∧
      shoreSaid (exec (.chuteTally [7, 1]) planned) = no .CT .state := by decide

theorem test_witness_TalliesAreTaken_CE :
    ShoreTakes pouring .CE [7, 100] ∧
      shoreSaid (exec (.chuteEnd [7, 100]) pouring) =
        some (.reply .CE [.num 7, .num 100, .num 100, .num 1]) :=
  ⟨by unfold ShoreTakes; decide, by decide⟩

theorem test_CE_refusals :
   shoreSaid (exec (.chuteEnd [7]) planned) = no .CE .args ∧
      shoreSaid (exec (.chuteEnd [0, 1]) planned) = no .CE .range ∧
      shoreSaid (exec (.chuteEnd [7, 1]) restarting) = no .CE .halt ∧
      shoreSaid (exec (.chuteEnd [8, 1]) planned) = no .CE .none ∧
      shoreSaid (exec (.chuteEnd [7, 1]) granted) = no .CE .state := by decide

theorem test_witness_ConditionAndMarginsAreReported_DQ :
    ShoreTakes berth .DQ [] ∧
      shoreSaid (exec (.draftQuery []) berth) =
        some (.reply .DQ [.empty, .empty, .empty, .empty, .empty, .empty, .empty, .empty]) :=
  ⟨by unfold ShoreTakes; decide, by decide⟩

theorem test_DQ_refusals :
   shoreSaid (exec (.draftQuery [1]) berth) = no .DQ .args ∧
      shoreSaid (exec (.draftQuery []) restarting) = no .DQ .halt := by decide
/-! ## Records and rules -/

theorem test_witness_StoreWritesAndTimersComplete_writes :
    berth.tankTable.writing = none ∧ berth.settings.saving = none ∧ saving.settings.saving = some Settings.defaults ∧
      (berth.setTankTable { berth.tankTable with writing := some berth.tankTable.store, rewrite := true }
        ).tankTable.writing = some berth.tankTable.store := by decide

theorem test_store_writes_complete :
    (next (exec .settingsSaveComplete saving)).map (fun t => (t.settings.storeGood, t.settings.saving)) =
        some (true, none) ∧
      (next (exec .originStoreWriteComplete (after [.tankOriginDeclare [1, 1, 0]] berth))).map
        (fun t => (t.tankTable.storeGood, t.tankTable.writing, (t.tankTable.store[0]).exchange)) =
        some (true, none, .exchanged) := by decide

theorem test_witness_TransferIsAdmittedWithItsId :
    berth.transfers.records.length < 16 ∧ berth.transfers.counter = 0 ∧ berth.transfers.records = [] ∧
      (moving.setTransfers { moving.transfers with counter := 255 }).transfers.records.length < 16 := by decide

/-- The counter wraps from 255 past 0, and past an id in use (R42). -/
theorem test_ids_wrap :
    (moving.setTransfers { moving.transfers with counter := 255 }).nextId = 2 ∧ berth.nextId = 1 := by decide

/-- A commit of the block with hold 1 taken out. -/
def committing : State :=
  berth.setParticulars { berth.particulars with writing := some (Memory.write ship 1600 0) }

theorem test_witness_ParticularsAreCommitted :
    berth.particulars.writing = none ∧ committing.particulars.writing = some (Memory.write ship 1600 0) ∧
      roleOf berth.parts 10 ≠ roleOf (some (Memory.write ship 86 20)) 10 ∧
      roleOf berth.parts 63 = roleOf (some (Memory.write ship 86 20)) 63 ∧
      tankDefined berth.parts 1 ≠ tankDefined (some (Memory.write ship 64 0)) 1 := by decide

/-- A tank that a commit takes out of the particulars has the origin store written and an evaluation asked (R19, R101). -/
theorem test_commit_writes_the_origins :
    (next (exec .particularsCommitTakesEffect
        (berth.setParticulars { berth.particulars with writing := some (Memory.write ship 64 0) }))).map
        (fun t => (t.tankTable.writing.isSome, t.cond.evaluation.isSome, t.cond.stamp)) = some (true, true, 1) := by decide

theorem test_commit_takes_effect :
    (next (exec .particularsCommitTakesEffect committing)).map
        (fun t => (holdDefined t.parts 1, tankDefined t.parts 1, t.cond.stamp, t.particulars.writing.isNone)) =
      some (false, true, 1, true) := by decide

/-- 64 items, each once: the second and the third of weight 1, the others of weight 2 or 4. -/
def fullSet : AttentionSet :=
  ⟨[.halt, .gauge 1, .gauge 2, .ended .m1] ++ (List.range 60).map Item.stepHeld, 255⟩

theorem test_witness_AttentionItemsComeAndGo :
    fullSet.items.length = 64 ∧ fullSet.items.Nodup ∧ Item.halt ∈ fullSet.items ∧ Item.limit 0 ∉ fullSet.items ∧
      Item.tideStale ∉ fullSet.items ∧ (∀ x ∈ fullSet.items, Item.tideStale.weight ≤ x.weight) ∧
      (fullSet.items = [.halt] ++ .gauge 1 :: ([.gauge 2, .ended .m1] ++ (List.range 60).map Item.stepHeld)) ∧
      (Item.gauge 1).weight < (Item.limit 0).weight ∧ (∀ x ∈ fullSet.items, (Item.gauge 1).weight ≤ x.weight) ∧
      (∀ x ∈ [Item.halt], x.weight ≠ (Item.gauge 1).weight) ∧ berth.attention.items.length < 64 := by decide

/-- The kind and object codes at the ends of their ranges (section 10.7). -/
theorem test_item_codes :
    itemOf 1 24 = some (.gauge 24) ∧ itemOf 1 0 = none ∧ itemOf 1 25 = none ∧ itemOf 2 35 = some (.indet 35) ∧
      itemOf 41 36 = none ∧ itemOf 4 71 = some (.corrRefused 35 .minus) ∧ itemOf 5 255 = some (.stripRefused 255) ∧
      itemOf 6 63 = some (.point 63) ∧ itemOf 7 1 = none ∧ itemOf 22 3 = some (.moverFault .m3) ∧
      itemOf 42 999 = some (.stepHeld 999) ∧ itemOf 42 1000 = none := by decide

theorem test_attention_displaces :
    (fullSet.raise (.limit 0)).items.getLast? = some (.limit 0) ∧ Item.gauge 1 ∉ (fullSet.raise (.limit 0)).items ∧
      fullSet.raise .tideStale = fullSet ∧ ((⟨[], 0⟩ : AttentionSet).raise .halt).code = 4 := by decide

/-! ## The field loop -/

/-- A part whose frame timer runs, with an open window of each sort and staged values. -/
def opened (kind : FrameKind) (restart : Bool) : State :=
  berth.setLoop { berth.loop with frameTimer := some 500, window := some ⟨kind, none, 0, restart⟩ }

/-- Every drive point read off, and the gauge of tank 1 read 100. -/
def quietScan (restart : Bool) : State :=
  (opened .full restart).setLoop { (opened .full restart).loop with
    staging := [(0, 0), (1, 0), (2, 0), (3, 0), (4, 0), (5, 0), (6, 0), (7, 0), (10, 0), (11, 100), (12, 0)] }

theorem test_witness_FramesAreSentAndReportsTaken :
    berth.loop.frameTimer = none ∧ (opened .full false).loop.frameTimer = some 500 ∧ berth.loop.window = none ∧
      (opened .full false).loop.window = some ⟨.full, none, 0, false⟩ ∧
      (opened .full true).loop.window = some ⟨.full, none, 0, true⟩ := by decide

theorem test_frame_and_failure :
    (next (exec .frameTimerExpiry (opened .full false))).map
        (fun t => (t.now, t.loop.frameTimer, t.loop.failures, t.sent)) =
        some (500, some 1000, 1, [.frame .full (List.replicate 64 false)]) ∧
      (next (exec .scanLimitExpiry (opened .full false))).map (fun t => (t.now, t.loop.window, t.loop.fullScan)) =
        some (250, none, true) := by decide

/-- A failed restart scan sets the full-scan flag and leaves the count (R31, R38). -/
theorem test_restart_scan_fails :
    (next (exec .scanLimitExpiry ((opened .full true).setLoop { (opened .full true).loop with fullScan := false }))).map
        (fun t => (t.loop.fullScan, t.loop.failures, t.faults.lastAttempt)) = some (true, 0, some .failed) := by decide

theorem test_witness_FramesAreSentAndReportsTaken_reports :
    berth.loop.window = none ∧ (127 : Byte).toNat = 127 ∧ (0 : Byte).toNat ≠ 127 ∧ (63 : Byte).toNat ≠ 127 ∧
      (opened .full false).loop.window = some ⟨.full, none, 0, false⟩ := by decide

theorem test_point_report :
    (next (exec (.pointReport 11 4095) (opened .full false))).map (fun t => (t.loop.staging, t.loop.failures)) =
        some ([(11, 4095)], 0) ∧
      (next (exec (.pointReport 10 3) (opened .full false))).map (fun t => (t.loop.window, t.loop.failures)) =
        some (none, 1) := by decide

theorem test_witness_ScansAreCommitted :
    berth.loop.window = none ∧ (quietScan false).loop.window = some ⟨.full, none, 0, false⟩ ∧
      definedTanks (quietScan false).parts = [1, 2] ∧
      stagedAt (quietScan false).loop.staging (tankGauge (quietScan false).parts 1) = some 100 ∧
      stagedAt (quietScan false).loop.staging (tankGauge (quietScan false).parts 2) = none := by decide

theorem test_scan_committed :
    (next (exec .endOfScanReport (quietScan false))).map
        (fun t => ((t.tank 1).volume, (t.tank 1).gauge, (t.tank 2).gauge, t.loop.allOff, t.loop.fullScan)) =
      some (some 100, .good, .unread, some true, false) := by decide +kernel

/-- A pump commanded OFF that is found RUNNING is a class-1 cause, and a valve without an owner raises NOTICE POINT (R35,
R36). -/
theorem test_scan_finds_points_astray :
    let s := quietScan false
    (next (exec .endOfScanReport (s.setLoop { s.loop with
        drive := Vector.replicate 64 ⟨false, .settled, none⟩, staging := [(0, 1), (1, 1)] ++ s.loop.staging.drop 2 }))).map
        (fun t => (t.faults.causes, t.attention.items)) = some ([.pumpAstray 0], [.point 1, .halt]) := by decide +kernel

theorem test_witness_DriveImageIsWrittenAndGraded : (0 < 64 ∧ 63 < 64) ∧ (roleOf berth.parts 63).isDrive = false := by
  decide

/-! ## The rules -/

/-- The block with the volumes of a sounding table that leave the tank's bounds. -/
def odd : Memory := (Memory.write ship 71 (-5)).write 73 4001

theorem test_witness_TanksAreReadAndFilled_conversion :
    ([(0, 0), (4000, 4000)] : List (Int × Int)).Pairwise (fun x y => x.1 < y.1) ∧ (0 : Int) ≤ 0 ∧
      ([(0, 0), (4000, 4000)] : List (Int × Int)).getLast? = some (4000, 4000) ∧
      ([(0, 0), (4000, 4000)] : List (Int × Int)) = [] ++ (0, 0) :: (4000, 4000) :: [] ∧
      convertTable 0 (soundingTable (some odd) 1) < 0 ∧
      (tankCapacity (some odd) 1 : Int) < convertTable 4000 (soundingTable (some odd) 1) ∧
      0 ≤ convertTable 4000 (soundingTable (some ship) 1) ∧
      convertTable 4000 (soundingTable (some ship) 1) ≤ tankCapacity (some ship) 1 := by decide

theorem test_conversion :
    convertRaw (some odd) 1 0 = 0 ∧ convertRaw (some odd) 1 4000 = 4000 ∧ convertRaw (some ship) 1 3999 = 3999 ∧
      (⟨some 4000, .good, none, .free, OriginEntry.blank⟩ : TankLive).mass = some 4100 := by decide

/-- A tank with a volume and origins, in a mode and with a berth record. -/
def filled (m : Mode) (volume : Option Nat) (codes : List Nat) : State :=
  (((idle m).setTank 1 ⟨volume, .good, none, .free, ⟨codes, false, .notExchanged, .closed⟩⟩).setCond
    { (idle m).cond with berth := some ⟨9, 0, 0, 0, 0⟩ })

theorem test_witness_TanksAreReadAndFilled_fillStart :
    (filled .berth (some 50) [3]).fillOrigin = some 9 ∧ (∃ v ∈ (some 50 : Option Nat).toList, v ≤ tankResidue (some ship) 1) ∧
      (filled .standby (some 50) [3]).fillOrigin = none ∧ (filled .standby (some 51) [3]).fillOrigin = none ∧
      ¬ (∃ v ∈ (some 51 : Option Nat).toList, v ≤ tankResidue (some ship) 1) ∧ (9 : Nat) ∈ ([9] : List Nat) ∧
      (9 : Nat) ∉ ([3] : List Nat) ∧ ([3] : List Nat).length < 2 ∧ (9 : Nat) ∉ ([3, 4] : List Nat) ∧
      ([3, 4] : List Nat).length ≤ 2 ∧ ([3, 4] : List Nat).Nodup ∧ (0 : Nat) ∉ ([3, 4] : List Nat) := by decide

theorem test_fill_starts :
    (((filled .berth (some 50) [3]).fillStart 1).tank 1).origin.codes = [9] ∧
      (((filled .berth (some 51) [3]).fillStart 1).tank 1).origin.codes = [3, 9] ∧
      (((filled .berth (some 51) [3, 4]).fillStart 1).tank 1).origin = ⟨[3, 9], true, .notExchanged, .closed⟩ ∧
      (((filled .standby (some 51) [3]).fillStart 1).tank 1).origin.more = true := by decide

theorem test_witness_EffectiveTargets :
    ((filled .berth (some 100) []).tank (⟨1, 0, false⟩ : Entry).tank).volume = some 100 ∧
      (Admission.record ⟨.planned, .pump, .discharge, [(1, 0)], .console, none, false⟩ 1).direction = .discharge ∧
      (Admission.record ⟨.planned, .pump, .fill, [(1, 0)], .console, none, false⟩ 1).direction = .fill := by decide

theorem test_effective_target :
    effectiveTarget (some ship) .pump .discharge ⟨1, 99, false⟩ = 100 ∧
      effectiveTarget (some ship) .strip .discharge ⟨1, 99, false⟩ = 99 := by decide

theorem test_witness_PercentsAreComputed :
    (0 < 34 ∧ 33 < 34) ∧ (34 = 34 ∨ 34 = 35) ∧ (35 = 34 ∨ 35 = 35) ∧ (0 : Int) ≤ 0 ∧ ((1 : Int) = (1 : Nat) ∧ 0 < 1) := by
  decide

theorem test_percents :
    percentOf (some ship) .harbour none 0 115 = 115 ∧ percentOf (some ship) .harbour none 0 (-1000) = 999 ∧
      percentOf (some ship) .harbour (some ⟨1, 1, 1, 50, 50⟩) 34 50 = 100 ∧
      percentOf (some ship) .harbour (some ⟨1, 1, 1, 50, 50⟩) 35 0 = 999 := by decide

/-- Inputs with every mass known, in the block with levers and a hold at midship. -/
def inputs (known : Bool) (tide : TideState) : RunInputs :=
  ⟨5, some ship, [⟨1, known, 1025⟩, ⟨2, true, 0⟩], [⟨1, true, 500⟩], [⟨1, true, 10⟩], some ⟨9, 900, 2500, 50, 50⟩, tide,
    20, none⟩

theorem test_witness_ConditionIsComputed :
    (inputs false .fresh).state ≠ .complete ∧ (inputs true .fresh).state = .complete ∧
      (∀ x ∈ (inputs true .fresh).terms, x.mass ≠ none) ∧
      (pword (some ship) 6).natAbs + ((inputs true .fresh).terms.map fun x => (x.mass.getD 0).natAbs).sum ≤ 2147483647 ∧
      (pword (some ship) 7).natAbs +
        ((inputs true .fresh).terms.map fun x => (x.mass.getD 0 * x.longitudinal).natAbs).sum ≤ 2147483647 ∧
      (10 * pword (some ship) 4).natAbs ≤ 2147483647 ∧ pword (some ship) 4 ≠ 0 ∧ pword (some ship) 5 ≠ 0 ∧
      ((inputs true .fresh).terms.map fun x => (x.mass.getD 0 * x.transverse).natAbs).sum ≤ 2147483647 ∧
      stationDefined (some ship) 1 = true ∧ holdDefined (some ship) 1 = true ∧
      (inputs true .fresh).berth = some ⟨9, 900, 2500, 50, 50⟩ ∧ (inputs true .fresh).tideState = .fresh ∧
      (inputs true .stale).tideState ≠ .fresh ∧ (inputs true .stale).state = .complete ∧
      (inputs true .fresh).holds.map (fun x => x.number) = definedHolds (inputs true .fresh).particulars ∧
      stationDefined (some ship) 16 = false ∧ holdDefined (some ship) 9 = false := by decide

/-- The clauses of a defined station and hold: a displacement and a hold draft, every product and sum within the bound. -/
theorem test_witness_ConditionIsComputed_bounds :
    let r := inputs true .fresh
    let w := pword r.particulars
    let b := stationBase 1
    let small (k : Int) (f : MassTerm → Int) : Prop := k.natAbs + (r.terms.map fun x => (f x).natAbs).sum ≤ 2147483647
    r.compute.displacement = some 2535 ∧ (r.compute.holdDraft[0]?).join = some 253 ∧
      (∀ x ∈ r.terms, (x.mass.getD 0 * w (x.shearBase + 0)).natAbs ≤ 2147483647) ∧
      (∀ x ∈ r.terms, (x.mass.getD 0 * w (x.bendingBase + 0)).natAbs ≤ 2147483647) ∧
      small (w (b + 10)) (fun x => Int.tdiv (x.mass.getD 0 * w (x.shearBase + 0)) 1000) ∧
      small (w (b + 11)) (fun x => Int.tdiv (x.mass.getD 0 * w (x.bendingBase + 0)) 1000) ∧
      ((2535 : Int) * w (b + 12)).natAbs ≤ 2147483647 ∧ ((2535 : Int) * w (b + 13)).natAbs ≤ 2147483647 ∧
      ((2500 : Int) - r.tideHeight).natAbs ≤ 2147483647 ∧ (w (holdBase 1 + 2) - 253).natAbs ≤ 2147483647 := by decide

theorem test_condition :
    (inputs true .fresh).compute.displacement = some 2535 ∧ (inputs true .fresh).compute.mean = some 253 ∧
      (inputs true .fresh).compute.trim = some 0 ∧ (inputs true .fresh).compute.ukc = some 667 ∧
      (inputs true .fresh).compute.least = some (2733, 1) ∧ (inputs true .stale).compute.ukc = none ∧
      (inputs false .fresh).compute.inputState = .tank 1 ∧ (inputs false .fresh).compute.mean = none := by decide

/-- The ship of section 5.8, cut to the words that its example uses. -/
def example58 : Memory :=
  [(2, 2200), (3, 70), (4, 1800), (5, 30000), (6, 18000), (7, -540000)] ++
  [(192, 1), (216, 400), (217, -1100), (218, 200), (234, 30000)] ++
  [(256, 1), (280, 400), (281, 1100), (282, 205), (298, 30000)] ++
  [(1600, 1), (1601, 700), (1602, 2300), (1603, 700), (1605, 600), (1621, 55000)] ++
  [(1640, 1), (1641, -300), (1642, 2300), (1643, -300), (1645, -253), (1661, -20000)] ++
  [(1960, 1), (1961, -900), (1962, 50), (1963, -400), (1979, -10000)] ++
  [(2280, 1), (2290, -1500), (2291, 150000), (2292, 120), (2293, 9000)]

/-- The worked example of section 5.8. -/
theorem test_condition_of_section_5_8 :
    let c := (⟨1, some example58, [⟨3, true, 2050⟩, ⟨4, true, 1845⟩], [⟨1, true, 12000⟩, ⟨2, true, 9500⟩],
      [⟨1, true, 2400⟩], some ⟨1, 1600, 3000, 0, 0⟩, .fresh, 250, none⟩ : RunInputs).compute
    (c.displacement, c.mean, c.trim, c.forward, c.aft) = (some 45795, some 654, some (-244), some 776, some 532) ∧
      (c.list, c.ukc, c.least) = (some (-3), some 1074, some (1071, 2)) ∧
      ((c.shear[0]?).join, (c.bending[0]?).join, (c.holdDraft[0]?).join, (c.holdDraft[1]?).join) =
        (some (-2370), some 300695, some 731, some 621) := by decide

/-- The conversions of section 1.8. -/
theorem test_conversions_of_section_1_8 :
    convertTable 2500 [(0, 0), (400, 120), (1800, 1200), (3900, 2400)] = 1600 ∧
      convertTable 4000 [(0, 0), (400, 120), (1800, 1200), (3900, 2400)] = 2400 ∧
      convertTable 100 [(0, 0), (400, 120), (1800, 1200), (3900, 2400)] = 30 := by decide

theorem test_witness_EntriesAreGraded :
    (0 < 36 ∧ 35 < 36) ∧ stationDefined berth.parts 1 = true ∧ stationDefined berth.parts 2 = false ∧
      berth.modes.mode = .berth ∧ (idle .commission).modes.mode = .commission ∧ berth.parts ≠ none ∧
      (inputs false .fresh).compute.trim = none ∧ (inputs true .fresh).compute.trim = some 0 := by decide

/-- The descent of the manual's table (R124): from LIMIT at 98, 97 and 85 with caution code 3. -/
theorem test_grades_descend :
    newState .limit 88 98 = .limit ∧ newState .limit 88 97 = .caution ∧ newState .limit 88 85 = .clear ∧
      newState .clear 88 115 = .breach := by decide

/-! ## The arbiter, the movers, the halt stop, the plan, the composer -/

/-- M1 in a phase, with the flow reference of a second ago; a transfer on its stack, its tank free; and two transfers that
want the same tank, the second pending. -/
def phased (ph : Phase) : State :=
  moving.setMover .m1 { moving.mover .m1 with phase := ph, flow := some ⟨some 100, 0⟩, quiet := some true }
def stacked : State :=
  (moving.setMover .m1 { moving.mover .m1 with phase := .stopping .ended none .valves, run := none, stack := [1] }
    ).releaseClaims 1
def contended : State := after [.transferAdmit [0, 1, 0, 2, 400]] moving

theorem test_witness_TheArbiterAssignsAndReserves :
    berth.transfer? 1 = none ∧ (moving.transfer? 1).map Transfer.remaining = some [2] ∧
      contended.transfers.queue = [2] ∧
      contended.transfers.queue.Pairwise (fun x y => contended.rankOf y ≤ contended.rankOf x) ∧
      (contended.mover .m2).phase = .idle ∧ (phased .running).transfers.records.map (fun t => t.reservation) = [none] := by
  decide

/-- A CORRECTION finds M1 busy, takes M2, and with M2 not free preempts M1, whose transfer is PLANNED (R54). -/
theorem test_a_correction_preempts :
    let c : Admission := ⟨.correction, .pump, .fill, [(1, 300)], .recipe 0 .plus, some 0, true⟩
    let s := (phased .running).setMover .m2 { (phased .running).mover .m2 with phase := .faulted }
    (((phased .running).enrol c).scan.activeOn 2 = some .m2) ∧ ((s.enrol c).scan.reservationOf 2 = some .m1) ∧
      ((s.enrol c).scan.mover .m1).phase = .stopping .preempt none .pump := by decide

theorem test_witness_MoversEnterTheirPhases :
    ((moving.mover .m1).run.bind moving.transfer?).isSome = true ∧ ((berth.mover .m1).run.bind berth.transfer?) = none ∧
      (phased (.stopping .preempt none .pump)).mover .m1 ≠ moving.mover .m1 := by decide

/-- An overdue command of a pump to go on. -/
def overdue : Disagreement := ⟨0, .run .m1, true, .overdue, false⟩

theorem test_witness_AMoverTakesACommit :
    faultCauseOf .running true [] = some .gaugeLost ∧ faultCauseOf .running false [overdue] = some .pumpNoStart ∧
      faultCauseOf (.stopping .fault none .pump) false [overdue] = some .pumpNoStart ∧
      faultCauseOf .idle true [overdue] = none ∧ faultCauseOf (.stopping .halt none .valves) false [overdue] = none ∧
      ((berth.mover .m1).phase = .idle ∧ (moving.mover .m1).phase = .lining ∧
        ((phased .starting).mover .m1).phase = .starting ∧ ((phased (.switching 1)).mover .m1).phase = .switching 1 ∧
        ((phased .running).mover .m1).phase = .running ∧
        ((phased (.stopping .ended none .pump)).mover .m1).phase = .stopping .ended none .pump ∧
        ((phased (.stopping .ended none .valves)).mover .m1).phase = .stopping .ended none .valves) ∧
      (((phased .running).mover .m1).run.bind (phased .running).transfer?).map
        (fun t => (t.active, t.activeTank, t.entries[t.active - 1]?)) = some (1, some 2, some ⟨2, 300, false⟩) := by decide

theorem test_witness_StopsEnd :
    ((phased (.stopping .ended (some .complete) .valves)).mover .m1).run = some 1 ∧ (berth.mover .m1).stack = [] ∧
      (stacked.mover .m1).stack = [] ++ [1] ∧ (stacked.transfer? 1).map Transfer.remaining = some [2] ∧
      ((stacked.tank 2).claim = none ∧ (stacked.tank 2).lock = .free) ∧
      ((stacked.setTank 2 { stacked.tank 2 with lock := .locked }).tank 2).lock = .locked := by decide

/-- A pop resumes the stacked transfer, or returns it when its tank is locked (R83, R84). -/
theorem test_pop :
    ((stacked.pop .m1).mover .m1).run = some 1 ∧ ((stacked.pop .m1).mover .m1).phase = .lining ∧
      ((stacked.setTank 2 { stacked.tank 2 with lock := .locked }).pop .m1).transfers.queue = [1] := by decide

theorem test_witness_TheWindowIsJudged :
    berth.step? 7 = none ∧ (planned.step? 7).map (fun x => (x.state, x.pairing)) = some (.ready, .unpaired) ∧
      7 ∈ (planned.pour.steps.take 2).map fun x => x.id := by decide

/-- A volume absent at the pairing is taken by a commit after the pairing fell to none, and none is by a list that was never
admitted (R141). -/
theorem test_due_volumes :
    let s := after [.planAppend [7, 1, 100, 5, 1, 0]] berth
    let u := (s.updStep 7 fun x => { x with pairing := .unpaired }).setTank 1 { s.tank 1 with volume := some 3000 }
    let v := u.updStep 7 fun x => { x with links := x.links.map fun e => { e with due := false } }
    (s.step? 7).map (fun x => (x.pairing, x.links)) = some (.running 1, [⟨1, 0, none, true⟩]) ∧
      (u.pourCommit.step? 7).map (fun x => x.links) = some [⟨1, 0, some 3000, false⟩] ∧
      (v.pourCommit.step? 7).map (fun x => x.links) = some [⟨1, 0, none, false⟩] := by decide

theorem test_witness_PoursAreHeldAndReleased :
    (pouring.pour.steps.map fun x => x.id).Nodup ∧ pouring.pour.steps ≠ [] ∧ planned.cond.request = none ∧
      (after [.clearanceQuery [7]] planned).cond.request = some ⟨7, 1, 100, 1, true⟩ := by decide

theorem test_block_holds :
    ((pouring.block .limit).step? 7).map (fun x => (x.state, x.cause)) = some (.held, some .limit) ∧
      (((pouring.block .limit).judgeRelease).step? 7).map (fun x => (x.state, x.cause)) = some (.ready, none) ∧
      ((granted.block .indet).step? 7).map (fun x => x.state) = some .ready := by decide

/-- A console line that waits for the end of the one in transmission, which has come. -/
def buffered (isRp : Bool) (s : State) : State :=
  s.setConsole { s.console with tx := none, buffer := some ⟨.reply .RC [], isRp⟩ }

theorem test_witness_ReportsAreComposed :
    (buffered true reporting).console.tx = none ∧ (buffered true reporting).console.hold = false ∧
      (buffered true reporting).console.buffer = some ⟨.reply .RC [], true⟩ := by decide

/-- A halt stop that stood before the commit: every point reads off, or is not known. -/
def haltScan (quiet : Bool) : State :=
  let s := if quiet then quietScan false else opened .full false
  (s.setFaults { s.faults with state := .haltStopping, confirmation := some 0 }).setMover .m1
    { s.mover .m1 with phase := .stopping .halt none .valves }

theorem test_witness_TheHaltStopBegins :
    (pouring.pour.steps.map fun x => x.id).Nodup ∧
      (∀ quiet, (haltScan quiet).loop.window = some ⟨.full, none, 0, false⟩ ∧
        (haltScan quiet).faults.state = .haltStopping ∧ (haltScan quiet).transfers.queue = [] ∧
        ((haltScan quiet).mover .m1).phase = .stopping .halt none .valves ∧
        ((haltScan quiet).mover .m2).phase = .idle ∧ ((haltScan quiet).mover .m3).phase = .idle) ∧
      (∀ q ∈ drivePoints (haltScan true).parts,
        (((haltScan true).takeScan ⟨.full, none, 0, false⟩).scanned q.1).value = some 0) ∧
      (∃ q ∈ drivePoints (haltScan false).parts,
        (((haltScan false).takeScan ⟨.full, none, 0, false⟩).scanned q.1).value ≠ some 0) ∧
      ((opened .full false).loop.window = some ⟨.full, none, 0, false⟩ ∧
        (opened .full false).faults.state = .normal) := by decide

theorem test_halt_is_confirmed :
    (next (exec .endOfScanReport (haltScan true))).map (fun t => (t.faults.state, (t.mover .m1).phase)) =
        some (.halt, .idle) ∧
      (next (exec .endOfScanReport (haltScan false))).map (fun t => (t.faults.state, (t.mover .m1).phase)) =
        some (.haltStopping, .stopping .halt none .valves) := by decide +kernel

/-- A pour, a transfer and a class-1 cause: the halt stop (R161, R65, R151). -/
theorem test_halt_stop :
    let s := (pouring.class1 .loopLost)
    s.faults.state = .haltStopping ∧ s.faults.first = some .loopLost ∧
      (s.step? 7).map (fun x => (x.state, x.cause)) = some (.held, some .halt) ∧
      ((moving.class1 .loopLost).mover .m1).last = some (1, .halted) := by decide

/-! ## Runs, timers, resets -/

/-- A part with an evaluation in progress; one with a prediction in progress. -/
def evaluating : State := berth.requestEvaluation
def predicting : State := after [.clearanceQuery [7]] planned

theorem test_witness_EvaluationsComplete :
    berth.cond.evaluation = none ∧ evaluating.cond.evaluation = some (berth.runInputs none) := by decide

theorem test_evaluation_completes :
    (next (exec .evaluationCompletes evaluating)).map
        (fun t => (t.cond.published.map fun c => c.inputState, t.cond.evaluation, t.margins.graded, (t.watched 32).state)) =
      some (some (.tank 1), none, some 0, .indeterminate) := by decide +kernel

theorem test_witness_PredictionsComplete :
    berth.cond.prediction = none ∧
      predicting.cond.prediction = some ⟨planned.runInputs (some (1, 100)), false⟩ := by decide

theorem test_prediction_completes :
    shoreSaid (exec .predictionCompletes predicting) = some (.pour .HO [.num 7, .word "PREDICT", .num 0]) := by
  decide +kernel

/-- The tide FRESH; a halt stop that is not confirmed. -/
def tidal : State := berth.setCond { berth.cond with tide := ⟨.fresh, 20, 0⟩ }
def stopping : State := berth.setFaults { berth.faults with state := .haltStopping, confirmation := some 0 }

theorem test_witness_StoreWritesAndTimersComplete_timers :
    (tidal.modes.condition = .running ∧ tidal.cond.tide.state = .fresh) ∧ berth.pour.grantTimer = none ∧
      granted.pour.grantTimer = some 0 ∧ berth.faults.confirmation = none ∧ berth.faults.attempt = none ∧
      stopping.faults.confirmation = some 0 ∧ stopping.faults.state = .haltStopping ∧
      restarting.faults.attempt = some 0 ∧ restarting.faults.state = .restart := by decide

theorem test_timers_tide_and_grant :
    (next (exec .tideExpiry tidal)).map (fun t => (t.now, t.cond.tide.state, t.attention.items)) =
        some (900000, .stale, [.tideStale]) ∧
      shoreSaid (exec .grantTimerExpiry granted) = some (.pour .EX [.num 7]) := by decide

theorem test_timers_of_the_halt :
    (next (exec .confirmationTimerExpiry stopping)).map (fun t => (t.now, t.faults.state, t.faults.attempts)) =
        some (60000, .restart, 1) ∧
      (next (exec .attemptTimerExpiry restarting)).map (fun t => (t.now, t.faults.attempts)) = some (500, 2) := by decide

theorem test_witness_ResetsClearTransfersAndFaults :
    berth.modes.condition ≠ .unpowered ∧ resetting.modes.resetAsked ≠ none ∧
      (quietScan true).loop.window = some ⟨.full, none, 0, true⟩ ∧
      ∀ q ∈ drivePoints (quietScan true).parts,
        (((quietScan true).takeScan ⟨.full, none, 0, true⟩).scanned q.1).value = some 0 := by decide

theorem test_witness_ResetsReturnThePartToItsStart :
    (berth.setModes { berth.modes with condition := .unpowered }).modes.condition = .unpowered ∧
      berth.modes.resetAsked = none ∧ resetting.modes.resetAsked = some ⟨0, false⟩ ∧
      saving.settings.saving = some Settings.defaults ∧ committing.particulars.writing ≠ none ∧
      (∀ n ∈ List.range 25, 1 ≤ n →
        ¬ ∃ m ∈ committing.particulars.writing.toList, tankDefined committing.parts n ≠ tankDefined (some m) n) ∧
      (∃ n ∈ List.range 25, 1 ≤ n ∧
        ∃ m ∈ (some (Memory.write ship 64 0)).toList, tankDefined berth.parts n ≠ tankDefined (some m) n) ∧
      (after [.tankOriginDeclare [1, 1, 0]] berth).tankTable.writing ≠ none ∧
      (opened .full true).loop.window = some ⟨.full, none, 0, true⟩ ∧
      ∃ q ∈ drivePoints (opened .full true).parts,
        (((opened .full true).takeScan ⟨.full, none, 0, true⟩).scanned q.1).value ≠ some 0 := by decide

/-- The end of the restart sequence, with the tide's age at 900 s (R117, R167). -/
theorem test_restart_ends :
    let s := quietScan true
    (next (exec .endOfScanReport ((s.setCond { s.cond with tide := ⟨.fresh, 20, 0⟩ }).setNow 900000))).map
        (fun t => (t.faults.state, t.attention.items, t.modes.mode, t.modes.resetCause.restart)) =
      some (.halt, [.restarted, .halt, .tideStale], .standby, true) := by decide +kernel

theorem test_resets :
    (next (exec .lineReset saving)).map (fun t => (t.modes.condition, t.modes.resetCause, t.settings.storeGood)) =
        some (.inReset, ⟨true, true, false, false⟩, true) ∧
      (next (exec .commandReset resetting)).map (fun t => (t.now, t.modes.condition, t.modes.resetCause)) =
        some (2000, .startChecks, ⟨true, false, true, false⟩) := by decide

theorem test_supply :
    (next (exec .lossOfPower berth)).map (fun t => (t.modes.condition, t.parts)) = some (.unpowered, none) ∧
      (next (exec .powerReset berth)).map (fun t => (t.modes.condition, t.modes.resetCause)) =
        some (.startChecks, ⟨true, false, false, false⟩) := by decide

/-- A part whose stores hold good records, waiting for the end of its start checks. -/
def starting : State :=
  ((State.reset.setParticulars ⟨none, ship, ship.checksum, false, none, none⟩).setSettings
    { State.reset.settings with storeGood := true }).setTankTable { State.reset.tankTable with storeGood := true }

theorem test_witness_StartChecksEnd :
    berth.modes.condition ≠ .startChecks ∧ State.reset.modes.condition = .startChecks ∧
      starting.modes.condition = .startChecks ∧ State.reset.tankTable.storeGood = false ∧
      starting.tankTable.storeGood = true ∧ starting.attention = ⟨[], 0⟩ ∧ starting.cond.evaluation = none ∧
      starting.cond.prediction = none ∧
      (starting.setModes { starting.modes with condition := .inReset }).modes.condition = .inReset ∧
      (quietScan true).loop.window = some ⟨.full, none, 0, true⟩ ∧
      ∀ q ∈ drivePoints (quietScan true).parts,
        (((quietScan true).takeScan ⟨.full, none, 0, true⟩).scanned q.1).value = some 0 := by decide

theorem test_start :
    (next (exec .start State.reset)).map (fun t => (t.modes.mode, t.attention.items, t.sent.length)) =
        some (.commission, [.settingsDefaulted, .originsCleared], 3) ∧
      (next (exec .start starting)).map (fun t => (t.modes.mode, t.attention.items, t.loop.frameTimer)) =
        some (.standby, [], some 500) := by decide

theorem test_reset_release :
    (next (exec .resetRelease (starting.setModes { starting.modes with condition := .inReset }))).map
      (fun t => t.modes.condition) = some .startChecks := by decide

/-! ## The invariants: a state that has each, and its step -/

theorem test_witness_EveryStepKeepsTheParticularsGood :
    ParticularsGood berth ∧ ∃ t, step berth = .next t := by
  refine ⟨⟨?_, ?_, ?_, ?_⟩, _, rfl⟩
  · intro m h
    cases h
    exact ⟨by decide, by decide⟩
  · exact ⟨by decide, by decide⟩
  · intro m h
    cases h
  · intro m h
    cases h

theorem test_witness_EveryStepKeepsTheQueuesInBounds :
    berth.attention.Good ∧ LinksGood berth ∧ ∃ t, step berth = .next t := by
  refine ⟨?_, ?_, _, rfl⟩
  · unfold AttentionSet.Good
    decide
  · unfold LinksGood
    decide

theorem test_witness_EveryStepKeepsTheDriveSafe : DriveSafe berth ∧ ∃ t, step berth = .next t := by
  refine ⟨⟨?_, fun h => absurd rfl h⟩, _, rfl⟩
  intro a h
  have hoff : (berth.drive a).on = false := by
    simp only [State.drive, berth, idle, State.setParticulars, State.setModes, State.reset, FieldLoop.blank,
      Vector.getElem?_replicate]
    split <;> rfl
  rw [hoff] at h
  cases h

theorem test_witness_EveryStepKeepsTransfersInOnePlace :
    TransfersPlaced contended ∧ TransfersPlaced berth ∧ DriveSafe berth ∧ ∃ t, step berth = .next t := by
  refine ⟨?_, ?_, test_witness_EveryStepKeepsTheDriveSafe.1, _, rfl⟩ <;>
  · unfold TransfersPlaced
    decide

theorem test_witness_EveryStepKeepsThePourSafe :
    PourSafe pouring ∧ PourSafe predicting ∧ ∃ t, step pouring = .next t := by
  refine ⟨?_, ?_, _, rfl⟩
  · refine ⟨by decide, by decide, ?_, fun _ => by decide, fun h => absurd rfl h⟩
    intro id h
    cases h
  · refine ⟨by decide, by decide, ?_, fun _ => by decide, fun h => absurd rfl h⟩
    intro id h
    cases h
    exact ⟨_, rfl, rfl, rfl⟩

end Sys2Proof.Tests
end

/-! # The Tank Table: conversion, commits, motion and fill starts (O44) -/

namespace Sys2Proof.Machine

/-! ## The sounding table (R3) -/

/-- In a table of rising readings no reading is below the first. -/
theorem first_le_of_rising {a x : Int × Int} {rest : List (Int × Int)}
    (h : (a :: rest).Pairwise fun x y => x.1 < y.1) (hx : x ∈ a :: rest) : a.1 ≤ x.1 := by
  rcases List.mem_cons.mp hx with rfl | hx
  · exact le_rfl
  · exact (List.rel_of_pairwise_cons h hx).le

/-- At the reading of its first breakpoint the interpolation gives that breakpoint's volume. -/
theorem interpolate_first (a b : Int × Int) : interpolate a.1 a b = a.2 := by
  simp [interpolate]

/-- At or above the last reading of a rising table the last volume counts. -/
theorem convertFrom_last {r : Int} {a last : Int × Int} {rest : List (Int × Int)}
    (h : (a :: rest).Pairwise fun x y => x.1 < y.1) (hl : (a :: rest).getLast? = some last) (hr : last.1 ≤ r) :
    convertFrom r a rest = last.2 := by
  induction rest generalizing a with
  | nil =>
    cases hl
    rfl
  | cons b rest ih =>
    have htail := (List.pairwise_cons.mp h).2
    have hlast : (b :: rest).getLast? = some last := by rwa [List.getLast?_cons_cons] at hl
    have hb := first_le_of_rising htail (List.mem_of_getLast? hlast)
    rw [convertFrom, if_neg (by omega)]
    exact ih htail hlast

/-- Between two neighbouring breakpoints of a rising table the volume is interpolated. -/
theorem convertFrom_between {r : Int} {a x y : Int × Int} {rest before after : List (Int × Int)}
    (h : (a :: rest).Pairwise fun x y => x.1 < y.1) (e : a :: rest = before ++ x :: y :: after)
    (hx : x.1 ≤ r) (hy : r < y.1) : convertFrom r a rest = interpolate r x y := by
  induction before generalizing a rest with
  | nil =>
    obtain ⟨rfl, rfl⟩ := List.cons.inj e
    rw [convertFrom, if_pos hy]
  | cons c before ih =>
    obtain ⟨rfl, rfl⟩ := List.cons.inj e
    have htail := (List.pairwise_cons.mp h).2
    obtain ⟨b, rest, hrest⟩ : ∃ b rest, before ++ x :: y :: after = b :: rest :=
      List.exists_cons_of_ne_nil (by simp)
    have hx' : x ∈ b :: rest := by simp [← hrest]
    rw [List.append_eq, hrest] at htail ⊢
    have hb := first_le_of_rising htail hx'
    rw [convertFrom, if_neg (by omega)]
    exact ih htail hrest.symm

/-- At or below the first reading the first volume counts. -/
theorem convertTable_first {r : Int} {a : Int × Int} {rest : List (Int × Int)} (h : r ≤ a.1) :
    convertTable r (a :: rest) = a.2 := if_pos h

/-- At or above the last reading of a rising table the last volume counts. -/
theorem convertTable_last {r : Int} {a last : Int × Int} {rest : List (Int × Int)}
    (h : (a :: rest).Pairwise fun x y => x.1 < y.1) (hl : (a :: rest).getLast? = some last) (hr : last.1 ≤ r) :
    convertTable r (a :: rest) = last.2 := by
  by_cases hra : r ≤ a.1
  · rw [convertTable_first hra]
    rcases List.mem_cons.mp (List.mem_of_getLast? hl) with rfl | hm
    · rfl
    · have hlt : a.1 < last.1 := List.rel_of_pairwise_cons h hm
      omega
  · rw [convertTable, if_neg hra, convertFrom_last h hl hr]

/-- Between two neighbouring breakpoints of a rising table the volume is interpolated. A reading that is the first
breakpoint's own falls under the table's first case too, and both give the same volume. -/
theorem convertTable_between {r : Int} {a x y : Int × Int} {rest before after : List (Int × Int)}
    (h : (a :: rest).Pairwise fun x y => x.1 < y.1) (e : a :: rest = before ++ x :: y :: after)
    (hx : x.1 ≤ r) (hy : r < y.1) : convertTable r (a :: rest) = interpolate r x y := by
  by_cases hra : r ≤ a.1
  · rw [convertTable_first hra]
    rcases List.mem_cons.mp (show x ∈ a :: rest by simp [e]) with rfl | hm
    · rw [show r = x.1 by omega, interpolate_first]
    · have hlt : a.1 < x.1 := List.rel_of_pairwise_cons h hm
      omega
  · rw [convertTable, if_neg hra, convertFrom_between h e hx hy]

/-- The volume of a tank is the table's result brought within 0..capacity. -/
theorem convertRaw_clamped (p : Option Memory) (n raw : Nat) :
    (convertRaw p n raw : Int) = min (max (convertTable raw (soundingTable p n)) 0) (tankCapacity p n) := by
  rw [convertRaw, Nat.cast_min, Int.toNat_eq_max]

/-! ## Records of tanks -/

section
variable (s : State) {n k : Nat}

theorem tank_setTank_same (x : TankLive) (h1 : 1 ≤ n) (h24 : n ≤ 24) : (s.setTank n x).tank n = x := by
  rw [tank_setTank, if_pos ⟨rfl, by omega⟩]

theorem tank_setTank_other (x : TankLive) (h1 : 1 ≤ n) (hk1 : 1 ≤ k) (hk : k ≠ n) :
    (s.setTank n x).tank k = s.tank k := by
  rw [tank_setTank, if_neg (by omega)]

theorem tank_originChanged : s.originChanged.tank k = s.tank k := by
  unfold State.originChanged
  split <;> rfl

/-- A change of an origin field starts the write of the store, or has it written again (R16). -/
theorem originChanged_tankTable : s.originChanged.tankTable = { s.tankTable with
    writing := if s.tankTable.writing = none then some s.tankTable.origins else s.tankTable.writing
    rewrite := if s.tankTable.writing ≠ none then true else s.tankTable.rewrite } := by
  unfold State.originChanged
  split <;> simp [*]

/-- The origins are read from the tanks alone. -/
theorem origins_originChanged : s.originChanged.tankTable.origins = s.tankTable.origins := by
  rw [originChanged_tankTable]
  rfl

/-- Origin fields that stay as they are change nothing. -/
theorem setOrigin_self (n : Nat) : s.setOrigin n (s.tank n).origin = s := if_pos rfl

theorem tank_setOrigin_same (o : OriginEntry) (h1 : 1 ≤ n) (h24 : n ≤ 24) :
    (s.setOrigin n o).tank n = { s.tank n with origin := o } := by
  unfold State.setOrigin
  split
  · rename_i h
    rw [← h]
  · rw [tank_originChanged, tank_setTank_same s _ h1 h24]

theorem tank_setOrigin_other (o : OriginEntry) (h1 : 1 ≤ n) (hk1 : 1 ≤ k) (hk : k ≠ n) :
    (s.setOrigin n o).tank k = s.tank k := by
  unfold State.setOrigin
  split
  · rfl
  · rw [tank_originChanged, tank_setTank_other s _ h1 hk1 hk]

/-- New origin fields that differ from the old ones have the origin store written (R16). -/
theorem setOrigin_tankTable (n : Nat) (o : OriginEntry) : (s.setOrigin n o).tankTable = { s.tankTable with
    tanks := (s.setOrigin n o).tankTable.tanks
    writing := if o ≠ (s.tank n).origin ∧ s.tankTable.writing = none then some (s.setOrigin n o).tankTable.origins
      else s.tankTable.writing
    rewrite := if o ≠ (s.tank n).origin ∧ s.tankTable.writing ≠ none then true else s.tankTable.rewrite } := by
  unfold State.setOrigin
  split
  · rename_i h
    simp [h]
  · rename_i h
    simp only [origins_originChanged, Ne.symm (h : _ ≠ _), ne_eq, not_false_eq_true, true_and]
    rw [originChanged_tankTable]
    rfl

/-! ## A tank at a commit (R2 to R5, R14) -/

/-- The good reading is the fresh value within the table's range (R2). -/
theorem goodReading_eq_filter (n : Nat) : s.goodReading n =
    (s.scanned (tankGauge s.parts n)).value.filter fun v => (s.scanned (tankGauge s.parts n)).fresh = true ∧ v ≤ 4000 := by
  unfold State.goodReading
  dsimp only
  cases (s.scanned (tankGauge s.parts n)).value <;> simp [Option.filter]

/-- The record of a tank with the reading of the commit taken (R2 to R4). -/
def State.tankRead (s : State) (n : Nat) : TankLive :=
  (s.tank n).afterReading ((s.goodReading n).map (convertRaw s.parts n))

theorem tankRead_good {v : Nat} (h : s.goodReading n = some v) :
    s.tankRead n = { s.tank n with volume := some (convertRaw s.parts n v), gauge := .good } := by
  rw [State.tankRead, h]
  rfl

theorem tankRead_bad (h : s.goodReading n = none) :
    s.tankRead n = { s.tank n with gauge := (s.tank n).gauge.afterBad } := by
  rw [State.tankRead, h]
  rfl

theorem tankRead_frame (n : Nat) :
    s.tankRead n = { s.tank n with volume := (s.tankRead n).volume, gauge := (s.tankRead n).gauge } := by
  cases h : s.goodReading n with
  | none => rw [tankRead_bad s h]
  | some v => rw [tankRead_good s h]

/-- GAUGE is raised at a bad reading in GOOD, and at the one that makes the tank LOST (R5, log 46). -/
theorem gaugeNotice_tankRead (n : Nat) : gaugeNotice (s.tank n).gauge (s.tankRead n).gauge = true ↔
    ((s.tank n).gauge = .good ∧ (s.tankRead n).gauge = .suspect 1) ∨
      ((s.tank n).gauge ≠ .lost ∧ (s.tankRead n).gauge = .lost) := by
  cases h : s.goodReading n with
  | some v =>
    rw [tankRead_good s h]
    cases (s.tank n).gauge <;> simp [gaugeNotice]
  | none =>
    rw [tankRead_bad s h]
    rcases (s.tank n).gauge with _ | _ | count | _
    case suspect => by_cases hc : count < 4 <;> simp [gaugeNotice, GaugeState.afterBad, hc]
    all_goals simp [gaugeNotice, GaugeState.afterBad]

/-- A lowered volume is one that was known before and after, and is the smaller after. -/
theorem lowered_eq_some {before after : Option Nat} {v : Nat} :
    lowered before after = some v ↔ ∃ b ∈ before.toList, v ∈ after.toList ∧ v < b := by
  rcases before with _ | b
  · simp [lowered]
  rcases after with _ | w
  · simp [lowered]
  simp only [lowered, Option.toList_some, List.mem_singleton, exists_eq_left, Option.ite_none_right_eq_some,
    Option.some.injEq]
  exact ⟨fun ⟨hlt, hw⟩ => ⟨hw.symm, hw ▸ hlt⟩, fun ⟨hw, hlt⟩ => ⟨hw ▸ hlt, hw.symm⟩⟩

/-- The reading of the commit empties the tank at sea (R14). -/
abbrev State.EmptiedAtSea (s : State) (n : Nat) : Prop :=
  s.modes.mode = .passage ∧ s.modes.exchangeArea = true ∧
    ∃ before ∈ (s.tank n).volume.toList, ∃ now ∈ (s.tankRead n).volume.toList,
      now < before ∧ now ≤ tankResidue s.parts n

/-- The state with the reading of a tank taken and its GAUGE item raised, before the window rule. -/
def State.takeReading (s : State) (n : Nat) : State :=
  (s.setTank n (s.tankRead n)).setAttention
    (if gaugeNotice (s.tank n).gauge (s.tankRead n).gauge then s.attention.raise (.gauge n) else s.attention)

/-- The origin fields that the window rule leaves (R14). -/
def State.windowedOrigin (s : State) (n : Nat) : OriginEntry :=
  { (s.tank n).origin with window := if s.EmptiedAtSea n then .emptiedAtSea else (s.tank n).origin.window }

theorem windowedOrigin_ne_iff (n : Nat) :
    s.windowedOrigin n ≠ (s.tank n).origin ↔ s.EmptiedAtSea n ∧ (s.tank n).origin.window ≠ .emptiedAtSea := by
  unfold State.windowedOrigin
  generalize (s.tank n).origin = o
  rcases o with ⟨codes, more, exchange, window⟩
  by_cases h : s.EmptiedAtSea n
  · rw [if_pos h, and_iff_right h]
    simp [eq_comm]
  · rw [if_neg h]
    exact ⟨fun hne => absurd rfl hne, fun hw => absurd hw.1 h⟩

theorem tank_takeReading_same (h1 : 1 ≤ n) (h24 : n ≤ 24) : (s.takeReading n).tank n = s.tankRead n :=
  tank_setTank_same s _ h1 h24

theorem tank_takeReading_other (h1 : 1 ≤ n) (hk1 : 1 ≤ k) (hk : k ≠ n) : (s.takeReading n).tank k = s.tank k :=
  tank_setTank_other s _ h1 hk1 hk

/-- A reading leaves the origin fields. -/
theorem origin_takeReading (h1 : 1 ≤ n) (h24 : n ≤ 24) : ((s.takeReading n).tank n).origin = (s.tank n).origin := by
  rw [tank_takeReading_same s h1 h24, tankRead_frame]

/-- The condition of the window rule, for a volume that the reading lowered to `v`. -/
theorem emptiedAtSea_iff_of_lowered {v : Nat}
    (h : lowered (s.tank n).volume (s.tankRead n).volume = some v) :
    s.EmptiedAtSea n ↔ (decide (v ≤ tankResidue s.parts n) && s.inExchangeArea) = true := by
  obtain ⟨b, hb, hv, hlt⟩ := lowered_eq_some.mp h
  simp only [State.inExchangeArea, Bool.and_eq_true, decide_eq_true_eq]
  constructor
  · rintro ⟨hmode, harea, -, -, w, hw, -, hres⟩
    have e : v = w := by simp_all
    exact ⟨e ▸ hres, hmode, harea⟩
  · rintro ⟨hres, hmode, harea⟩
    exact ⟨hmode, harea, b, hb, v, hv, hlt, hres⟩

/-- A volume that the reading did not lower opens no window. -/
theorem not_emptiedAtSea_of_not_lowered (h : lowered (s.tank n).volume (s.tankRead n).volume = none) :
    ¬ s.EmptiedAtSea n := by
  rintro ⟨-, -, b, hb, v, hv, hlt, -⟩
  rw [lowered_eq_some.mpr ⟨b, hb, hv, hlt⟩] at h
  cases h

/-- The origin fields of a tank that has not been emptied at sea are left. -/
theorem setOrigin_windowedOrigin (h1 : 1 ≤ n) (h24 : n ≤ 24) (h : ¬ s.EmptiedAtSea n) :
    (s.takeReading n).setOrigin n (s.windowedOrigin n) = s.takeReading n := by
  rw [State.windowedOrigin, if_neg h, ← origin_takeReading s h1 h24]
  exact setOrigin_self _ n

/-- A tank takes a commit by its reading and then by the window rule on its origin fields. -/
theorem convertTank_eq (h1 : 1 ≤ n) (h24 : n ≤ 24) :
    s.convertTank n = (s.takeReading n).setOrigin n (s.windowedOrigin n) := by
  have hread : (if gaugeNotice (s.tank n).gauge (s.tankRead n).gauge = true then
      (s.setTank n (s.tankRead n)).raise (.gauge n) else s.setTank n (s.tankRead n)) = s.takeReading n := by
    unfold State.takeReading
    split <;> rfl
  unfold State.convertTank
  dsimp only
  rw [← State.tankRead, hread]
  cases hl : lowered (s.tank n).volume (s.tankRead n).volume with
  | none => exact (setOrigin_windowedOrigin s h1 h24 (not_emptiedAtSea_of_not_lowered s hl)).symm
  | some v =>
    have hiff := emptiedAtSea_iff_of_lowered s hl
    by_cases he : s.EmptiedAtSea n
    · rw [State.windowedOrigin, if_pos he, ← origin_takeReading s h1 h24]
      exact if_pos (hiff.mp he)
    · rw [setOrigin_windowedOrigin s h1 h24 he]
      exact if_neg fun h => he (hiff.mpr h)

theorem convertTank_frame (h1 : 1 ≤ n) (h24 : n ≤ 24) : s.convertTank n =
    (s.setAttention (s.convertTank n).attention).setTankTable (s.convertTank n).tankTable := by
  rw [convertTank_eq s h1 h24, setOrigin_frame]
  rfl

theorem tank_convertTank_same (h1 : 1 ≤ n) (h24 : n ≤ 24) : (s.convertTank n).tank n =
    { s.tank n with
      volume := (s.tankRead n).volume
      gauge := (s.tankRead n).gauge
      origin := s.windowedOrigin n } := by
  rw [convertTank_eq s h1 h24, tank_setOrigin_same _ _ h1 h24, tank_takeReading_same s h1 h24, tankRead_frame]

theorem tank_convertTank_other (h1 : 1 ≤ n) (h24 : n ≤ 24) (hk1 : 1 ≤ k) (hk : k ≠ n) :
    (s.convertTank n).tank k = s.tank k := by
  rw [convertTank_eq s h1 h24, tank_setOrigin_other _ _ h1 hk1 hk, tank_takeReading_other s h1 hk1 hk]

/-- A tank emptied at sea whose window was not open has the origin store written (R14, R16). -/
theorem convertTank_tankTable (h1 : 1 ≤ n) (h24 : n ≤ 24) : (s.convertTank n).tankTable = { s.tankTable with
    tanks := (s.convertTank n).tankTable.tanks
    writing := if (s.EmptiedAtSea n ∧ (s.tank n).origin.window ≠ .emptiedAtSea) ∧ s.tankTable.writing = none then
      some (s.convertTank n).tankTable.origins else s.tankTable.writing
    rewrite := if (s.EmptiedAtSea n ∧ (s.tank n).origin.window ≠ .emptiedAtSea) ∧ s.tankTable.writing ≠ none then true
      else s.tankTable.rewrite } := by
  simp only [← windowedOrigin_ne_iff]
  rw [convertTank_eq s h1 h24]
  have hwrite := setOrigin_tankTable (s.takeReading n) n (s.windowedOrigin n)
  rwa [origin_takeReading s h1 h24] at hwrite

theorem convertTank_attention (h1 : 1 ≤ n) (h24 : n ≤ 24) : (s.convertTank n).attention =
    if ((s.tank n).gauge = .good ∧ (s.tankRead n).gauge = .suspect 1) ∨
        ((s.tank n).gauge ≠ .lost ∧ (s.tankRead n).gauge = .lost) then s.attention.raise (.gauge n)
    else s.attention := by
  simp only [← gaugeNotice_tankRead]
  rw [convertTank_eq s h1 h24, setOrigin_frame]
  rfl

/-! ## Motion (R10) -/

theorem runTransfer_eq_bind (m : MoverId) : s.runTransfer m = (s.mover m).run.bind s.transfer? := by
  unfold State.runTransfer
  cases (s.mover m).run <;> rfl

theorem activeTank_eq_bind (m : MoverId) :
    s.activeTank m = ((s.mover m).run.bind s.transfer?).bind Transfer.activeTank := by
  rw [State.activeTank, runTransfer_eq_bind]
  cases (s.mover m).run.bind s.transfer? <;> rfl

/-! ## A fill start (R11 to R13) -/

/-- The volume of a tank is known and at or below its residue (R12). -/
abbrev State.AtResidue (s : State) (n : Nat) : Prop := ∃ v ∈ (s.tank n).volume.toList, v ≤ tankResidue s.parts n

/-- The origin fields that a fill start leaves. -/
def State.filledOrigin (s : State) (n : Nat) : OriginEntry :=
  let o := (s.tank n).origin
  let listed := fillCodes o.codes o.more (s.AtResidue n) s.fillOrigin
  ⟨listed.1, listed.2, if o.window = .emptiedAtSea ∧ s.inExchangeArea = true then .exchanged else .notExchanged, .closed⟩

theorem fillStart_eq (n : Nat) : s.fillStart n = s.setOrigin n (s.filledOrigin n) := by
  unfold State.fillStart State.filledOrigin State.AtResidue
  dsimp only
  cases (s.tank n).volume <;> simp

theorem origin_fillStart (h1 : 1 ≤ n) (h24 : n ≤ 24) : ((s.fillStart n).tank n).origin = s.filledOrigin n := by
  rw [fillStart_eq, tank_setOrigin_same s _ h1 h24]

end

section
variable {codes : List Nat} {more : Bool} {c : Nat}

theorem fillCodes_empty (fill : Option Nat) : fillCodes codes more true fill = (fill.toList, false) := rfl

theorem fillCodes_unknown : fillCodes codes more false none = (codes, true) := rfl

theorem fillCodes_known (h : c ∈ codes) : fillCodes codes more false (some c) = (codes, more) := by
  simp [fillCodes, h]

theorem fillCodes_room (h : c ∉ codes) (hlen : codes.length < 2) :
    fillCodes codes more false (some c) = (codes ++ [c], more) := by
  simp [fillCodes, h, hlen]

theorem fillCodes_full {oldest newest : Nat} (h : c ∉ [oldest, newest]) :
    fillCodes [oldest, newest] more false (some c) = ([oldest, c], true) := by
  obtain ⟨hold, hnew⟩ : c ≠ oldest ∧ c ≠ newest := by simpa using h
  simp [fillCodes, hold.symm, hnew.symm]

/-- A list within its bounds that takes a code it does not hold stays within them while there is room. -/
theorem codes_append_bounded (hlen : codes.length < 2) (hnodup : codes.Nodup) (h0 : 0 ∉ codes) (h : c ∉ codes)
    (hc : c ≠ 0) : (codes ++ [c]).length ≤ 2 ∧ (codes ++ [c]).Nodup ∧ 0 ∉ codes ++ [c] := by
  refine ⟨by simpa using hlen, ?_, by simp [h0, hc.symm]⟩
  exact hnodup.append (List.nodup_singleton c) (by simpa using h)

/-- A fill start keeps the origin list within its bounds: at most two codes, none twice, no code 0 (R12). -/
theorem fillCodes_bounded {empty : Bool} {fill : Option Nat} (hlen : codes.length ≤ 2) (hnodup : codes.Nodup)
    (h0 : 0 ∉ codes) (hfill : fill ≠ some 0) :
    (fillCodes codes more empty fill).1.length ≤ 2 ∧ (fillCodes codes more empty fill).1.Nodup ∧
      0 ∉ (fillCodes codes more empty fill).1 := by
  rcases fill with _ | c
  · cases empty
    · exact ⟨hlen, hnodup, h0⟩
    · simp [fillCodes_empty]
  have hc : c ≠ 0 := fun h => hfill (congrArg some h)
  cases empty
  case true => simp [fillCodes_empty, hc.symm]
  by_cases h : c ∈ codes
  · rw [fillCodes_known h]
    exact ⟨hlen, hnodup, h0⟩
  by_cases hroom : codes.length < 2
  · rw [fillCodes_room h hroom]
    exact codes_append_bounded hroom hnodup h0 h hc
  · obtain ⟨oldest, newest, rfl⟩ := List.length_eq_two.mp (show codes.length = 2 by omega)
    rw [fillCodes_full h]
    exact codes_append_bounded (codes := [oldest]) (by simp) (by simp) (by simp_all) (by simp_all) hc

end

/-- Settles O44: each clause is the spec lemma of the function that it speaks of. -/
theorem tanksAreReadAndFilled : Obligations.TanksAreReadAndFilled := by
  unfold Obligations.TanksAreReadAndFilled
  refine ⟨?table, ?bounds, ?mass, ?commit, ?motion, ?fillOrigin, ?fillStart, ?codes⟩
  case table =>
    intro r a rest h
    exact ⟨convertTable_first, fun _ hl hr => convertTable_last h hl hr,
      fun _ _ _ _ e hx hy => convertTable_between h e hx hy⟩
  case bounds =>
    intro p n raw
    have h := convertRaw_clamped p n raw
    refine ⟨?_, ?_, ?_⟩ <;> intros <;> omega
  case mass =>
    intro x v h
    rw [TankLive.mass, h]
    rfl
  case commit =>
    intro s n h1 h24 x t reading raw volume gauge emptied
    have hraw : raw = s.goodReading n := (goodReading_eq_filter s n).symm
    have hvolume : volume = (s.tankRead n).volume := by
      simp only [volume, hraw]
      cases h : s.goodReading n with
      | none => rw [tankRead_bad s h]
      | some v => rw [tankRead_good s h]
    have hgauge : gauge = (s.tankRead n).gauge := by
      simp only [gauge, hraw]
      cases h : s.goodReading n with
      | none =>
        rw [tankRead_bad s h]
        simp only [x]
        cases (s.tank n).gauge <;> rfl
      | some v => rw [tankRead_good s h]
    clear_value volume gauge
    subst hvolume hgauge
    exact ⟨convertTank_frame s h1 h24, tank_convertTank_same s h1 h24,
      fun k hk1 _ hk => tank_convertTank_other s h1 h24 hk1 hk, convertTank_tankTable s h1 h24,
      convertTank_attention s h1 h24⟩
  case motion =>
    intro s n drawing on
    have hon : (fun m => (s.mover m).phase.moves && decide (s.activeTank m = some n)) = fun m => decide (on m) := by
      funext m
      have hdrawing : (s.mover m).phase.moves = drawing m := by
        simp only [drawing]
        cases (s.mover m).phase <;> rfl
      simp only [on, hdrawing, activeTank_eq_bind, Bool.decide_and, Bool.decide_eq_true]
    rw [State.motion, hon, allMovers]
    simp only [runTransfer_eq_bind]
    cases [MoverId.m1, .m2, .m3].find? fun m => decide (on m) with
    | none => rfl
    | some m => rfl
  case fillOrigin =>
    intro s
    unfold State.fillOrigin
    cases s.modes.mode <;> rfl
  case fillStart =>
    intro s n h1 h24
    dsimp only
    rw [origin_fillStart s h1 h24]
    refine ⟨fillStart_frame s n, ?_, ?_, ?_, rfl, ?_⟩
    · rw [fillStart_eq, tank_setOrigin_same s _ h1 h24]
    · intro k hk1 _ hk
      rw [fillStart_eq, tank_setOrigin_other s _ h1 hk1 hk]
    · simp [State.filledOrigin, State.inExchangeArea]
    · rw [fillStart_eq]
      exact setOrigin_tankTable s n _
  case codes =>
    intro s n h1 h24
    dsimp only
    rw [origin_fillStart s h1 h24]
    simp only [State.filledOrigin]
    refine ⟨?_, ?_, ?_, ?_, ?_, ?_, fun hlen hnodup h0 hfill => fillCodes_bounded hlen hnodup h0 hfill⟩
    · intro h c hc
      simp [h, hc, fillCodes_empty]
    · intro h hc
      simp [h, hc, fillCodes_empty]
    · intro h hc
      simp [h, hc, fillCodes_unknown]
    · intro h c hc hm
      simp [h, hc, fillCodes_known hm]
    · intro h c hc hm hroom
      simp [h, hc, fillCodes_room hm hroom]
    · intro h c hc hm oldest newest e
      rw [e] at hm
      simp [h, hc, e, fillCodes_full hm]

end Sys2Proof.Machine

/-! # The transfer query XQ (O16) -/

namespace Sys2Proof.Machine

/-! ## Checks -/

/-- A range check fails exactly outside the range (R190). -/
theorem not_inRange_iff {lo hi x : Int} : (!inRange lo hi x) = true ↔ ¬ (lo ≤ x ∧ x ≤ hi) := by
  rw [inRange, ← Bool.decide_and, Bool.not_eq_true', decide_eq_false_iff_not]

/-- The HALT check of a query fails in fault state RESTART alone (R68). -/
theorem inRestart_iff {s : State} : s.inRestart = true ↔ s.faults.state = .restart := by
  simp [State.inRestart]

/-- The command XQ is the console request with its own checks and effect. -/
theorem exec_transferQuery (ps : List Int) (s : State) :
    exec (.transferQuery ps) s = .next (s.consoleRequest .XQ ps (xqChecks s ps) fun s => s.takeXQ ps) := rfl

/-! ## The place of a transfer (R41) -/

section
variable {s : State} {id : Nat} {m : MoverId}

/-- A transfer in the run slot of a mover is ACTIVE. -/
theorem transferWord_active (ha : s.activeOn id = some m) : s.transferWord id = "ACTIVE" := by
  simp [State.transferWord, ha]

/-- The mover of an ACTIVE transfer is the one in whose run slot it stands. -/
theorem moverOf_active (ha : s.activeOn id = some m) : s.moverOf id = some m := by
  simp [State.moverOf, ha]

/-- A transfer on the stack of a mover, and in no run slot, is STACKED. -/
theorem transferWord_stacked (ha : s.activeOn id = none) (hs : s.stackedOn id = some m) :
    s.transferWord id = "STACKED" := by
  simp [State.transferWord, ha, hs]

/-- The mover of a transfer in no run slot is the one on whose stack it stands, if there is one. -/
theorem moverOf_not_active (ha : s.activeOn id = none) : s.moverOf id = s.stackedOn id := by
  simp [State.moverOf, ha]

/-- A transfer in no run slot and on no stack is PENDING. -/
theorem transferWord_pending (ha : s.activeOn id = none) (hs : s.stackedOn id = none) :
    s.transferWord id = "PENDING" := by
  simp [State.transferWord, ha, hs]

end

/-! ## The effect -/

/-- XQ without parameters replies the table (R66). -/
theorem takeXQ_table (s : State) {ps : List Int} (h : ps.length = 0) : s.takeXQ ps = s.reply .XQ s.xqTable := by
  simp [State.takeXQ, h]

/-- XQ with the id of a transfer in use replies that transfer (R67). -/
theorem takeXQ_transfer {s : State} {ps : List Int} {t : Transfer} (h : ps.length = 1)
    (ht : s.transfer? (parN ps 1) = some t) : s.takeXQ ps = s.reply .XQ (s.xqFields t) := by
  simp [State.takeXQ, h, ht]

/-- Settles O16: the ladder of checks rung by rung, then the table, or the one transfer by its place. -/
theorem transferQueryReports : Obligations.TransferQueryReports := by
  unfold Obligations.TransferQueryReports
  intro s ps htakes
  dsimp only
  rw [exec_transferQuery, xqChecks, consoleRequest_cons htakes, consoleRequest_cons htakes,
    consoleRequest_cons htakes, consoleRequest_cons htakes, consoleRequest_nil htakes]
  refine congrArg Host.Outcome.next ?_
  refine rung decide_eq_true_iff fun hargs => ?_
  refine rung (by rw [Bool.and_eq_true, decide_eq_true_iff, not_inRange_iff]) fun _ => ?_
  refine rung inRestart_iff fun _ => ?_
  by_cases htable : ps.length = 0
  · simp only [htable, takeXQ_table s htable, State.xqTable]
    rfl
  have hone : ps.length = 1 := by omega
  cases ht : s.transfer? (parN ps 1) with
  | none => simp [hone, State.noTransfer, ht]
  | some t =>
    have hfound : s.noTransfer ps = false := by simp [State.noTransfer, ht]
    simp only [hone, hfound, takeXQ_transfer hone ht]
    refine congrArg (s.reply .XQ) ?_
    cases ha : s.activeOn t.id with
    | some m =>
      rw [State.xqFields, transferWord_active ha, moverOf_active ha]
      rfl
    | none =>
      cases hs : s.stackedOn t.id with
      | some m =>
        rw [State.xqFields, transferWord_stacked ha hs, moverOf_not_active ha, hs]
        rfl
      | none =>
        rw [State.xqFields, transferWord_pending ha hs, moverOf_not_active ha, hs]
        rfl

end Sys2Proof.Machine

/-! # The effective target of an entry (O45) -/

namespace Sys2Proof.Machine

/-! ## The table of R74, row by row -/

section
variable (p : Option Memory) (e : Entry)

/-- PUMP DISCHARGE aims at the written target, raised to the pump floor where it lies below it. -/
theorem effectiveTarget_pump_discharge : effectiveTarget p .pump .discharge e =
    if e.target < tankFloor p e.tank then tankFloor p e.tank else e.target := by
  rw [effectiveTarget, max_def_lt]

@[simp] theorem effectiveTarget_pump_fill : effectiveTarget p .pump .fill e = e.target := rfl

/-- STRIP aims at the written target: the pump floor does not bound it. -/
@[simp] theorem effectiveTarget_strip (dir : Direction) : effectiveTarget p .strip dir e = e.target := rfl

end

/-! ## When an entry is met -/

section
variable {s : State} {t : Transfer} {e : Entry} {v : Nat}

/-- A discharge entry is met once the tank has fallen to its effective target. -/
theorem entryMet_discharge (hvol : (s.tank e.tank).volume = some v) (hdir : t.direction = .discharge) :
    s.entryMet t e = true ↔ v ≤ effectiveTarget s.parts t.kind .discharge e := by
  simp [State.entryMet, hvol, hdir]

/-- A fill entry is met once the tank has risen to its effective target. -/
theorem entryMet_fill (hvol : (s.tank e.tank).volume = some v) (hdir : t.direction = .fill) :
    s.entryMet t e = true ↔ effectiveTarget s.parts t.kind .fill e ≤ v := by
  simp [State.entryMet, hvol, hdir]

end

/-- Settles O45: the three rows of R74's table, then the comparison for each direction of the transfer. -/
theorem effectiveTargets : Obligations.EffectiveTargets := by
  unfold Obligations.EffectiveTargets
  refine ⟨fun p e => ?rows, fun s t e v hvol => ?done⟩
  case rows =>
    exact ⟨effectiveTarget_pump_discharge p e, effectiveTarget_pump_fill p e, effectiveTarget_strip p e .discharge⟩
  case done => exact ⟨entryMet_discharge hvol, entryMet_fill hvol⟩

end Sys2Proof.Machine

/-! # The percent of a watched quantity (O46) -/

namespace Sys2Proof.Machine

/-! ## The applicable limit (R121, section 11.2) -/

theorem LimitSet.offset_eq (set : LimitSet) : set.offset = if set = .sea then 1 else 0 := by
  cases set <;> rfl

/-- The side of an upper-bounded entry is the sign of its value. -/
theorem signOf_eq_plus_iff {i : Nat} (hi : i < 34) (v : Int) : signOf i v = .plus ↔ 0 ≤ v := by
  simp [signOf, hi]

section
variable (p : Option Memory) (set : LimitSet) {i : Nat}

/-- The shear of a station has its limits at words 2 and 4 of the station's record, by the sign of the value. -/
theorem upperLimit_shear (hi : i < 32) (heven : i % 2 = 0) (v : Int) : upperLimit p set i (signOf i v) =
    if 0 ≤ v then pnat p (stationBase (i / 2 + 1) + 2 + set.offset)
    else pnat p (stationBase (i / 2 + 1) + 4 + set.offset) := by
  simp only [upperLimit, if_pos hi, if_pos heven, signOf_eq_plus_iff (show i < 34 by omega)]
  split <;> rfl

/-- The bending of a station has its limits at words 6 and 8 of the station's record, by the sign of the value. -/
theorem upperLimit_bending (hi : i < 32) (hodd : ¬ i % 2 = 0) (v : Int) : upperLimit p set i (signOf i v) =
    if 0 ≤ v then pnat p (stationBase (i / 2 + 1) + 6 + set.offset)
    else pnat p (stationBase (i / 2 + 1) + 8 + set.offset) := by
  simp only [upperLimit, if_pos hi, if_neg hodd, signOf_eq_plus_iff (show i < 34 by omega)]
  split <;> rfl

/-- Trim has one limit for both sides. -/
theorem upperLimit_trim (sign : Sign) : upperLimit p set 32 sign = pnat p (8 + set.offset) := rfl

/-- List has one limit for both sides. -/
theorem upperLimit_list (sign : Sign) : upperLimit p set 33 sign = pnat p (10 + set.offset) := rfl

end

/-! ## The quotients (R121, R122) -/

/-- The quotient of an upper-bounded entry is held to 999; a limit of 0 has none. -/
theorem percentUpper_eq (v : Int) (limit : Nat) : percentUpper v limit =
    if limit = 0 then (if v = 0 then 0 else 999)
    else if 999 < v.natAbs * 100 / limit then 999 else v.natAbs * 100 / limit := by
  rw [percentUpper, min_def_lt]

/-- A clearance of 0 or less is at 999 whatever the minimum. -/
theorem percentLower_nonpos {a : Int} (ha : a ≤ 0) (r : Nat) : percentLower a r = 999 := if_pos ha

/-- The quotient of a lower-bounded entry with a positive clearance is held to 999. -/
theorem percentLower_pos {k : Nat} (hk : 0 < k) (r : Nat) :
    percentLower k r = if 999 < r * 100 / k then 999 else r * 100 / k := by
  rw [percentLower, if_neg (by omega), Int.toNat_natCast, min_def_lt]

section
variable (p : Option Memory) (set : LimitSet) (berth : Option BerthRecord) {i : Nat}

theorem percentOf_upper (hi : i < 34) (v : Int) :
    percentOf p set berth i v = percentUpper v (upperLimit p set i (signOf i v)) := if_pos hi

theorem percentOf_lower (hi : 34 ≤ i) (a : Int) :
    percentOf p set berth i a = percentLower a (requiredClearance berth i) := if_neg (by omega)

end

/-- Settles O46: the kind of the entry selects the limit, and the quotient against it is the percent. -/
theorem percentsAreComputed : Obligations.PercentsAreComputed := by
  unfold Obligations.PercentsAreComputed
  refine ⟨?upper, ?lower⟩
  case upper =>
    intro p set berth i v hi sea station limit
    have hlimit : upperLimit p set i (signOf i v) = limit := by
      simp only [limit, station, sea, ← LimitSet.offset_eq]
      by_cases hstation : i < 32
      · rw [if_pos hstation]
        by_cases heven : i % 2 = 0
        · rw [if_pos heven, upperLimit_shear p set hstation heven]
        · rw [if_neg heven, upperLimit_bending p set hstation heven]
      · obtain rfl | rfl : i = 32 ∨ i = 33 := by omega
        · exact upperLimit_trim p set _
        · exact upperLimit_list p set _
    rw [percentOf_upper p set berth hi, hlimit, percentUpper_eq]
  case lower =>
    intro p set b i a hi r
    have hclearance : percentOf p set (some b) i a = percentLower a r := percentOf_lower p set (some b) (by omega) a
    refine ⟨fun ha => ?_, fun k hk hpos => ?_⟩
    · rw [hclearance, percentLower_nonpos ha]
    · rw [hclearance, hk, percentLower_pos hpos]

end Sys2Proof.Machine

/-! # The parser's moves and its bound of 16 parameters (O6) -/

namespace Sys2Proof.Machine

/-! ## The table of R187, state by state -/

/-- The range test of a capital letter. -/
theorem isCapital_iff {c : Byte} : isCapital c = true ↔ 0x41 ≤ c.toNat ∧ c.toNat ≤ 0x5A := by
  simp [isCapital]

/-- A character '0'..'9' has the value of its distance from '0'. -/
theorem digitOf_digit {c : Byte} (h : 0x30 ≤ c.toNat ∧ c.toNat ≤ 0x39) : digitOf c = some (c.toNat - 0x30) := if_pos h

/-- Any other character is no digit. -/
theorem digitOf_other {c : Byte} (h : ¬ (0x30 ≤ c.toNat ∧ c.toNat ≤ 0x39)) : digitOf c = none := if_neg h

/-- Fewer than two letters are not yet a verb. -/
theorem twoLetters_few {ls : List Byte} (h : ls.length < 2) : twoLetters ls = none := by
  rcases ls with _ | ⟨a, _ | ⟨b, rest⟩⟩
  · rfl
  · rfl
  · simp only [List.length_cons] at h
    omega

theorem parserStep_ground (c : Byte) :
    Parser.ground.step c = if c = charByte '#' then (.verb [], none) else (.ground, none) := rfl

/-- In VERB with room for a letter, a capital letter is the only character that belongs there. -/
theorem parserStep_verb_few {ls : List Byte} (h : ls.length < 2) (c : Byte) : (Parser.verb ls).step c =
    if 0x41 ≤ c.toNat ∧ c.toNat ≤ 0x5A then (.verb (ls ++ [c]), none) else (.discard none, none) := by
  simp only [Parser.step, verbStep, twoLetters_few h, h, decide_true, Bool.and_true, isCapital_iff]

/-- In VERB with both letters, the verb ends with ',' or ';'. -/
theorem parserStep_verb_two (a b c : Byte) : (Parser.verb [a, b]).step c =
    if c = charByte ',' then (.parameter (a, b) [] false [], none)
    else if c = charByte ';' then (.ground, some (.complete (a, b) []))
    else (.discard (some (a, b)), none) := rfl

theorem parserStep_discard (ls : Option (Byte × Byte)) (c : Byte) : (Parser.discard ls).step c =
    if c = charByte ';' then (.ground, some (.malformed ls)) else (.discard ls, none) := rfl

section
variable (ls : Byte × Byte) (ps : List Int) (neg : Bool) (ds : List Nat)

/-- In PARAMETER, '-' is the sign, in the first place alone. -/
theorem parserStep_parameter_minus : (Parser.parameter ls ps neg ds).step (charByte '-') =
    if neg = false ∧ ds = [] then (.parameter ls ps true [], none) else (.discard (some ls), none) := by
  simp [Parser.step, paramStep]

/-- In PARAMETER, ',' completes a parameter that has a digit and is not the sixteenth. -/
theorem parserStep_parameter_comma : (Parser.parameter ls ps neg ds).step (charByte ',') =
    if ds ≠ [] ∧ ps.length < 15 then (.parameter ls (ps ++ [paramValue neg ds]) false [], none)
    else (.discard (some ls), none) := by
  have hminus : charByte ',' ≠ charByte '-' := by decide
  simp [Parser.step, paramStep, hminus]

/-- In PARAMETER, ';' completes the last parameter if it has a digit. -/
theorem parserStep_parameter_end : (Parser.parameter ls ps neg ds).step (charByte ';') =
    if ds ≠ [] then (.ground, some (.complete ls (ps ++ [paramValue neg ds]))) else (.discard (some ls), none) := by
  have hminus : charByte ';' ≠ charByte '-' := by decide
  have hcomma : charByte ';' ≠ charByte ',' := by decide
  simp [Parser.step, paramStep, hminus, hcomma]

/-- In PARAMETER, of the characters that are no mark only a digit belongs there, up to the ninth. -/
theorem parserStep_parameter_other {c : Byte} (hminus : c ≠ charByte '-') (hcomma : c ≠ charByte ',')
    (hend : c ≠ charByte ';') : (Parser.parameter ls ps neg ds).step c =
    if (0x30 ≤ c.toNat ∧ c.toNat ≤ 0x39) ∧ ds.length < 9 then (.parameter ls ps neg (ds ++ [c.toNat - 0x30]), none)
    else (.discard (some ls), none) := by
  simp only [Parser.step, paramStep, if_neg hminus, if_neg hcomma, if_neg hend]
  by_cases hdigit : 0x30 ≤ c.toNat ∧ c.toNat ≤ 0x39
  · rw [digitOf_digit hdigit]
    simp only [hdigit, and_self, true_and]
  · rw [digitOf_other hdigit, if_neg fun h => hdigit h.1]

/-- The PARAMETER rows of R187 as one table. The marks are told apart by their codes, and none of them is a digit. -/
theorem parserStep_parameter (c : Byte) : (Parser.parameter ls ps neg ds).step c =
    if c = charByte '-' ∧ neg = false ∧ ds = [] then (.parameter ls ps true [], none)
    else if (0x30 ≤ c.toNat ∧ c.toNat ≤ 0x39) ∧ ds.length < 9 then
      (.parameter ls ps neg (ds ++ [c.toNat - 0x30]), none)
    else if c = charByte ',' ∧ ds ≠ [] ∧ ps.length < 15 then
      (.parameter ls (ps ++ [paramValue neg ds]) false [], none)
    else if c = charByte ';' ∧ ds ≠ [] then (.ground, some (.complete ls (ps ++ [paramValue neg ds])))
    else (.discard (some ls), none) := by
  by_cases hminus : c = charByte '-'
  · subst hminus
    rw [parserStep_parameter_minus]
    simp [charByte]
  by_cases hcomma : c = charByte ','
  · subst hcomma
    rw [parserStep_parameter_comma]
    simp [charByte]
  by_cases hend : c = charByte ';'
  · subst hend
    rw [parserStep_parameter_end]
    simp [charByte]
  · rw [parserStep_parameter_other ls ps neg ds hminus hcomma hend]
    simp only [hminus, hcomma, hend, false_and, if_false]

end

/-! ## At most 16 parameters -/

/-- The complete parameters that the parser holds. -/
def Parser.params : Parser → List Int
  | .parameter _ ps _ _ => ps
  | _ => []

/-- In VERB no parameter is complete, and a sequence that terminates there carries none. -/
theorem parserStep_verb_params (ls : List Byte) (c : Byte) : ((Parser.verb ls).step c).1.params = [] ∧
    ∀ p ps, ((Parser.verb ls).step c).2 = some (.complete p ps) → ps = [] := by
  simp only [Parser.step, verbStep]
  cases twoLetters ls with
  | none =>
    dsimp only
    split_ifs <;> simp [Parser.params]
  | some letters =>
    dsimp only
    split_ifs <;> simp [Parser.params]

/-- No character brings the parser to hold more than 15 complete parameters. -/
theorem parserStep_params_le {x : Parser} (h : x.params.length ≤ 15) (c : Byte) : (x.step c).1.params.length ≤ 15 := by
  cases x with
  | ground =>
    rw [parserStep_ground]
    split_ifs <;> simp [Parser.params]
  | verb ls => simp [(parserStep_verb_params ls c).1]
  | parameter ls ps neg ds =>
    have hheld : ps.length ≤ 15 := h
    rw [parserStep_parameter]
    split_ifs with _ _ hcomma
    · exact hheld
    · exact hheld
    · obtain ⟨-, -, hroom⟩ := hcomma
      simp only [Parser.params, List.length_append, List.length_singleton]
      omega
    · exact Nat.zero_le 15
    · exact Nat.zero_le 15
  | discard ls =>
    rw [parserStep_discard]
    split_ifs <;> simp [Parser.params]

/-- A termination carries at most one parameter more than the parser held complete. -/
theorem params_of_parserStep_complete {x : Parser} {c : Byte} {p : Byte × Byte} {ps : List Int}
    (h : (x.step c).2 = some (.complete p ps)) : ps.length ≤ x.params.length + 1 := by
  cases x with
  | ground =>
    rw [parserStep_ground] at h
    split_ifs at h
  | verb ls => simp [(parserStep_verb_params ls c).2 p ps h]
  | parameter ls held neg ds =>
    rw [parserStep_parameter] at h
    split_ifs at h
    cases h
    simp [Parser.params]
  | discard ls =>
    rw [parserStep_discard] at h
    split_ifs at h
    cases h

/-- From a parser that holds at most 15 complete parameters, no run terminates a sequence of more than 16. -/
theorem params_of_parserRun_complete {x : Parser} (hx : x.params.length ≤ 15) {cs : List Byte} {p : Byte × Byte}
    {ps : List Int} (h : Ending.complete p ps ∈ (Parser.run x cs).2) : ps.length ≤ 16 := by
  induction cs generalizing x with
  | nil => cases h
  | cons c cs ih =>
    rcases List.mem_append.mp h with hnow | hlater
    · have hbound := params_of_parserStep_complete (Option.mem_toList.mp hnow)
      omega
    · exact ih (parserStep_params_le hx c) hlater

/-- Settles O6: the table of each state, then the bound, from the 15 complete parameters that the parser holds at
most. -/
theorem parserMovesByItsState : Obligations.ParserMovesByItsState := by
  unfold Obligations.ParserMovesByItsState
  refine ⟨fun c => ⟨?ground, ?verbFew, ?verbTwo, ?parameter, ?discard⟩, ?bound⟩
  case ground => exact parserStep_ground c
  case verbFew => exact fun ls h => parserStep_verb_few h c
  case verbTwo => exact fun a b => parserStep_verb_two a b c
  case parameter => exact fun ls ps neg ds => parserStep_parameter ls ps neg ds c
  case discard => exact fun ls => parserStep_discard ls c
  case bound => exact fun cs p ps h => params_of_parserRun_complete (x := .ground) (Nat.zero_le 15) h

end Sys2Proof.Machine

/-! # The attention query AQ and the identity ID (O32) -/

namespace Sys2Proof.Machine

/-! ## The commands -/

/-- The command AQ is the console request with its own checks and effect. -/
theorem exec_attentionQuery (ps : List Int) (s : State) : exec (.attentionQuery ps) s =
    .next (s.consoleRequest .AQ ps (aqChecks ps) fun s => s.reply .AQ (s.aqFields (aqStart ps))) := rfl

/-- The command ID is the console request with its own checks and effect. -/
theorem exec_identify (ps : List Int) (s : State) : exec (.identify ps) s =
    .next (s.consoleRequest .ID ps (idChecks ps) fun s => s.reply .ID (s.idFields (par ps 1))) := rfl

/-! ## The leaves of ID (R195) -/

section
variable (s : State)

theorem idFields_vendor : s.idFields 0 = [.num 0, .num 2, .word "MERIGAL PANDREL"] := rfl

theorem idFields_part : s.idFields 1 =
    [.num 1, .word "PD-2416", .num 4, .num 24, .num 9, .num 8, .num 16, .num 16, .num 48, .num 3, .num 64] := rfl

/-- The ship's leaf is empty while the particulars are marked invalid. -/
theorem idFields_ship_invalid (h : s.particulars.inUse = none) :
    s.idFields 2 = [.num 2, .empty, .empty, .empty] := by
  simp [State.idFields, State.shipCode, State.parts, h, fint?, fnat?]

/-- The ship's leaf gives the first two words of the particulars in use, and their checksum. -/
theorem idFields_ship_valid {m : Memory} (h : s.particulars.inUse = some m) : s.idFields 2 =
    [.num 2, .num (m.read 0), .num (m.read 1), fnat s.particulars.storeChecksum] := by
  simp [State.idFields, State.shipCode, State.parts, h, fint?, fnat?, fnat]

end

/-- Settles O32: the two checks of each verb rung by rung, then the pending items from the start position, or the leaf
asked for. -/
theorem attentionAndIdentityReport : Obligations.AttentionAndIdentityReport := by
  unfold Obligations.AttentionAndIdentityReport
  intro s ps a start
  refine ⟨fun htakes => ?attention, fun htakes => ?identity⟩
  case attention =>
    rw [exec_attentionQuery, aqChecks, consoleRequest_cons htakes, consoleRequest_cons htakes,
      consoleRequest_nil htakes]
    refine congrArg Host.Outcome.next ?_
    refine rung decide_eq_true_iff fun _ => ?_
    exact rung (by rw [Bool.and_eq_true, decide_eq_true_iff, not_inRange_iff]) fun _ => rfl
  case identity =>
    rw [exec_identify, idChecks, consoleRequest_cons htakes, consoleRequest_cons htakes, consoleRequest_nil htakes]
    refine congrArg Host.Outcome.next ?_
    refine rung decide_eq_true_iff fun _ => ?_
    refine rung not_inRange_iff fun hrange => ?_
    generalize par ps 1 = leaf at hrange ⊢
    obtain rfl | rfl | rfl : leaf = 0 ∨ leaf = 1 ∨ leaf = 2 := by omega
    · rw [idFields_vendor, if_pos rfl]
    · rw [idFields_part, if_neg (by decide), if_pos rfl]
    · rw [if_neg (by decide), if_neg (by decide)]
      cases h : s.particulars.inUse with
      | none => rw [idFields_ship_invalid s h]
      | some m => rw [idFields_ship_valid s h]

end Sys2Proof.Machine

/-! # The particulars write PW (O36) -/

namespace Sys2Proof.Machine

/-! ## The command -/

/-- The command PW is the console request with its own checks and effect. -/
theorem exec_particularsWrite (ps : List Int) (s : State) : exec (.particularsWrite ps) s =
    .next (s.consoleRequest .PW ps (pwChecks s ps) fun s => s.takePW ps) := rfl

/-! ## The checks (R201) -/

section
variable {ps : List Int}

/-- PW fails its ARGS check exactly outside 2 to 16 parameters. -/
theorem pwArgs_iff : (decide (ps.length < 2) || decide (16 < ps.length)) = true ↔
    ¬ (2 ≤ ps.length ∧ ps.length ≤ 16) := by
  rw [Bool.or_eq_true, decide_eq_true_iff, decide_eq_true_iff]
  omega

/-- With at least two parameters, PW fails its RANGE check exactly when its start address or its last address lies outside
the block. -/
theorem pwRange_iff (h : 2 ≤ ps.length) :
    (!inRange 0 2839 (par ps 1) || decide (2839 < par ps 1 + (ps.length - 2 : Nat))) = true ↔
      ¬ (0 ≤ par ps 1 ∧ par ps 1 ≤ 2839 ∧ par ps 1 + ((ps.length : Int) - 2) ≤ 2839) := by
  rw [Bool.or_eq_true, not_inRange_iff, decide_eq_true_iff]
  omega

end

/-! ## The words written (R201) -/

/-- After PW's write, the word `k` places above the start address is parameter `k + 2`, counted from 1 (index `k + 1` of
the list); every word outside the run of values is as it was. -/
theorem read_writeAll_params {m : Memory} (h : m.wf = true) (start : Nat) (ps : List Int) (a : Nat) :
    (m.writeAll start (ps.drop 1)).read a =
      if start ≤ a ∧ a < start + (ps.length - 1) then ps.getD (a - start + 1) 0 else m.read a := by
  have hvalue : (ps.drop 1).getD (a - start) 0 = ps.getD (a - start + 1) 0 := by
    simp only [List.getD_eq_getElem?_getD, List.getElem?_drop, Nat.add_comm]
  rw [read_writeAll h, List.length_drop, hvalue]

/-- Settles O36: the edit copy after the write is the witness, its words read address by address; then the four checks,
rung by rung. -/
theorem particularsAreWritten : Obligations.ParticularsAreWritten := by
  unfold Obligations.ParticularsAreWritten
  intro s ps htakes hwf
  refine ⟨s.editCopy.writeAll (parN ps 1) (ps.drop 1), read_writeAll_params hwf (parN ps 1) ps, ?_⟩
  rw [exec_particularsWrite, pwChecks, consoleRequest_cons htakes, consoleRequest_cons htakes,
    consoleRequest_cons htakes, consoleRequest_cons htakes, consoleRequest_nil htakes]
  refine congrArg Host.Outcome.next ?_
  refine rung pwArgs_iff fun hargs => ?_
  obtain ⟨htwo, _⟩ := not_not.mp hargs
  refine rung (pwRange_iff htwo) fun _ => ?_
  refine rung inRestart_iff fun _ => ?_
  exact rung decide_eq_true_iff fun _ => rfl

end Sys2Proof.Machine

/-! # What every command keeps (O3, O55, O56, O57) -/

namespace Sys2Proof.Machine

/-! ## The effect of an operation on what the invariants speak of -/

/-- What an operation of the running part leaves of the things the invariants speak of, the sequence in hand of the
shore link and the console's transmit side apart. -/
structure Effect (s t : State) : Prop where
  pending : t.pending = s.pending
  condition : t.modes.condition = s.modes.condition
  writing : t.particulars.writing = s.particulars.writing
  particulars : ParticularsGood s → ParticularsGood t
  attention : s.attention.Good → t.attention.Good
  drive : DriveGood s → DriveGood t
  rx : t.console.rx.queue = s.console.rx.queue ∧ t.console.rx.inHand = s.console.rx.inHand
  replies : t.console.replies.length ≤ s.console.replies.length
  shoreQueue : t.shore.rx.queue = s.shore.rx.queue
  slots : (s.shore.slots.map Prod.fst).Nodup → (t.shore.slots.map Prod.fst).Nodup

theorem Effect.refl (s : State) : Effect s s := ⟨rfl, rfl, rfl, id, id, id, ⟨rfl, rfl⟩, Nat.le_refl _, rfl, id⟩

theorem Effect.trans {s t u : State} (h : Effect s t) (g : Effect t u) : Effect s u where
  pending := g.pending.trans h.pending
  condition := g.condition.trans h.condition
  writing := g.writing.trans h.writing
  particulars := g.particulars ∘ h.particulars
  attention := g.attention ∘ h.attention
  drive := g.drive ∘ h.drive
  rx := ⟨g.rx.1.trans h.rx.1, g.rx.2.trans h.rx.2⟩
  replies := g.replies.trans h.replies
  shoreQueue := g.shoreQueue.trans h.shoreQueue
  slots := g.slots ∘ h.slots

/-- Equal Particulars Stores are good alike. -/
theorem particularsGood_congr {s t : State} (h : t.particulars = s.particulars) :
    ParticularsGood s → ParticularsGood t := by
  unfold ParticularsGood
  rw [h]
  exact id

theorem Work.effect {s t : State} (h : Work s t) : Effect s t where
  pending := h.pending
  condition := by rw [h.modes]
  writing := by rw [h.particulars]
  particulars := particularsGood_congr h.particulars
  attention := h.attention
  drive := h.drive
  rx := by rw [h.console]; exact ⟨rfl, rfl⟩
  replies := by rw [h.console]
  shoreQueue := by rw [h.shoreRx.1]
  slots := h.slots

theorem Transmits.effect {s t : State} (h : Transmits s t) : Effect s t := by
  have e := eq_of_outsideLinks h.frame
  have hx := h.rx
  have hr := h.replies
  have hs := h.shore.1
  have hn := h.slots
  generalize t.console = c at *
  generalize t.composer = k at *
  generalize t.shore = p at *
  subst e
  exact ⟨rfl, rfl, rfl, id, id, id, ⟨congrArg ReceiveSide.queue hx, congrArg ReceiveSide.inHand hx⟩, hr, congrArg ReceiveSide.queue hs, hn⟩

section

variable {s t : State} (h : Effect s t)
include h

theorem Effect.work {u : State} (g : Work t u) : Effect s u := h.trans g.effect

theorem Effect.setNow (n : Nat) : Effect s (t.setNow n) :=
  h.trans ⟨rfl, rfl, rfl, id, id, id, ⟨rfl, rfl⟩, Nat.le_refl _, rfl, id⟩

theorem Effect.send (o : Output) : Effect s (t.send o) :=
  h.trans ⟨rfl, rfl, rfl, id, id, id, ⟨rfl, rfl⟩, Nat.le_refl _, rfl, id⟩

theorem Effect.setCond (x : ConditionUnit) : Effect s (t.setCond x) :=
  h.trans ⟨rfl, rfl, rfl, id, id, id, ⟨rfl, rfl⟩, Nat.le_refl _, rfl, id⟩

theorem Effect.setPour (x : PourPlan) : Effect s (t.setPour x) :=
  h.trans ⟨rfl, rfl, rfl, id, id, id, ⟨rfl, rfl⟩, Nat.le_refl _, rfl, id⟩

theorem Effect.setMargins (x : MarginMonitor) : Effect s (t.setMargins x) :=
  h.trans ⟨rfl, rfl, rfl, id, id, id, ⟨rfl, rfl⟩, Nat.le_refl _, rfl, id⟩

theorem Effect.setSettings (x : SettingsStore) : Effect s (t.setSettings x) :=
  h.trans ⟨rfl, rfl, rfl, id, id, id, ⟨rfl, rfl⟩, Nat.le_refl _, rfl, id⟩

theorem Effect.setComposer (x : Composer) : Effect s (t.setComposer x) :=
  h.trans ⟨rfl, rfl, rfl, id, id, id, ⟨rfl, rfl⟩, Nat.le_refl _, rfl, id⟩

theorem Effect.setModes (x : ModeControl) (hx : x.condition = t.modes.condition) : Effect s (t.setModes x) :=
  h.trans ⟨rfl, hx, rfl, id, id, id, ⟨rfl, rfl⟩, Nat.le_refl _, rfl, id⟩

theorem Effect.setMover (m : MoverId) (x : Mover) : Effect s (t.setMover m x) := by
  refine h.trans ?_
  cases m <;> exact ⟨rfl, rfl, rfl, id, id, id, ⟨rfl, rfl⟩, Nat.le_refl _, rfl, id⟩

theorem Effect.setLoop (x : FieldLoop) (hx : x.drive = t.loop.drive) : Effect s (t.setLoop x) := by
  refine h.trans ⟨rfl, rfl, rfl, id, id, fun g a ha => ?_, ⟨rfl, rfl⟩, Nat.le_refl _, rfl, id⟩
  simp only [State.drive, loop_setLoop, hx] at ha
  exact g a ha

/-- The Fault Supervisor takes a value that leaves NORMAL for no other state. -/
theorem Effect.setFaults (f : FaultSupervisor) (hf : f.state ≠ .normal → t.faults.state ≠ .normal) :
    Effect s (t.setFaults f) := h.work ((Work.refl t).setFaults f hf)

theorem Effect.raise (i : Item) : Effect s (t.raise i) := h.work ((Work.refl t).raise i)

/-- The record of a tank takes a value that is claimed when the old one was. -/
theorem Effect.setTank (n : Nat) (x : TankLive) (hx : (t.tank n).claim ≠ none → x.claim ≠ none) :
    Effect s (t.setTank n x) := by
  refine h.trans ⟨rfl, rfl, rfl, id, id, fun g a ha => ?_, ⟨rfl, rfl⟩, Nat.le_refl _, rfl, id⟩
  obtain ⟨hr, hn, hc⟩ := g a ha
  refine ⟨hr, hn, fun k hk => ?_⟩
  rw [tank_setTank]
  split
  · rename_i e
    have hk' : t.tank k = t.tank n := by simp only [State.tank, e.1]
    exact hx (hk' ▸ hc k hk)
  · exact hc k hk

/-- The edit copy takes a good block, or goes. -/
theorem Effect.setEdit (x : Option Memory) (hx : ParticularsGood t → ∀ m, x = some m → m.good) :
    Effect s (t.setParticulars { t.particulars with edit := x }) :=
  h.trans ⟨rfl, rfl, rfl, fun g => ⟨g.1, g.2.1, g.2.2.1, hx g⟩, id, id, ⟨rfl, rfl⟩, Nat.le_refl _, rfl, id⟩

/-- The Shore Port takes a value with the same queue and one line in each slot. -/
theorem Effect.setShore (p : ShorePort) (hq : p.rx.queue = t.shore.rx.queue)
    (hn : (t.shore.slots.map Prod.fst).Nodup → (p.slots.map Prod.fst).Nodup) : Effect s (t.setShore p) :=
  h.trans ⟨rfl, rfl, rfl, id, id, id, ⟨rfl, rfl⟩, Nat.le_refl _, hq, hn⟩

/-- The console takes a value with the same queue and sequence in hand, and no more replies. -/
theorem Effect.setConsole (c : ConsolePort)
    (hx : c.rx.queue = t.console.rx.queue ∧ c.rx.inHand = t.console.rx.inHand)
    (hr : c.replies.length ≤ t.console.replies.length) : Effect s (t.setConsole c) :=
  h.trans ⟨rfl, rfl, rfl, id, id, id, hx, hr, rfl, id⟩

theorem Effect.requestEvaluation : Effect s t.requestEvaluation := by
  obtain ⟨q, e, -⟩ := requestEvaluation_eq t
  exact e ▸ h.setCond q

theorem Effect.massChange : Effect s t.massChange := (h.setCond _).requestEvaluation

theorem Effect.foldl {α : Type} {f : State → α → State} (l : List α)
    (hf : ∀ u x, Effect s u → Effect s (f u x)) : Effect s (l.foldl f t) := by
  induction l generalizing t with
  | nil => exact h
  | cons x xs ih => exact ih (hf t x h)

end

/-! ## Room for the reply that is owed -/

/-- The attention set and the links are within their bounds. -/
def Bounded (s : State) : Prop := s.attention.Good ∧ LinksGood s

/-- A state in which a console reply may be placed: no commit is being written, and the reply queue has room. -/
def Owes (s : State) : Prop :=
  s.particulars.writing = none ∧ s.console.replies.length < Config.replyCount

theorem Effect.bounded {s t : State} (h : Effect s t) (g : Bounded s) : Bounded t := by
  obtain ⟨ga, gc, gs, gr, go, gn⟩ := g
  refine ⟨h.attention ga, ?_, ?_, h.replies.trans gr, ?_, h.slots gn⟩
  · rw [h.rx.1]; exact gc
  · rw [h.shoreQueue]; exact gs
  · rw [h.rx.2, h.writing]
    exact fun x => Nat.lt_of_le_of_lt h.replies (go x)

theorem Effect.owes {s t : State} (h : Effect s t) (g : Owes s) : Owes t :=
  ⟨h.writing.trans g.1, Nat.lt_of_le_of_lt h.replies g.2⟩

/-- A reply is placed where it is owed. -/
theorem Replies.bounded {s t : State} (h : Replies s t) (o : Owes s) (g : Bounded s) : Bounded t := by
  obtain ⟨ga, gc, gs, gr, -, gn⟩ := g
  have e := eq_of_outsideLinks h.frame
  have ht : t.attention = s.attention := by rw [e]; rfl
  have hw : t.particulars.writing = s.particulars.writing := by rw [e]; rfl
  refine ⟨ht ▸ ga, ?_, ?_, h.replies.trans o.2, ?_, h.slots gn⟩
  · rw [h.rx]; exact gc
  · rw [h.shore.1]; exact gs
  · rw [h.rx, hw, o.1]
    rintro (x | x) <;> exact absurd rfl x

/-! ## What a command keeps -/

/-- What every command keeps: the queue of waiting commands, and three of the invariants. -/
structure Kept (s t : State) : Prop where
  pending : t.pending = s.pending
  particulars : ParticularsGood s → ParticularsGood t
  bounded : Bounded s → Bounded t
  drive : DriveSafe s → DriveSafe t

theorem Kept.refl (s : State) : Kept s s := ⟨rfl, id, id, id⟩

theorem Kept.trans {s t u : State} (h : Kept s t) (g : Kept t u) : Kept s u :=
  ⟨g.pending.trans h.pending, g.particulars ∘ h.particulars, g.bounded ∘ h.bounded, g.drive ∘ h.drive⟩

/-- An effect that lets a part at rest be at rest is kept. -/
theorem Effect.kept {s t : State} (h : Effect s t) (rest : AtRest s → AtRest t) : Kept s t :=
  ⟨h.pending, h.particulars, h.bounded, fun g => ⟨h.drive g.1, rest g.2⟩⟩

/-- A part that runs is not at rest. -/
theorem atRest_of_running {s : State} (h : s.modes.condition = .running) : AtRest s := fun g => absurd h g

theorem Effect.keptRunning {s t : State} (h : Effect s t) (hr : s.modes.condition = .running) : Kept s t :=
  h.kept fun _ => atRest_of_running (h.condition.trans hr)

/-- What a console verb that is taken does: its effect, its reply, and what follows the reply. -/
def Answers (s t : State) : Prop := ∃ u v, Effect s u ∧ Replies u v ∧ Effect v t

theorem Answers.of {s u v : State} (h : Effect s u) (r : Replies u v) : Answers s v := ⟨u, v, h, r, Effect.refl v⟩

theorem Answers.effect {s t u : State} (h : Answers s t) (g : Effect t u) : Answers s u := by
  obtain ⟨a, b, h1, h2, h3⟩ := h
  exact ⟨a, b, h1, h2, h3.trans g⟩

/-- Placing a reply leaves what lies outside the links. -/
theorem Replies.eq {s t : State} (h : Replies s t) :
    t = ((s.setConsole t.console).setComposer t.composer).setShore t.shore := eq_of_outsideLinks h.frame

theorem Replies.driveGood {s t : State} (h : Replies s t) (g : DriveGood s) : DriveGood t := by
  rw [h.eq]
  exact g

theorem Replies.condition {s t : State} (h : Replies s t) : t.modes.condition = s.modes.condition := by
  rw [h.eq]
  rfl

theorem Replies.particulars {s t : State} (h : Replies s t) : t.particulars = s.particulars := by
  rw [h.eq]
  rfl

theorem Replies.pending {s t : State} (h : Replies s t) : t.pending = s.pending := by
  rw [h.eq]
  rfl

theorem Answers.kept {s t : State} (h : Answers s t) (hr : s.modes.condition = .running) (o : Bounded s → Owes s) :
    Kept s t := by
  obtain ⟨u, v, h1, h2, h3⟩ := h
  refine ⟨h3.pending.trans (h2.pending.trans h1.pending),
    fun g => h3.particulars (particularsGood_congr h2.particulars (h1.particulars g)),
    fun g => h3.bounded (h2.bounded (h1.owes (o g)) (h1.bounded g)),
    fun g => ⟨h3.drive (h2.driveGood (h1.drive g.1)), atRest_of_running ?_⟩⟩
  exact h3.condition.trans (h2.condition.trans (h1.condition.trans hr))

/-- A console request that has its turn is owed its reply. -/
theorem owes_of_turn {s : State} {v : Verb} {ps : List Int} (h : s.consoleTurn v ps ≠ .notTaken) (g : Bounded s) :
    Owes s := by
  obtain ⟨-, hw, hi | hl⟩ := consoleTurn_room h
  · exact ⟨hw, g.2.2.2.2.1 (Or.inl hi)⟩
  · exact ⟨hw, hl⟩

/-- A console request keeps what its effect keeps. -/
theorem consoleRequest_kept {s : State} {v : Verb} {ps : List Int} {checks : List (Bool × RefCode)} {take : State → State}
    (h : s.consoleTurn v ps = .taken → firstRefusal checks = none → Kept s (take s)) :
    Kept s (s.consoleRequest v ps checks take) := by
  rcases consoleRequest_cases s v ps checks take with e | ⟨ht, e⟩ | ⟨ht, c, e⟩ | ⟨ht, hf, e⟩ <;> rw [e]
  · exact Kept.refl s
  · have hn : s.consoleTurn v ps ≠ .notTaken := by simp [ht]
    have hr := (consoleTurn_room hn).1
    exact (Answers.of ((Effect.refl s).setConsole _ (by exact ⟨rfl, rfl⟩) (by exact Nat.le_refl _)) (refuse_replies _ v .lost)).kept hr
      (owes_of_turn hn)
  · have hn : s.consoleTurn v ps ≠ .notTaken := by simp [ht]
    exact (Answers.of (Effect.refl s) (refuse_replies s v c)).kept (consoleTurn_room hn).1 (owes_of_turn hn)
  · exact h ht hf


theorem Effect.shoreReply {s t : State} (h : Effect s t) (l : Line) : Effect s (t.shoreReply l) :=
  h.work ((Work.refl t).shoreReply l)

/-- A shore request has its turn only on a part that runs. -/
theorem running_of_shoreTurn {s : State} {v : Verb} {ps : List Int} (h : s.shoreTurn v ps ≠ .notTaken) :
    s.modes.condition = .running := by
  unfold State.shoreTurn State.running at h
  by_contra hn
  simp [hn] at h

/-- A shore request keeps what its effect keeps. -/
theorem shoreRequest_kept {s : State} {v : Verb} {ps : List Int} {checks : List (Bool × RefCode)} {take : State → State}
    (h : firstRefusal checks = none → Effect s (take s)) : Kept s (s.shoreRequest v ps checks take) := by
  have run : ∀ x, s.shoreTurn v ps = x → x ≠ .notTaken → s.modes.condition = .running :=
    fun x e hx => running_of_shoreTurn (v := v) (ps := ps) (e ▸ hx)
  rcases shoreRequest_cases s v ps checks take with e | ⟨ht, e⟩ | ⟨ht, c, e⟩ | ⟨ht, hf, e⟩ <;> rw [e]
  · exact Kept.refl s
  · exact (((Effect.refl s).setShore _ (by rfl) (by exact id)).shoreReply _).keptRunning (run _ ht (by simp))
  · exact ((Effect.refl s).shoreReply _).keptRunning (run _ ht (by simp))
  · exact (h hf).keptRunning (run _ ht (by simp))

/-- A console request whose effect answers it. -/
theorem consoleRequest_answers {s : State} {v : Verb} {ps : List Int} {checks : List (Bool × RefCode)}
    {take : State → State} (h : firstRefusal checks = none → Answers s (take s)) :
    Kept s (s.consoleRequest v ps checks take) :=
  consoleRequest_kept fun ht hf =>
    have hn : s.consoleTurn v ps ≠ .notTaken := by simp [ht]
    (h hf).kept (consoleTurn_room hn).1 (owes_of_turn hn)

/-! ## The console verbs -/

theorem Effect.answer {s t : State} (h : Effect s t) (v : Verb) (fields : List Field) :
    Answers s (t.reply v fields) := Answers.of h (reply_replies t v fields)

/-- A query answers and changes nothing else. -/
theorem reply_answers (s : State) (v : Verb) (fields : List Field) : Answers s (s.reply v fields) :=
  (Effect.refl s).answer v fields

theorem takeLC_answers (s : State) (ps : List Int) : Answers s (s.takeLC ps) :=
  ((Effect.refl s).setModes _ (by rfl)).answer _ _

theorem takeBR_answers (s : State) (ps : List Int) : Answers s (s.takeBR ps) :=
  ((Effect.refl s).setCond _).requestEvaluation.answer _ _

theorem takeTD_answers (s : State) (ps : List Int) : Answers s (s.takeTD ps) :=
  ((Effect.refl s).setCond _).requestEvaluation.answer _ _

theorem takeFW_answers (s : State) (ps : List Int) : Answers s (s.takeFW ps) :=
  ((Effect.refl s).setCond _).massChange.answer _ _

theorem takeHC_answers (s : State) (ps : List Int) : Answers s (s.takeHC ps) :=
  ((Effect.refl s).setPour _).massChange.answer _ _

theorem takeTO_answers (s : State) (ps : List Int) : Answers s (s.takeTO ps) :=
  ((Effect.refl s).work ((Work.refl s).setOrigin _ _)).answer _ _

theorem takeTL_answers (s : State) (ps : List Int) : Answers s (s.takeTL ps) := by
  have h := (Effect.refl s).setTank (parN ps 1) { s.tank (parN ps 1) with lock := .locked } id
  exact h.answer .TL _

theorem takeTU_answers (s : State) (ps : List Int) : Answers s (s.takeTU ps) := by
  have h : Answers s _ := ((Effect.refl s).setTank (parN ps 1) { s.tank (parN ps 1) with lock := .free } id).answer .TU
    [fnat (parN ps 1), .word Lock.free.word]
  unfold State.takeTU
  dsimp only
  split
  · exact h.effect (Work.refl _).scan.effect
  · exact h

theorem takeXA_answers (s : State) (ps : List Int) : Answers s (s.takeXA ps) := by
  have h := ((Work.refl s).admitTransfer (xaAdmission ps) true).effect
  unfold State.takeXA
  exact h.answer _ _

theorem Effect.setFreeCount {s t : State} (h : Effect s t) (n : Nat) : Effect s (t.setFreeCount n) :=
  h.trans ⟨rfl, rfl, rfl, id, id, id, ⟨rfl, rfl⟩, Nat.le_refl _, rfl, id⟩

/-- A ladder of checks refuses nothing exactly when each check passes. -/
theorem firstRefusal_none_iff (checks : List (Bool × RefCode)) :
    firstRefusal checks = none ↔ ∀ q ∈ checks, q.1 = false := by
  induction checks with
  | nil => simp [firstRefusal]
  | cons q rest ih =>
    obtain ⟨failed, code⟩ := q
    cases failed <;> simp [firstRefusal, ih]

theorem xcRemove_effect (s : State) (x : Transfer) (i n : Nat) (hn : 1 ≤ n) : Effect s (s.xcRemove x i n) := by
  have h := ((Work.refl s).updTransfer x.id fun y => y.removeEntry i (Config.freeActive s.freeCount)).effect
  have g : Effect s (if decide (i = x.active) && x.assigned then
      (s.updTransfer x.id fun y => y.removeEntry i (Config.freeActive s.freeCount)).setFreeCount (s.freeCount + 1)
      else s.updTransfer x.id fun y => y.removeEntry i (Config.freeActive s.freeCount)) := by
    split
    · exact h.setFreeCount _
    · exact h
  unfold State.xcRemove
  dsimp only
  split
  · exact g.work ((Work.refl _).releaseTank n hn)
  · exact g

theorem xcChange_effect (s : State) (x : Transfer) (ps : List Int) (hn : 1 ≤ parN ps 2) :
    Effect s (s.xcChange x ps) := by
  have h := fun f => (Work.refl s).updTransfer x.id f
  unfold State.xcChange
  dsimp only
  split
  · exact (h _).effect
  · split
    · exact ((h _).claimTanks _ _).effect
    · exact (h _).effect
  · exact xcRemove_effect s x _ _ hn
  · exact Effect.refl s

theorem one_le_parN {ps : List Int} {k : Nat} {hi : Int} (h : inRange 1 hi (par ps k) = true) : 1 ≤ parN ps k := by
  simp only [inRange, Bool.and_eq_true, decide_eq_true_eq] at h
  unfold parN
  omega

theorem takeXC_answers {s : State} {ps : List Int} (h : firstRefusal (xcChecks s ps) = none) :
    Answers s (s.takeXC ps) := by
  rw [firstRefusal_none_iff] at h
  have hr := h (!inRange 1 255 (par ps 1) || !inRange 1 24 (par ps 2) ||
      (decide (ps.length = 3) && !pairGood s.parts (par ps 2, par ps 3)), .range) (by simp [xcChecks])
  have hn := h (s.noTransfer ps || !tankDefined s.parts (parN ps 2), .none) (by simp [xcChecks])
  simp only [Bool.or_eq_false_iff, Bool.not_eq_false'] at hr hn
  unfold State.takeXC
  split
  · rename_i e
    simp [State.noTransfer, e] at hn
  · rename_i x _
    have g := fun fields => (xcChange_effect s x ps (one_le_parN hr.1.2)).answer .XQ fields
    dsimp only
    split
    · exact (g _).effect (Work.refl _).scan.effect
    · exact g _

theorem takeXR_answers (s : State) (ps : List Int) : Answers s (s.takeXR ps) :=
  ((Effect.refl s).work ((Work.refl s).retire _)).answer _ _

theorem takeXQ_answers {s : State} {ps : List Int} (h : firstRefusal (xqChecks s ps) = none) :
    Answers s (s.takeXQ ps) := by
  unfold State.takeXQ
  split
  · split
    · exact reply_answers _ _ _
    · rename_i hl _ hn
      simp [firstRefusal_none_iff, xqChecks, State.noTransfer, hl, hn] at h
  · exact reply_answers _ _ _

theorem takeMR_answers (s : State) (ps : List Int) : Answers s (s.takeMR ps) :=
  Answers.effect (((Effect.refl s).work (((Work.refl s).setMoverCause _ _).enterPhase _ _)).answer _ _)
    (Work.refl _).scan.effect

theorem takePA_answers (s : State) (ps : List Int) : Answers s (s.takePA ps) :=
  (((Effect.refl s).setPour _).work (Work.refl _).judgeWindow).answer _ _

theorem takePI_answers (s : State) (ps : List Int) : Answers s (s.takePI ps) :=
  (((Effect.refl s).setPour _).work (Work.refl _).judgeWindow).answer _ _

theorem takeRC_answers (s : State) : Answers s s.takeRC := ((Effect.refl s).setModes _ (by rfl)).answer _ _
theorem takeRS_answers (s : State) : Answers s s.takeRS := ((Effect.refl s).setModes _ (by rfl)).answer _ _
theorem takeSV_answers (s : State) : Answers s s.takeSV := ((Effect.refl s).setSettings _).answer _ _

theorem takeSS_answers (s : State) (ps : List Int) : Answers s (s.takeSS ps) := by
  unfold State.takeSS
  dsimp only
  split
  · exact ((Effect.refl s).setSettings _).answer _ _
  · exact reply_answers _ _ _

theorem takeFA_answers (s : State) : Answers s s.takeFA :=
  ((((Effect.refl s).setFaults _ (by simp)).work (((Work.refl _).retryCorrections).pairWindow _).judgeRelease)).answer
    _ _


theorem takeAK_answers (s : State) (ps : List Int) : Answers s (s.takeAK ps) :=
  Effect.answer (s := s) (t := s.setAttention (s.attention.acknowledge ps))
    ⟨rfl, rfl, rfl, id, fun g => acknowledge_good g ps, id, ⟨rfl, rfl⟩, Nat.le_refl _, rfl, id⟩ _ _

theorem takePC_answers {s : State} {ps : List Int} (h : firstRefusal (pcChecks s ps) = none) :
    Answers s (s.takePC ps) := by
  unfold State.takePC
  dsimp only
  split
  · rename_i hn
    simp [firstRefusal_none_iff, pcChecks, State.inPlan, hn] at h
  · have g := (Work.refl s).updStep (parN ps 1) fun y => y.changed ps
    split
    · exact (((g.retirePaired _ _).judgePairing _ _).judgeReady _).effect.answer _ _
    · exact ((g.judgePairing _ _).judgeReady _).effect.answer _ _

theorem takePR_answers {s : State} {ps : List Int} (h : firstRefusal (prChecks s ps) = none) :
    Answers s (s.takePR ps) := by
  unfold State.takePR
  dsimp only
  split
  · rename_i hn
    simp [firstRefusal_none_iff, prChecks, State.inPlan, hn] at h
  · exact (((Effect.refl s).setPour _).work (((Work.refl _).retirePaired _ _).judgeWindow)).answer _ _

theorem takeRP_answers (s : State) (ps : List Int) : Answers s (s.takeRP ps) :=
  Answers.of ((Effect.refl s).setComposer ⟨.waiting (ReportKind.ofParam (par ps 1)), 0⟩) (joinReplies_replies _ _)

theorem takeRA_answers {s : State} {ps : List Int} (h : firstRefusal (raChecks s ps) = none) : Answers s s.takeRA := by
  unfold State.takeRA
  split
  · rename_i hi
    simp [firstRefusal_none_iff, raChecks, hi] at h
  · exact (((Effect.refl s).setComposer _).setConsole _ (by exact ⟨rfl, rfl⟩) (by simp)).answer _ _
  · exact ((Effect.refl s).setComposer _).answer _ _

theorem takePW_answers {s : State} {ps : List Int} (h : firstRefusal (pwChecks s ps) = none) :
    Answers s (s.takePW ps) := by
  refine ((Effect.refl s).setEdit _ fun g m hm => ?_).answer _ _
  simp only [firstRefusal_none_iff, pwChecks, List.mem_cons, forall_eq_or_imp, Bool.or_eq_false_iff,
    decide_eq_false_iff_not, Bool.not_eq_false', inRange, Bool.and_eq_true, decide_eq_true_eq] at h
  obtain ⟨⟨ha, -⟩, ⟨⟨hlo, hhi⟩, hr⟩, -⟩ := h
  simp only [Option.some.injEq] at hm
  subst hm
  refine good_writeAll ?_ _ _ ?_
  · unfold State.editCopy
    cases he : s.particulars.edit with
    | none => exact good_nil
    | some m => exact g.2.2.2 m he
  · simp only [List.length_drop, parN, Config.blockWords]
    omega

/-- Leaving a mode. -/
theorem Effect.leaveMode {s t : State} (h : Effect s t) (m : Mode) : Effect s (t.leaveMode m) := by
  cases m with
  | standby => exact h
  | berth => exact h.work ((Work.refl t).endClearance _)
  | passage => exact h.setModes _ (by rfl)
  | commission => exact h.setEdit _ fun _ _ e => nomatch e

/-- Entering a mode: the edit copy of COMMISSION is the block in use, or the words of the store (R199, log 39). -/
theorem Effect.enterMode {s t : State} (h : Effect s t) (m : Mode) : Effect s (t.enterMode m) := by
  cases m with
  | standby => exact h
  | berth => exact h.work (((Work.refl t).pairWindow _).judgeRelease)
  | passage => exact h
  | commission =>
    refine h.setEdit _ fun g m hm => ?_
    simp only [Option.some.injEq] at hm
    subst hm
    unfold State.parts
    cases hu : t.particulars.inUse with
    | none => exact g.2.1
    | some m => exact g.1 m hu

theorem Effect.changeMode {s t : State} (h : Effect s t) (m : Mode) : Effect s (t.changeMode m) := by
  unfold State.changeMode
  dsimp only
  split
  · exact h
  · exact ((h.setModes _ (by rfl)).leaveMode _).enterMode _

theorem takeMD_answers (s : State) (ps : List Int) : Answers s (s.takeMD ps) :=
  ((Effect.refl s).changeMode _).requestEvaluation.answer _ _

/-- The edit copy of a good store is good. -/
theorem editCopy_good {s : State} (g : ParticularsGood s) : s.editCopy.good := by
  unfold State.editCopy
  cases he : s.particulars.edit with
  | none => exact good_nil
  | some m => exact g.2.2.2 m he

/-- PK answers a rejection, or its write begins and the sequence stays in hand for the reply to come (R202). -/
theorem takePK_kept {s : State} {ps : List Int} (h : s.consoleTurn .PK ps = .taken) : Kept s s.takePK := by
  have hn : s.consoleTurn .PK ps ≠ .notTaken := by simp [h]
  have hr := (consoleTurn_room hn).1
  unfold State.takePK
  split
  · exact (reply_answers s _ _).kept hr (owes_of_turn hn)
  · refine ⟨rfl, fun g => ⟨g.1, g.2.1, fun m hm => ?_, g.2.2.2⟩, fun g => ?_, fun g => ⟨g.1, atRest_of_running hr⟩⟩
    · simp only [particulars_setConsole, particulars_setParticulars, Option.some.injEq] at hm
      exact hm ▸ editCopy_good g
    · exact ⟨g.1, g.2.1, g.2.2.1, g.2.2.2.1, fun _ => (owes_of_turn hn g).2, g.2.2.2.2.2⟩

/-! ## The shore verbs -/

theorem Effect.askPrediction {s t : State} (h : Effect s t) (a b c : Nat) : Effect s (t.askPrediction a b c) := by
  unfold State.askPrediction State.beginPrediction
  split
  · exact h
  · dsimp only
    split
    · exact h.setCond _
    · split
      · exact h.setCond _
      · exact (h.setCond _).setCond _

theorem takeCQ_effect (s : State) (ps : List Int) : Effect s (s.takeCQ ps) := by
  unfold State.takeCQ State.judgeClearance State.startClearance
  dsimp only
  split
  · exact (Effect.refl s).shoreReply _
  · split
    · exact (Effect.refl s).shoreReply _
    · split
      · exact (Effect.refl s).shoreReply _
      · split
        · exact (((Effect.refl s).setPour _).setShore _ (by rfl) (by exact id)).askPrediction _ _ _
        · exact Effect.refl s

theorem takeCS_effect (s : State) (ps : List Int) : Effect s (s.takeCS ps) :=
  (((Work.refl s).updStep _ _).stopGrant).effect.shoreReply _

theorem Effect.addTally {s t : State} (h : Effect s t) (x : PourStep) (n : Nat) : Effect s (t.addTally x n) :=
  ((h.setPour _).setPour _).massChange

theorem takeCT_effect (s : State) (ps : List Int) : Effect s (s.takeCT ps) := by
  unfold State.takeCT State.judgeOverrun
  dsimp only
  split
  · exact Effect.refl s
  · have h := fun x n => (Effect.refl s).addTally x n
    split
    · exact ((h _ _).work ((Work.refl _).holdStep _ _)).shoreReply _
    · exact (h _ _).shoreReply _

theorem takeCE_effect (s : State) (ps : List Int) : Effect s (s.takeCE ps) := by
  unfold State.takeCE
  dsimp only
  split
  · exact Effect.refl s
  · exact ((((Effect.refl s).addTally _ _).setPour _).work (Work.refl _).judgeWindow).shoreReply _


/-! ## Characters and lines -/

theorem rx_setRx (s : State) (l : Link) (r : ReceiveSide) : (s.setRx l r).rx l = r := by cases l <;> rfl

/-- The receive side of a link takes a value with the same sequence in hand and a queue within its bound. -/
theorem setRx_kept {s : State} (l : Link) (r : ReceiveSide) (hi : r.inHand = (s.rx l).inHand)
    (hq : (s.rx l).queue.length ≤ Config.receiveCapacity l → r.queue.length ≤ Config.receiveCapacity l) :
    Kept s (s.setRx l r) := by
  cases l with
  | console =>
    refine ⟨rfl, id, fun ⟨ga, gc, gs, gr, go, gn⟩ => ⟨ga, hq gc, gs, gr, fun x => go ?_, gn⟩, id⟩
    exact x.imp_left fun y => hi ▸ y
  | shore => exact ⟨rfl, id, fun ⟨ga, gc, gs, gr, go, gn⟩ => ⟨ga, gc, hq gs, gr, go, gn⟩, id⟩

theorem send_kept (s : State) (o : Output) : Kept s (s.send o) := ⟨rfl, id, id, id⟩

theorem pauseIfFull_kept (s : State) (l : Link) : Kept s (s.pauseIfFull l) := by
  unfold State.pauseIfFull
  dsimp only
  split
  · exact (setRx_kept l _ (by rfl) (by exact id)).trans (send_kept _ _)
  · exact Kept.refl s

theorem resumeIfLow_kept (s : State) (l : Link) : Kept s (s.resumeIfLow l) := by
  unfold State.resumeIfLow
  dsimp only
  split
  · exact (setRx_kept l _ (by rfl) (by exact id)).trans (send_kept _ _)
  · exact Kept.refl s

theorem queueCharacter_kept (s : State) (l : Link) (c : Byte) : Kept s (s.queueCharacter l c) := by
  unfold State.queueCharacter
  dsimp only
  split
  · rename_i hl
    exact (setRx_kept l _ (by rfl) fun _ => by simpa using hl).trans (pauseIfFull_kept _ _)
  · exact setRx_kept l _ (by rfl) (by exact id)

theorem Effect.startConsole {s t : State} (h : Effect s t) : Effect s t.startConsole :=
  h.trans (Transmits.refl t).startConsole.effect

/-- The lines of the Shore Port move on. -/
theorem Effect.pumpShore {s t : State} (h : Effect s t) (p : ShorePort) (hq : p.rx.queue = t.shore.rx.queue)
    (hn : p.slots = t.shore.slots) : Effect s (t.setShore p.pump) :=
  h.setShore _ (by rw [p.pump_same.1]; exact hq) fun g => ShorePort.pump_nodup (hn ▸ g)

theorem holdLink_effect (s : State) (l : Link) : Effect s (s.holdLink l) := by
  cases l with
  | console =>
    unfold State.holdLink
    dsimp only
    split
    · exact Effect.refl s
    · exact (Effect.refl s).setConsole _ (by exact ⟨rfl, rfl⟩) (by exact Nat.le_refl _)
  | shore => exact (Effect.refl s).setShore _ (by rfl) (by exact id)

theorem unholdLink_effect (s : State) (l : Link) : Effect s (s.unholdLink l) := by
  cases l with
  | console => exact ((Effect.refl s).setConsole _ (by exact ⟨rfl, rfl⟩) (by exact Nat.le_refl _)).startConsole
  | shore => exact (Effect.refl s).pumpShore _ (by rfl) (by rfl)

/-- The parser of a link is ready only on a part that runs, with room for a console reply. -/
theorem parserReady_facts {s : State} {l : Link} (h : s.parserReady l = true) :
    s.modes.condition = .running ∧ (s.rx l).inHand = none ∧ (l = .console → Owes s) := by
  unfold State.parserReady State.consoleRoom State.shoreRoom State.running at h
  cases l <;> simp_all [Owes]

theorem terminate_kept {s : State} {l : Link} {e : Ending} (hr : s.modes.condition = .running)
    (ho : l = .console → Owes s) : Kept s (s.terminate l e) := by
  unfold State.terminate
  dsimp only
  split
  · have k := setRx_kept (s := s) l { s.rx l with gap := false } rfl id
    refine k.trans ?_
    cases l with
    | console => exact (Answers.of (Effect.refl _) (consoleLine_replies _ _)).kept hr fun _ => ho rfl
    | shore => exact ((Effect.refl _).shoreReply _).keptRunning hr
  · cases l with
    | console =>
      exact ⟨rfl, id, fun ⟨ga, gc, gs, gr, _, gn⟩ => ⟨ga, gc, gs, gr, fun _ => (ho rfl).2, gn⟩, id⟩
    | shore => exact ((Effect.refl s).setShore _ (by rfl) (by exact id)).keptRunning hr

/-- Sending RESUME on a link changes its receive side and what was sent alone. -/
theorem resumeIfLow_frame (s : State) (l : Link) :
    ∃ r o, s.resumeIfLow l = (s.setRx l r).setSent o ∧ r.inHand = (s.rx l).inHand := by
  unfold State.resumeIfLow
  dsimp only
  split
  · exact ⟨_, _, rfl, rfl⟩
  · exact ⟨s.rx l, s.sent, by cases l <;> rfl, rfl⟩

theorem parseOne_kept (s : State) (l : Link) : Kept s (s.parseOne l) := by
  unfold State.parseOne
  split
  · rename_i h
    obtain ⟨hr, -, ho⟩ := parserReady_facts h
    split
    · exact Kept.refl s
    · rename_i c rest hq
      have k : Kept s ((s.setRx l { s.rx l with queue := rest, parser := ((s.rx l).parser.step c).1 }).resumeIfLow l) :=
        (setRx_kept l _ (by rfl) fun hl => by rw [hq] at hl; exact (Nat.le_succ _).trans hl).trans (resumeIfLow_kept _ l)
      obtain ⟨r, o, e, -⟩ := resumeIfLow_frame
        (s.setRx l { s.rx l with queue := rest, parser := ((s.rx l).parser.step c).1 }) l
      dsimp only
      split
      · refine k.trans (terminate_kept ?_ fun hc => ?_)
        · rw [e]; cases l <;> exact hr
        · have o := ho hc
          rw [e]
          subst hc
          exact o
      · exact k
  · exact Kept.refl s

theorem markReset_effect (s : State) (l : Line) : Effect s (s.markReset l) := by
  unfold State.markReset
  split
  · split
    · exact (Effect.refl s).setModes _ (by rfl)
    · exact Effect.refl s
  · exact Effect.refl s

/-- A state at rest stays so while its run condition, drive image, field loop, runs, commit and fault state stay. -/
theorem AtRest.congr {s t : State} (hc : t.modes.condition = s.modes.condition) (hl : t.loop = s.loop)
    (he : t.cond.evaluation = s.cond.evaluation) (hp : t.cond.prediction = s.cond.prediction)
    (hw : t.particulars.writing = s.particulars.writing) (hf : t.faults = s.faults) : AtRest s → AtRest t := by
  unfold AtRest State.drive
  rw [hc, hl, he, hp, hw, hf]
  exact id

theorem Transmits.atRest {s t : State} (h : Transmits s t) : AtRest s → AtRest t := by
  rw [eq_of_outsideLinks h.frame]
  exact AtRest.congr rfl rfl rfl rfl rfl rfl

theorem lineDone_kept (s : State) : Kept s s.lineDone := by
  unfold State.lineDone
  split
  · rename_i x _ _
    have h : Effect s (((s.send (.line .console x.line)).setConsole { s.console with tx := none }).markReset x.line) :=
      (((Effect.refl s).send _).setConsole _ (by exact ⟨rfl, rfl⟩) (by exact Nat.le_refl _)).trans (markReset_effect _ _)
    refine h.startConsole.kept fun g => (Transmits.refl _).startConsole.atRest ?_
    refine AtRest.congr (s := s) ?_ ?_ ?_ ?_ ?_ ?_ g <;> (unfold State.markReset; split <;> [split; skip] <;> rfl)
  · exact Kept.refl s

theorem shoreLineDone_kept (s : State) : Kept s s.shoreLineDone := by
  unfold State.shoreLineDone
  split
  · exact (((Effect.refl s).send _).pumpShore _ (by rfl) (by rfl)).kept (AtRest.congr rfl rfl rfl rfl rfl rfl)
  · exact Kept.refl s


/-! ## The field loop -/

/-- A frame leaves every command as it was. -/
theorem sendFrame_on (s : State) (kind : FrameKind) (restart : Bool) (a : Nat) :
    ((s.sendFrame kind restart).drive a).on = (s.drive a).on := by
  by_cases ha : a < 64
  · rw [(sendFrame_facts s kind restart).2 a ha]
    split <;> rfl
  · simp only [State.drive]
    rw [Vector.getElem?_eq_none (by omega), Vector.getElem?_eq_none (by omega)]

theorem Effect.sendFrame {s t : State} (h : Effect s t) (kind : FrameKind) (restart : Bool) :
    Effect s (t.sendFrame kind restart) := by
  have on := sendFrame_on t kind restart
  have e := (sendFrame_facts t kind restart).1
  dsimp only at e
  generalize t.sendFrame kind restart = u at *
  refine h.trans ?_
  have hd : DriveGood t → DriveGood u := fun g a ha => by
    have p := g a (on a ▸ ha)
    rw [e]
    exact p
  rw [e] at hd ⊢
  exact ⟨rfl, rfl, rfl, id, id, hd, ⟨rfl, rfl⟩, Nat.le_refl _, rfl, id⟩

theorem failWindow_effect {s t : State} (h : Effect s t) (w : ScanWindow) : Effect s (t.failWindow w) := by
  unfold State.failWindow State.failRestartScan State.failScan
  split
  · exact (h.setLoop _ (by rfl)).setFaults _ (by exact id)
  · dsimp only
    split
    · exact (h.setLoop _ (by rfl)).work ((Work.refl _).class1 _)
    · exact h.setLoop _ (by rfl)

theorem frameExpiry_kept (s : State) : Kept s s.frameExpiry := by
  have h : Effect s s.frameExpiry := by
    unfold State.frameExpiry
    split
    · exact Effect.refl s
    · rename_i due _
      have g : Effect s (s.reach due) := (Effect.refl s).setNow _
      dsimp only
      split
      · exact ((failWindow_effect g _).setLoop _ (by rfl)).sendFrame _ _
      · exact (g.setLoop _ (by rfl)).sendFrame _ _
  refine h.kept fun g => ?_
  by_cases hr : s.modes.condition = .running
  · exact atRest_of_running (h.condition.trans hr)
  · obtain ⟨-, -, ht, -⟩ := g hr
    unfold State.frameExpiry
    rw [ht]
    exact g

/-- A part at rest has no window open. -/
theorem running_of_window {s : State} {w : ScanWindow} (hw : s.loop.window = some w) (g : AtRest s) :
    s.modes.condition = .running := by
  by_contra hr
  obtain ⟨-, h, -⟩ := g hr
  rw [hw] at h
  cases h

/-- An effect that needs an open window. -/
theorem Effect.keptWindow {s t : State} (h : Effect s t) {w : ScanWindow} (hw : s.loop.window = some w) : Kept s t :=
  h.kept fun g => atRest_of_running (h.condition.trans (running_of_window hw g))

theorem takeScan_effect (s : State) (w : ScanWindow) : Effect s (s.takeScan w) := by
  rw [takeScan_eq]
  refine (Effect.refl s).setLoop _ ?_
  cases h : w.restart with
  | false => rw [takeScan_loop s w h]
  | true => rw [takeScan_restart_loop s w h]

theorem Effect.takeReadings {s t : State} (h : Effect s t) : Effect s t.takeReadings :=
  (h.setLoop _ (by rfl)).foldl _ fun _ _ g => g.setMover _ _

theorem afterReading_claim (x : TankLive) (v : Option Nat) : (x.afterReading v).claim = x.claim := by
  cases v <;> rfl

theorem Effect.convertTank {s t : State} (h : Effect s t) (n : Nat) : Effect s (t.convertTank n) := by
  have g := h.setTank n ((t.tank n).afterReading ((t.goodReading n).map (convertRaw t.parts n))) fun hc => by
    rw [afterReading_claim]; exact hc
  have w : ∀ u, Effect s u → ∀ v, Effect s (u.windowRule n v) := fun u hu v => by
    unfold State.windowRule
    split
    · exact hu.work ((Work.refl u).setOrigin _ _)
    · exact hu
  unfold State.convertTank
  dsimp only
  split <;> split
  · exact w _ (g.raise _) _
  · exact w _ g _
  · exact g.raise _
  · exact g

theorem Effect.tanksCommit {s t : State} (h : Effect s t) : Effect s t.tanksCommit := by
  have g : Effect s ((definedTanks t.parts).foldl State.convertTank t) := h.foldl _ fun _ _ g => g.convertTank _
  unfold State.tanksCommit
  dsimp only
  split
  · exact g
  · exact g.massChange

theorem commitScan_effect (s : State) (w : ScanWindow) : Effect s (s.commitScan w) := by
  have h := (takeScan_effect s w).takeReadings.work ((Work.refl _).gradePoints)
  have h1 := (h.foldl (((s.takeScan w).takeReadings).gradePoints).2
    fun _ p g => g.work ((Work.refl _).noticePoint p)).tanksCommit.work ((Work.refl _).clearGaugeDue)
  have h2 := fun (f : State → MoverId → State) (hf : ∀ u m, Work u (f u m)) =>
    h1.foldl allMovers fun u m g => g.work (hf u m)
  have h3 := fun (f : State → MoverId → State) (hf : ∀ u m, Work u (f u m)) =>
    (h2 f hf).foldl (((s.takeScan w).takeReadings).gradePoints).1.astrayPumps fun u a g =>
      g.work ((Work.refl u).class1 (.pumpAstray a))
  unfold State.commitScan
  dsimp only
  split
  · exact (h3 _ fun u m => (Work.refl u).moverCommit _ _ _).work ((Work.refl _).confirmHalt.pourCommit)
  · exact (h3 _ fun u m => (Work.refl u).moverCommit _ _ _).work ((Work.refl _).pourCommit)


/-! ## Runs, timers and store writes -/

theorem Effect.beginEvaluation {s t : State} (h : Effect s t) : Effect s t.beginEvaluation := h.setCond _

theorem Effect.beginPrediction {s t : State} (h : Effect s t) : Effect s t.beginPrediction := by
  unfold State.beginPrediction
  split
  · exact h
  · exact h.setCond _

theorem Effect.nextRun {s t : State} (h : Effect s t) : Effect s t.nextRun := by
  unfold State.nextRun
  split
  · exact (h.setCond _).beginEvaluation
  · split
    · split
      · exact h
      · exact h.beginPrediction
    · exact h

theorem Effect.gradePublication {s t : State} (h : Effect s t) (c : Condition) : Effect s (t.gradePublication c) :=
  (h.setMargins _).work (Work.gradePublication t c)

theorem evaluationDone_kept (s : State) : Kept s s.evaluationDone := by
  have h : Effect s s.evaluationDone := by
    unfold State.evaluationDone
    split
    · exact Effect.refl s
    · exact ((((Effect.refl s).setCond _).gradePublication _).setCond _).nextRun
  refine h.kept fun g => ?_
  by_cases hr : s.modes.condition = .running
  · exact atRest_of_running (h.condition.trans hr)
  · obtain ⟨-, -, -, he, -⟩ := g hr
    unfold State.evaluationDone
    rw [he]
    exact g

theorem Effect.endClearance {s t : State} (h : Effect s t) (l : Line) : Effect s (t.endClearance l) :=
  h.work ((Work.refl t).endClearance l)

theorem Effect.settled {s t : State} (h : Effect s t) (c : Condition) : Effect s (t.settled c) := by
  unfold State.settled State.grant
  split
  · exact h
  · split
    · exact h.endClearance _
    · split
      · exact ((h.setPour _).setPour _).endClearance _
      · exact h

theorem Effect.judgeRun {s t : State} (h : Effect s t) (q : PredictionRequest) (r : RunInputs) :
    Effect s (t.judgeRun q r) := by
  unfold State.judgeRun
  split
  · exact (h.setCond _).settled _
  · split
    · exact h.setCond _
    · exact (h.setCond _).work ((Work.refl _).endClearanceHold _)

theorem predictionDone_kept (s : State) : Kept s s.predictionDone := by
  have h : Effect s s.predictionDone := by
    unfold State.predictionDone
    split
    · exact Effect.refl s
    · refine Effect.nextRun ?_
      have g := (Effect.refl s).setCond { s.cond with prediction := none }
      dsimp only
      split
      · exact g
      · split
        · exact g.judgeRun _ _
        · exact g
  refine h.kept fun g => ?_
  by_cases hr : s.modes.condition = .running
  · exact atRest_of_running (h.condition.trans hr)
  · obtain ⟨-, -, -, -, hp, -⟩ := g hr
    unfold State.predictionDone
    rw [hp]
    exact g

theorem tideExpires_kept (s : State) : Kept s s.tideExpires := by
  unfold State.tideExpires State.reach
  dsimp only
  split
  · rename_i h
    simp only [State.running, Bool.and_eq_true, decide_eq_true_eq] at h
    exact ((((Effect.refl s).setNow _).setCond _).raise _).requestEvaluation.keptRunning h.1
  · exact Kept.refl s

theorem Work.expireGrant {s t : State} (h : Work s t) (x : PourStep) : Work s (t.expireGrant x) := by
  unfold State.expireGrant
  split
  · exact (h.updStep _ _).pourMessage _ _
  · exact h

/-- A step whose grant expires leaves everything that a part at rest speaks of. -/
theorem expireGrants_frame (l : List PourStep) (s : State) :
    ∃ p q, l.foldl State.expireGrant s = (s.setPour p).setShore q := by
  induction l generalizing s with
  | nil => exact ⟨s.pour, s.shore, rfl⟩
  | cons x l ih =>
    rw [List.foldl_cons]
    obtain ⟨p, q, e⟩ := ih (s.expireGrant x)
    rw [e]
    unfold State.expireGrant
    split
    · exact ⟨p, q, rfl⟩
    · exact ⟨p, q, rfl⟩

theorem grantExpires_kept (s : State) : Kept s s.grantExpires := by
  unfold State.grantExpires
  split
  · exact Kept.refl s
  · rename_i t _
    have h : Effect s (s.reach (t + Config.grantMs)).stopGrant := ((Effect.refl s).setNow _).setPour _
    dsimp only
    refine (h.work (Work.foldl (s.reach (t + Config.grantMs)).stopGrant.pour.steps (fun _ _ g => g.expireGrant _)
      (Work.refl _))).kept ?_
    obtain ⟨p, q, e⟩ := expireGrants_frame (s.reach (t + Config.grantMs)).stopGrant.pour.steps
      (s.reach (t + Config.grantMs)).stopGrant
    rw [e]
    exact AtRest.congr rfl rfl rfl rfl rfl rfl

theorem Effect.beginAttempt {s t : State} (h : Effect s t) : Effect s t.beginAttempt :=
  ((h.setFaults _ (by exact id)).setLoop _ (by rfl)).sendFrame _ _

/-- A part whose fault state is not NORMAL runs, unless it breaks the invariant of a part at rest. -/
theorem running_of_fault {s : State} (hf : s.faults.state ≠ .normal) (g : AtRest s) : s.modes.condition = .running := by
  by_contra hr
  obtain ⟨-, -, -, -, -, -, h⟩ := g hr
  exact hf h

theorem Effect.keptFault {s t : State} (h : Effect s t) (hf : s.faults.state ≠ .normal) : Kept s t :=
  h.kept fun g => atRest_of_running (h.condition.trans (running_of_fault hf g))

theorem confirmationExpires_kept (s : State) : Kept s s.confirmationExpires := by
  unfold State.confirmationExpires
  split
  · rename_i hf
    have hn : s.faults.state ≠ .normal := by simp [hf]
    refine (((Effect.refl s).setNow _).setFaults _ fun _ => ?_).beginAttempt.keptFault hn
    exact hn
  · exact Kept.refl s

theorem attemptExpires_kept (s : State) : Kept s s.attemptExpires := by
  unfold State.attemptExpires
  split
  · rename_i hf
    exact ((Effect.refl s).setNow _).beginAttempt.keptFault (by simp [hf])
  · exact Kept.refl s

/-- The Tank Table takes a value with the same tanks. -/
theorem setTankTable_kept {s : State} {x : TankTable} (hx : x.tanks = s.tankTable.tanks) : Kept s (s.setTankTable x) := by
  have e : (s.setTankTable x).tank = s.tank := by
    funext n
    simp only [State.tank, tankTable_setTankTable, hx]
  refine ⟨rfl, id, id, fun g => ⟨fun a ha => ?_, g.2⟩⟩
  rw [e]
  exact g.1 a ha

theorem completeOriginWrite_kept (s : State) : Kept s s.completeOriginWrite := by
  unfold State.completeOriginWrite
  split
  · exact Kept.refl s
  · exact setTankTable_kept rfl

theorem completeSettingsSave_kept (s : State) : Kept s s.completeSettingsSave := by
  rw [completeSettingsSave_eq]
  exact ⟨rfl, id, id, id⟩

/-! ## A commit of the particulars -/

/-- A drive image is read through the vector of the field loop. -/
theorem drive_commitBlock (s : State) (m : Memory) (a : Nat) (ha : ((s.commitBlock m).drive a).on = true) :
    (s.drive a).on = true ∧ roleOf s.parts a = roleOf (some m) a := by
  have hl := lt_of_on ha
  rw [State.drive, loop_commitBlock, State.rebuildRoles] at ha
  dsimp only [loop_setLoop] at ha
  rw [ofFn_getD _ a _ hl] at ha
  split at ha
  · rename_i h
    refine ⟨?_, by simpa using h⟩
    simp only [State.drive, Vector.getElem?_eq_getElem hl, Option.getD_some]
    exact ha
  · cases ha

/-- A mover's points are no tank's valve. -/
theorem moverPoint_role {p : Option Memory} {m : MoverId} {q : Nat × Role} (h : q ∈ moverPoints p m) (n : Nat) :
    q.2 ≠ .tankValve n := by
  unfold moverPoints at h
  split at h
  · cases h
  · split at h <;>
      (simp only [List.mem_cons, List.not_mem_nil, or_false] at h
       rcases h with rfl | rfl | rfl <;> simp)

/-- A valve's role names a defined tank. -/
theorem tankDefined_of_role {p : Option Memory} {a n : Nat} (h : roleOf p a = .tankValve n) :
    tankDefined p n = true ∧ 1 ≤ n ∧ n ≤ 24 := by
  have hd : tankDefined p n = true := by
    unfold roleOf roleIn at h
    split at h
    · rename_i q hq
      have hm := List.mem_of_find?_eq_some hq
      simp only [namedPoints, List.mem_append, List.mem_flatMap, List.mem_cons, List.not_mem_nil, or_false] at hm
      rcases hm with ⟨t, ht, rfl | rfl⟩ | ⟨m, -, hq⟩
      · obtain rfl : t = n := by simpa using h
        exact (List.mem_filter.1 ht).2
      · cases h
      · exact absurd h (moverPoint_role hq n)
    · cases h
  have h' := hd
  simp only [tankDefined, Bool.and_eq_true, decide_eq_true_eq] at h'
  exact ⟨hd, h'.1⟩

theorem commitBlock_driveGood {s : State} (m : Memory) (g : DriveGood s) : DriveGood (s.commitBlock m) := by
  intro a ha
  obtain ⟨hon, hr⟩ := drive_commitBlock s m a ha
  obtain ⟨h1, h2, h3⟩ := g a hon
  have hp : (s.commitBlock m).parts = some m := by
    simp only [State.parts, particulars_commitBlock, committed]
  rw [hp, faults_commitBlock, ← hr]
  refine ⟨h1, h2, fun n hn => ?_⟩
  obtain ⟨d1, h1n, hn24⟩ := tankDefined_of_role hn
  obtain ⟨d2, -, -⟩ := tankDefined_of_role (hr ▸ hn)
  have e : (s.commitBlock m).tank n = s.tank n := by
    have hl : n - 1 < 24 := by omega
    simp only [State.tank, tanks_commitBlock]
    rw [ofFn_getD _ (n - 1) _ hl, Vector.getElem?_eq_getElem hl]
    simp [keptNumber, show n - 1 + 1 = n by omega, d1, d2]
  rw [e]
  exact h3 n hn


theorem commitBlock_particularsGood {s : State} {m : Memory} (hw : s.particulars.writing = some m)
    (g : ParticularsGood s) : ParticularsGood (s.commitBlock m) := by
  obtain ⟨-, -, h3, h4⟩ := g
  have hm := h3 m hw
  unfold ParticularsGood
  rw [particulars_commitBlock]
  exact ⟨fun x hx => (Option.some.inj hx) ▸ hm, hm, fun _ hx => absurd hx (by simp [committed]), h4⟩

theorem commitEffect_kept (s : State) : Kept s s.commitEffect := by
  unfold State.commitEffect
  split
  · exact Kept.refl s
  · rename_i m hw
    have r := reply_replies (s.commitBlock m) .PK [.word "COMMITTED", fnat m.checksum]
    refine ⟨r.pending.trans (pending_commitBlock s m),
      fun g => particularsGood_congr r.particulars (commitBlock_particularsGood hw g), fun g => ?_, fun g => ?_⟩
    · obtain ⟨ga, gc, gs, gr, go, gn⟩ := g
      refine r.bounded ⟨by rw [particulars_commitBlock]; rfl, ?_⟩ ⟨?_, ?_⟩
      · rw [console_commitBlock]
        exact go (Or.inr (by simp [hw]))
      · rw [attention_commitBlock]
        exact ga
      · unfold LinksGood
        rw [console_commitBlock, shore_commitBlock]
        exact ⟨gc, gs, gr, fun _ => go (Or.inr (by simp [hw])), gn⟩
    · refine ⟨r.driveGood (commitBlock_driveGood m g.1), atRest_of_running ?_⟩
      rw [r.condition, modes_commitBlock]
      by_contra hr
      obtain ⟨-, -, -, -, -, h, -⟩ := g.2 hr
      rw [hw] at h
      cases h

/-! ## Resets -/

/-- Every point of a blank field loop is commanded OFF. -/
theorem blank_drive_off (a : Nat) : ((FieldLoop.blank.drive[a]?).getD ⟨false, .awaiting, none⟩).on = false := by
  simp only [FieldLoop.blank, Vector.getElem?_replicate]
  split <;> rfl

/-- A reset of a state with good stores and no commit in writing is kept, whatever the state was before. -/
theorem resetTo_kept {s u : State} (c : ResetCause) (k : RunCondition) (hp : u.pending = s.pending)
    (hg : ParticularsGood s → u.particulars.store.good) (hw : u.particulars.writing = none) :
    Kept s (u.resetTo c k) := by
  refine ⟨hp, fun g => ⟨fun _ h => ?_, hg g, fun m h => ?_, fun _ h => ?_⟩, fun _ => ⟨?_, ?_⟩, fun _ => ⟨fun a ha => ?_, ?_⟩⟩
  · simp at h
  · simp [hw] at h
  · simp at h
  · simpa using empty_good
  · simp [LinksGood, ConsolePort.blank, ShorePort.blank, ReceiveSide.blank, Config.replyCount]
  · rw [State.drive, loop_resetTo, blank_drive_off] at ha
    cases ha
  · intro _
    refine ⟨fun a => ?_, ?_, ?_, ?_, ?_, ?_, ?_⟩
    · rw [State.drive, loop_resetTo, blank_drive_off]
    all_goals simp [FieldLoop.blank, FaultSupervisor.blank, hw]

/-- What the completion of writes leaves in the Particulars Store. -/
theorem completeWrites_particularsGood {s : State} (g : ParticularsGood s) : ParticularsGood s.completeWrites := by
  obtain ⟨-, -, -, -, hm, hn⟩ := completeWrites_writes s
  cases hw : s.particulars.writing with
  | none => exact particularsGood_congr (hn hw) g
  | some m =>
    refine particularsGood_congr ?_ (commitBlock_particularsGood hw g)
    rw [hm m hw, particulars_commitBlock]

/-- A cut-off write leaves a good block in the store (log 7). -/
theorem cutWrites_store {s : State} (g : ParticularsGood s) : s.cutWrites.particulars.store.good := by
  obtain ⟨a, i, ea, -⟩ := cutOriginWrite_eq s
  obtain ⟨b, j, eb, -⟩ := cutSettingsSave_eq s.cutOriginWrite
  have hp : s.cutOriginWrite.cutSettingsSave.particulars = s.particulars := by
    rw [eb, ea]
    rfl
  unfold State.cutWrites State.cutParticularsWrite
  rw [hp]
  obtain ⟨-, hs, hw, -⟩ := g
  split
  · rw [hp]
    exact hs
  · rename_i m h
    simp only [State.useFree, particulars_setFreeCount, particulars_setParticulars]
    split
    · exact hs
    · split
      · exact hw m h
      · dsimp only
        exact good_cutBlock _

theorem powerUp_kept (s : State) : Kept s s.powerUp := by
  obtain ⟨a, b, p, n, e, -, -, hw⟩ := cutWrites_eq s
  have hp : s.cutWrites.pending = s.pending := by rw [e]; rfl
  have hw' : s.cutWrites.particulars.writing = none := by rw [e]; exact hw
  have h := resetTo_kept ⟨true, false, false, false⟩ .startChecks hp cutWrites_store hw'
  exact h.trans ⟨rfl, id, id, id⟩

theorem lineDown_kept (s : State) : Kept s s.lineDown := by
  unfold State.lineDown
  split
  · exact Kept.refl s
  · exact resetTo_kept _ _ (pending_completeWrites s) (fun g => (completeWrites_particularsGood g).2.1)
      (completeWrites_writes s).2.1

theorem powerDown_kept (s : State) : Kept s s.powerDown := by
  obtain ⟨a, b, p, n, e, -, -, hw⟩ := cutWrites_eq s
  have hp : s.cutWrites.pending = s.pending := by rw [e]; rfl
  have hw' : s.cutWrites.particulars.writing = none := by rw [e]; exact hw
  unfold State.powerDown
  split
  · exact Kept.refl s
  · exact resetTo_kept _ _ hp cutWrites_store hw'

theorem commandResets_kept (s : State) : Kept s s.commandResets := by
  unfold State.commandResets
  split
  · exact Kept.refl s
  · dsimp only
    have key : ∀ u : State, u.pending = s.pending → (ParticularsGood s → ParticularsGood u) → ∀ c,
        Kept s (u.completeWrites.resetTo c .startChecks) := fun u hp hg c =>
      resetTo_kept _ _ ((pending_completeWrites u).trans hp) (fun g => (completeWrites_particularsGood (hg g)).2.1)
        (completeWrites_writes u).2.1
    split
    · exact key s rfl id _
    · rename_i r _ _
      exact key (s.setNow (max s.now (r.since + Config.commandResetMs))) rfl id _

/-! ## The end of a start and of the restart sequence -/

theorem Effect.judgeTide {s t : State} (h : Effect s t) : Effect s t.judgeTide := by
  unfold State.judgeTide
  dsimp only
  split
  · exact (h.setCond _).raise _
  · exact h

theorem Effect.setMovers {s t : State} (h : Effect s t) (x : Movers) : Effect s (t.setMovers x) :=
  h.trans ⟨rfl, rfl, rfl, id, id, id, ⟨rfl, rfl⟩, Nat.le_refl _, rfl, id⟩

theorem Effect.endReset {s t : State} (h : Effect s t) : Effect s t.endReset :=
  (((((h.setLoop _ (by rfl)).sendFrame _ _).setMovers _).requestEvaluation).send _).send _

/-- The start checks before the part runs: the stores' contents and the mode. -/
def State.checked (s : State) : State := s.startParticulars.startSettings.startOrigins.startMode

theorem startParticulars_eq (s : State) : ∃ p, s.startParticulars = s.setParticulars p ∧
    (ParticularsGood s → ParticularsGood (s.setParticulars p)) ∧ p.writing = s.particulars.writing := by
  unfold State.startParticulars
  dsimp only
  split
  · refine ⟨_, rfl, fun g => ⟨fun m h => ?_, g.2.1, g.2.2.1, fun _ h => ?_⟩, rfl⟩
    · exact Option.some.inj h ▸ g.2.1
    · cases h
  · refine ⟨_, rfl, fun g => ⟨fun _ h => ?_, g.2.1, g.2.2.1, fun m h => ?_⟩, rfl⟩
    · cases h
    · exact Option.some.inj h ▸ g.2.1

theorem setAttention_self (s : State) : s = s.setAttention s.attention := rfl

theorem raise_eq (s : State) (i : Item) : s.raise i = s.setAttention (s.attention.raise i) := rfl

theorem startSettings_eq (s : State) : ∃ x a, s.startSettings = (s.setSettings x).setAttention a ∧
    (s.attention.Good → a.Good) := by
  unfold State.startSettings
  split
  · exact ⟨_, _, setAttention_self (s.setSettings _), id⟩
  · exact ⟨_, _, raise_eq (s.setSettings _) _, fun g => raise_good g _⟩

theorem startOrigins_eq (s : State) : ∃ x a, s.startOrigins = (s.setTankTable x).setAttention a ∧
    (s.attention.Good → a.Good) := by
  unfold State.startOrigins
  dsimp only
  split
  · generalize tanksFrom _ = v
    exact ⟨_, s.attention, setAttention_self (s.setTankTable _), id⟩
  · rw [raise_eq]
    generalize tanksFrom _ = v
    exact ⟨_, _, rfl, fun g => raise_good (a := s.attention) g .originsCleared⟩

/-- The start checks leave everything but the stores' working parts, the mode and the attention items they raise. -/
theorem checked_eq (s : State) : ∃ p x y a z, s.checked =
      ((((s.setParticulars p).setSettings x).setTankTable y).setAttention a).setModes z ∧
    (ParticularsGood s → ParticularsGood (s.setParticulars p)) ∧ p.writing = s.particulars.writing ∧
    (s.attention.Good → a.Good) := by
  obtain ⟨p, e1, hg, hw⟩ := startParticulars_eq s
  obtain ⟨x, a, e2, h2⟩ := startSettings_eq (s.setParticulars p)
  obtain ⟨y, b, e3, h3⟩ := startOrigins_eq (((s.setParticulars p).setSettings x).setAttention a)
  refine ⟨p, x, y, b, s.checked.modes, ?_, hg, hw, h3 ∘ h2⟩
  have e : s.checked = (((((s.setParticulars p).setSettings x).setAttention a).setTankTable y).setAttention b).startMode := by
    rw [State.checked, e1, e2, e3]
  rw [e]
  rfl

theorem endStart_kept {s : State} (hc : s.modes.condition = .startChecks) : Kept s s.endStart := by
  obtain ⟨q, x, y, a, z, ec, hg, hw, ha⟩ := checked_eq s
  have g : ∀ m c p, m.condition = .running → c.rx = s.console.rx → c.replies = s.console.replies →
      p.rx = s.shore.rx → p.slots = s.shore.slots → Kept s (((s.checked.setModes m).setConsole c).setShore p) := by
    intro m c p hm h1 h2 h3 h4
    rw [ec]
    refine ⟨rfl, fun g => by simpa [ParticularsGood] using hg g, fun g => ?_, fun g => ?_⟩
    · obtain ⟨ga, gc, gs, gr, go, gn⟩ := g
      refine ⟨ha ga, ?_, ?_, ?_, ?_, ?_⟩
      · simpa [h1] using gc
      · simpa [h3] using gs
      · simpa [h2] using gr
      · simpa [h1, h2, hw] using go
      · simpa [h4] using gn
    · obtain ⟨off, -⟩ := g.2 (by simp [hc])
      refine ⟨fun b hb => ?_, atRest_of_running hm⟩
      have hb' : (s.drive b).on = true := by simpa [State.drive] using hb
      rw [off b] at hb'
      cases hb'
  have hcon : s.checked.console = s.console := by rw [ec]; rfl
  have hsh : s.checked.shore = s.shore := by rw [ec]; rfl
  have k := g { s.checked.modes with condition := .running }
    { s.checked.console with rate := s.checked.settings.working.consoleRate }
    { s.checked.shore with rate := s.checked.settings.working.shoreRate } rfl (by rw [hcon]) (by rw [hcon])
    (by rw [hsh]) (by rw [hsh])
  unfold State.endStart
  exact k.trans (((Effect.refl _).setMargins _).judgeTide.endReset.keptRunning rfl)

theorem reloadSettings_eq (s : State) : s.reloadSettings = s.setSettings s.reloadSettings.settings := by
  unfold State.reloadSettings
  split <;> rfl

/-- The end of the restart sequence, after an effect on a part that runs (R167). -/
theorem endRestart_kept {s u : State} (h : Effect s u) (hr : AtRest s → s.modes.condition = .running) :
    Kept s u.endRestart := by
  have e := reloadSettings_eq (u.completeWrites.clearVolatile.setParticulars
    { u.completeWrites.clearVolatile.particulars with edit := none })
  unfold State.endRestart
  dsimp only
  rw [e]
  generalize (u.completeWrites.clearVolatile.setParticulars
    { u.completeWrites.clearVolatile.particulars with edit := none }).reloadSettings.settings = x
  set v := (((u.completeWrites.clearVolatile.setParticulars
    { u.completeWrites.clearVolatile.particulars with edit := none }).setSettings x).setModes
      { u.completeWrites.modes with
        mode := .standby, exchangeArea := false, resetCause := { u.completeWrites.modes.resetCause with restart := true } }).setFaults
      ⟨.halt, [.restarted], some .restarted, none, none, none, none, u.faults.attempts, u.faults.lastAttempt, none⟩ with hv
  have hm : v.modes.condition = u.modes.condition := by
    have h := congrArg ModeControl.condition (modes_completeWrites u)
    exact h
  have hd : DriveGood v := fun a ha => by
    have h := blank_drive_off a
    have ha' : ((FieldLoop.blank.drive[a]?).getD ⟨false, .awaiting, none⟩).on = true := ha
    rw [h] at ha'
    cases ha'
  have hp : v.pending = u.pending := pending_completeWrites u
  have hg : ParticularsGood u → ParticularsGood v := fun g => by
    obtain ⟨h1, h2, h3, -⟩ := completeWrites_particularsGood g
    exact ⟨h1, h2, h3, fun _ h => nomatch h⟩
  have hb : Bounded v := by
    refine ⟨empty_good, ?_⟩
    simp [LinksGood, v, ConsolePort.blank, ShorePort.blank, ReceiveSide.blank, Config.replyCount]
  have g : Effect v (((v.resetMargins.raise .restarted).raise .halt).judgeTide.endReset) :=
    ((((Effect.refl v).setMargins _).raise _).raise _).judgeTide.endReset
  refine ⟨g.pending.trans (hp.trans h.pending), fun p => g.particulars (hg (h.particulars p)), fun _ => g.bounded hb,
    fun p => ⟨g.drive hd, ?_⟩⟩
  exact atRest_of_running (g.condition.trans (hm.trans (h.condition.trans (hr p.2))))

theorem commitWindow_kept {s : State} {w : ScanWindow} (hw : s.loop.window = some w) : Kept s (s.commitWindow w) := by
  unfold State.commitWindow
  split
  · have h : Effect s ((s.takeScan w).setLoop { (s.takeScan w).loop with
        allOff := some (s.takeScan w).allOffReading }) := (takeScan_effect s w).setLoop _ (by rfl)
    unfold State.commitRestartScan
    dsimp only
    split
    · exact endRestart_kept h (running_of_window hw)
    · exact (h.setFaults _ (by exact id)).keptWindow hw
  · exact (commitScan_effect s w).keptWindow hw

/-! ## Every command -/

theorem report_kept (s : State) (a v : Nat) : Kept s (s.report a v) := by
  unfold State.report
  split
  · exact Kept.refl s
  · rename_i w hw
    split
    · exact commitWindow_kept hw
    · dsimp only
      split
      · exact ((Effect.refl s).setLoop _ (by rfl)).keptWindow hw
      · exact (failWindow_effect (Effect.refl s) w).keptWindow hw

theorem endOfScan_kept (s : State) : Kept s s.endOfScan := by
  unfold State.endOfScan
  split
  · rename_i w hw
    exact commitWindow_kept hw
  · exact Kept.refl s

theorem scanLimit_kept (s : State) : Kept s s.scanLimit := by
  unfold State.scanLimit
  split
  · rename_i w hw
    exact (failWindow_effect ((Effect.refl s).setNow _) w).keptWindow hw
  · exact Kept.refl s

/-- What happens on a part that runs, and nothing on another. -/
theorem ite_running_kept {s t : State} (h : Effect s t) : Kept s (if s.running then t else s) := by
  split
  · rename_i hr
    exact h.keptRunning (by simpa [State.running] using hr)
  · exact Kept.refl s

theorem characterReceived_kept (l : Link) (c : Byte) (stopValid : Bool) (s : State) :
    ∃ t, execCharacterReceived l c stopValid s = .next t ∧ Kept s t := by
  refine ⟨_, rfl, ?_⟩
  generalize (if stopValid = true then c else 0) = b
  split
  · exact Kept.refl s
  · rename_i hr
    have hr' : s.modes.condition = .running := by simpa [State.running] using hr
    split
    · exact (holdLink_effect s l).keptRunning hr'
    · split
      · exact (unholdLink_effect s l).keptRunning hr'
      · exact queueCharacter_kept s l _

theorem start_kept (s : State) : Kept s (if s.modes.condition = .startChecks then s.endStart else s) := by
  split
  · rename_i hc
    exact endStart_kept hc
  · exact Kept.refl s

theorem resetRelease_kept (s : State) :
    Kept s (if s.modes.condition = .inReset then s.setModes { s.modes with condition := .startChecks } else s) := by
  split
  · rename_i hc
    exact ⟨rfl, id, id, fun g => ⟨g.1, fun _ => g.2 (by simp [hc])⟩⟩
  · exact Kept.refl s

/-- Every command answers a next state and keeps what `Kept` says. -/
theorem exec_kept (c : Instr) (s : State) : ∃ t, exec c s = .next t ∧ Kept s t := by
  cases c with
  | identify ps => exact ⟨_, rfl, consoleRequest_answers fun _ => reply_answers _ _ _⟩
  | mode ps => exact ⟨_, rfl, consoleRequest_answers fun _ => takeMD_answers _ _⟩
  | location ps => exact ⟨_, rfl, consoleRequest_answers fun _ => takeLC_answers _ _⟩
  | berthRecord ps => exact ⟨_, rfl, consoleRequest_answers fun _ => takeBR_answers _ _⟩
  | tide ps => exact ⟨_, rfl, consoleRequest_answers fun _ => takeTD_answers _ _⟩
  | fixedWeight ps => exact ⟨_, rfl, consoleRequest_answers fun _ => takeFW_answers _ _⟩
  | tankQuery ps => exact ⟨_, rfl, consoleRequest_answers fun _ => reply_answers _ _ _⟩
  | tankOriginDeclare ps => exact ⟨_, rfl, consoleRequest_answers fun _ => takeTO_answers _ _⟩
  | tankLock ps => exact ⟨_, rfl, consoleRequest_answers fun _ => takeTL_answers _ _⟩
  | tankUnlock ps => exact ⟨_, rfl, consoleRequest_answers fun _ => takeTU_answers _ _⟩
  | transferAdmit ps => exact ⟨_, rfl, consoleRequest_answers fun _ => takeXA_answers _ _⟩
  | transferChange ps => exact ⟨_, rfl, consoleRequest_answers takeXC_answers⟩
  | transferRetire ps => exact ⟨_, rfl, consoleRequest_answers fun _ => takeXR_answers _ _⟩
  | transferQuery ps => exact ⟨_, rfl, consoleRequest_answers takeXQ_answers⟩
  | moverQuery ps => exact ⟨_, rfl, consoleRequest_answers fun _ => reply_answers _ _ _⟩
  | moverReset ps => exact ⟨_, rfl, consoleRequest_answers fun _ => takeMR_answers _ _⟩
  | planAppend ps => exact ⟨_, rfl, consoleRequest_answers fun _ => takePA_answers _ _⟩
  | planInsert ps => exact ⟨_, rfl, consoleRequest_answers fun _ => takePI_answers _ _⟩
  | planChange ps => exact ⟨_, rfl, consoleRequest_answers takePC_answers⟩
  | planRetire ps => exact ⟨_, rfl, consoleRequest_answers takePR_answers⟩
  | holdCargo ps => exact ⟨_, rfl, consoleRequest_answers fun _ => takeHC_answers _ _⟩
  | conditionQuery ps => exact ⟨_, rfl, consoleRequest_answers fun _ => reply_answers _ _ _⟩
  | watchedQuantityQuery ps => exact ⟨_, rfl, consoleRequest_answers fun _ => reply_answers _ _ _⟩
  | report ps => exact ⟨_, rfl, consoleRequest_answers fun _ => takeRP_answers _ _⟩
  | reportAbort ps => exact ⟨_, rfl, consoleRequest_answers takeRA_answers⟩
  | attentionQuery ps => exact ⟨_, rfl, consoleRequest_answers fun _ => reply_answers _ _ _⟩
  | attentionAcknowledge ps => exact ⟨_, rfl, consoleRequest_answers fun _ => takeAK_answers _ _⟩
  | faultQuery ps => exact ⟨_, rfl, consoleRequest_answers fun _ => reply_answers _ _ _⟩
  | faultAcknowledge ps => exact ⟨_, rfl, consoleRequest_answers fun _ => takeFA_answers _⟩
  | settingsSet ps => exact ⟨_, rfl, consoleRequest_answers fun _ => takeSS_answers _ _⟩
  | settingsSave ps => exact ⟨_, rfl, consoleRequest_answers fun _ => takeSV_answers _⟩
  | particularsWrite ps => exact ⟨_, rfl, consoleRequest_answers takePW_answers⟩
  | particularsCommit ps => exact ⟨_, rfl, consoleRequest_kept fun ht _ => takePK_kept ht⟩
  | commandResetRequest ps => exact ⟨_, rfl, consoleRequest_answers fun _ => takeRS_answers _⟩
  | resetCauseQuery ps => exact ⟨_, rfl, consoleRequest_answers fun _ => reply_answers _ _ _⟩
  | resetCauseClear ps => exact ⟨_, rfl, consoleRequest_answers fun _ => takeRC_answers _⟩
  | clearanceQuery ps => exact ⟨_, rfl, shoreRequest_kept fun _ => takeCQ_effect _ _⟩
  | chuteStart ps => exact ⟨_, rfl, shoreRequest_kept fun _ => takeCS_effect _ _⟩
  | chuteTally ps => exact ⟨_, rfl, shoreRequest_kept fun _ => takeCT_effect _ _⟩
  | chuteEnd ps => exact ⟨_, rfl, shoreRequest_kept fun _ => takeCE_effect _ _⟩
  | draftQuery ps => exact ⟨_, rfl, shoreRequest_kept fun _ => (Effect.refl _).shoreReply _⟩
  | characterReceived l c stopValid => exact characterReceived_kept l c stopValid s
  | pauseReceived l => exact ⟨_, rfl, ite_running_kept (holdLink_effect s l)⟩
  | resumeReceived l => exact ⟨_, rfl, ite_running_kept (unholdLink_effect s l)⟩
  | parserTakesCharacter l => exact ⟨_, rfl, parseOne_kept s l⟩
  | lineSent => exact ⟨_, rfl, lineDone_kept s⟩
  | shoreLineSent => exact ⟨_, rfl, shoreLineDone_kept s⟩
  | frameTimerExpiry => exact ⟨_, rfl, frameExpiry_kept s⟩
  | pointReport a v => exact ⟨_, rfl, report_kept s _ _⟩
  | endOfScanReport => exact ⟨_, rfl, endOfScan_kept s⟩
  | scanLimitExpiry => exact ⟨_, rfl, scanLimit_kept s⟩
  | evaluationCompletes => exact ⟨_, rfl, evaluationDone_kept s⟩
  | predictionCompletes => exact ⟨_, rfl, predictionDone_kept s⟩
  | tideExpiry => exact ⟨_, rfl, tideExpires_kept s⟩
  | grantTimerExpiry => exact ⟨_, rfl, grantExpires_kept s⟩
  | confirmationTimerExpiry => exact ⟨_, rfl, confirmationExpires_kept s⟩
  | attemptTimerExpiry => exact ⟨_, rfl, attemptExpires_kept s⟩
  | originStoreWriteComplete => exact ⟨_, rfl, completeOriginWrite_kept s⟩
  | particularsCommitTakesEffect => exact ⟨_, rfl, commitEffect_kept s⟩
  | settingsSaveComplete => exact ⟨_, rfl, completeSettingsSave_kept s⟩
  | powerReset => exact ⟨_, rfl, powerUp_kept s⟩
  | lineReset => exact ⟨_, rfl, lineDown_kept s⟩
  | commandReset => exact ⟨_, rfl, commandResets_kept s⟩
  | start => exact ⟨_, rfl, start_kept s⟩
  | lossOfPower => exact ⟨_, rfl, powerDown_kept s⟩
  | resetRelease => exact ⟨_, rfl, resetRelease_kept s⟩

/-- Settles O3: by the table of every command's effect. -/
theorem everyCommandAnswersNextAndKeepsTheQueue : Obligations.EveryCommandAnswersNextAndKeepsTheQueue := by
  unfold Obligations.EveryCommandAnswersNextAndKeepsTheQueue
  intro c s
  obtain ⟨t, h, k⟩ := exec_kept c s
  exact ⟨t, h, k.pending⟩


/-- A step is a millisecond that passes, or a command (log 1). -/
theorem step_cases {s t : State} (h : step s = .next t) :
    t = s.tick ∨ ∃ c rest, exec c (s.setPending rest) = .next t := by
  unfold step at h
  split at h
  · exact .inl (Host.Outcome.next.inj h).symm
  · exact .inr ⟨_, _, h⟩

/-- What every step keeps, the queue of waiting commands apart. -/
theorem step_kept {s t : State} (h : step s = .next t) :
    (ParticularsGood s → ParticularsGood t) ∧ (Bounded s → Bounded t) ∧ (DriveSafe s → DriveSafe t) := by
  rcases step_cases h with rfl | ⟨c, rest, hc⟩
  · exact ⟨id, id, id⟩
  · obtain ⟨u, hu, k⟩ := exec_kept c (s.setPending rest)
    rw [hc] at hu
    obtain rfl := Host.Outcome.next.inj hu
    exact ⟨k.particulars, k.bounded, k.drive⟩

/-- Settles O55: no command writes a block that is not canonical or not within the block. -/
theorem everyStepKeepsTheParticularsGood : Obligations.EveryStepKeepsTheParticularsGood := by
  unfold Obligations.EveryStepKeepsTheParticularsGood
  exact fun _ _ g h => (step_kept h).1 g

/-- Settles O56: a reply is placed only where its room is owed, and every other line and item is bounded. -/
theorem everyStepKeepsTheQueuesInBounds : Obligations.EveryStepKeepsTheQueuesInBounds := by
  unfold Obligations.EveryStepKeepsTheQueuesInBounds
  exact fun _ _ ga gl h => (step_kept h).2.1 ⟨ga, gl⟩

/-- Settles O57: the work of the blocks keeps the drive image good, and a part at rest begins nothing. -/
theorem everyStepKeepsTheDriveSafe : Obligations.EveryStepKeepsTheDriveSafe := by
  unfold Obligations.EveryStepKeepsTheDriveSafe
  exact fun _ _ g h => (step_kept h).2.2 g

end Sys2Proof.Machine

/-! # A step, and the state right after a POWER reset (O1, O2, O60) -/

namespace Sys2Proof.Machine

/-- Settles O1: the front of the queue is what the step matches on. -/
theorem stepRunsTheFrontCommand : Obligations.StepRunsTheFrontCommand := by
  unfold Obligations.StepRunsTheFrontCommand
  refine ⟨fun _ _ => rfl, fun c rest s h => ?_⟩
  unfold step
  rw [h]

/-- Settles O2: a tick moves the clock and the lines in transmission. -/
theorem emptyQueueLetsAMillisecondPass : Obligations.EmptyQueueLetsAMillisecondPass := by
  unfold Obligations.EmptyQueueLetsAMillisecondPass
  intro s h
  refine ⟨s.tick, by unfold step; rw [h], rfl, fun hh => ?_, fun hh => ?_, rfl⟩
  · change (if s.console.hold = true then _ else _) = _
    rw [if_pos hh]
    rfl
  · change (if s.console.hold = true then _ else _) = _
    rw [if_neg (by simp [hh])]
    rfl

/-- Settles O60: everything that the invariants speak of is empty at reset, and every point is commanded OFF. -/
theorem theInvariantsHoldAtReset : Obligations.TheInvariantsHoldAtReset := by
  unfold Obligations.TheInvariantsHoldAtReset
  have off : ∀ a, (State.reset.drive a).on = false := blank_drive_off
  refine ⟨⟨nofun, good_nil, nofun, nofun⟩, empty_good, ?_, ⟨fun a ha => ?_, fun _ => ⟨off, rfl, rfl, rfl, rfl, rfl, rfl⟩⟩,
    ?_, ?_⟩
  · simp [LinksGood, State.reset, ConsolePort.blank, ShorePort.blank, ReceiveSide.blank, Config.replyCount]
  · rw [off a] at ha
    cases ha
  · simp [TransfersPlaced, State.reset, State.placed, State.mover, allMovers, Movers.blank, Mover.blank]
  · simp [PourSafe, State.reset, State.pourAllowed]

end Sys2Proof.Machine

/-! # Requests out of turn (O4) -/

namespace Sys2Proof.Machine

/-- Each console verb's command is a console request of its verb. -/
theorem exec_consoleVerb {v : Verb} (hv : v ∈ consoleVerbs) (ps : List Int) (s : State) :
    ∃ checks take, exec (v.command ps) s = .next (s.consoleRequest v ps checks take) := by
  simp only [consoleVerbs, List.mem_cons, List.not_mem_nil, or_false] at hv
  rcases hv with rfl | rfl | rfl | rfl | rfl | rfl | rfl | rfl | rfl | rfl | rfl | rfl | rfl | rfl | rfl | rfl | rfl |
    rfl | rfl | rfl | rfl | rfl | rfl | rfl | rfl | rfl | rfl | rfl | rfl | rfl | rfl | rfl | rfl | rfl | rfl | rfl
  all_goals exact ⟨_, _, rfl⟩

/-- Each shore verb's command is a shore request of its verb. -/
theorem exec_shoreVerb {v : Verb} (hv : v ∈ shoreVerbs) (ps : List Int) (s : State) :
    ∃ checks take, exec (v.command ps) s = .next (s.shoreRequest v ps checks take) := by
  simp only [shoreVerbs, List.mem_cons, List.not_mem_nil, or_false] at hv
  rcases hv with rfl | rfl | rfl | rfl | rfl
  all_goals exact ⟨_, _, rfl⟩

section
variable {s : State} {v : Verb} {ps : List Int}

theorem consoleTurn_notTaken (h : s.modes.condition ≠ .running ∨ s.particulars.writing ≠ none ∨
    (∃ q, s.console.rx.inHand = some q ∧ q ≠ ⟨v, ps⟩) ∨
    (s.console.rx.inHand = none ∧ (8 ≤ s.console.replies.length ∨ s.modes.resetAsked ≠ none))) :
    s.consoleTurn v ps = .notTaken := by
  unfold State.consoleTurn State.running State.consoleRoom State.running
  rcases h with h | h | ⟨q, hq, hn⟩ | ⟨hi, hl | hr⟩
  · simp [h]
  · simp [h]
  · simp [turnOf, hq, hn]
  · simp [turnOf, hi, Config.replyCount, Nat.not_lt.2 hl]
  · simp [turnOf, hi, hr]

theorem consoleTurn_lost (hc : s.modes.condition = .running) (hw : s.particulars.writing = none)
    (hi : s.console.rx.inHand = none) (hl : s.console.replies.length < 8) (hr : s.modes.resetAsked = none)
    (hg : s.console.rx.gap = true) : s.consoleTurn v ps = .lost := by
  simp [State.consoleTurn, State.running, State.consoleRoom, turnOf, hc, hw, hi, hl, hr, hg, Config.replyCount]

theorem shoreTurn_notTaken (h : s.modes.condition ≠ .running ∨ s.pour.clearance ≠ none ∨
    (∃ q, s.shore.rx.inHand = some q ∧ q ≠ ⟨v, ps⟩) ∨
    (s.shore.rx.inHand = none ∧ s.shore.replyPending = true)) : s.shoreTurn v ps = .notTaken := by
  unfold State.shoreTurn State.running State.shoreRoom State.running
  rcases h with h | h | ⟨q, hq, hn⟩ | ⟨hi, hp⟩
  · simp [h]
  · simp [h]
  · simp [turnOf, hq, hn]
  · simp [turnOf, hi, hp]

theorem shoreTurn_lost (hc : s.modes.condition = .running) (hw : s.pour.clearance = none)
    (hi : s.shore.rx.inHand = none) (hp : s.shore.replyPending = false) (hg : s.shore.rx.gap = true) :
    s.shoreTurn v ps = .lost := by
  simp [State.shoreTurn, State.running, State.shoreRoom, turnOf, hc, hw, hi, hp, hg]

end

/-- Settles O4: the turn of a request decides what becomes of it, whatever its checks and its effect. -/
theorem requestsOutOfTurn : Obligations.RequestsOutOfTurn := by
  unfold Obligations.RequestsOutOfTurn
  refine ⟨fun v hv ps s => ?_, fun v hv ps s => ?_⟩
  · obtain ⟨checks, take, e⟩ := exec_consoleVerb hv ps s
    rw [e]
    refine ⟨fun h => ?_, fun hc hw hi hl hr hg => ?_⟩
    · rw [State.consoleRequest, consoleTurn_notTaken h]
    · rw [State.consoleRequest, consoleTurn_lost hc hw hi hl hr hg]
  · obtain ⟨checks, take, e⟩ := exec_shoreVerb hv ps s
    rw [e]
    refine ⟨fun h => ?_, fun hc hw hi hp hg => ?_⟩
    · rw [State.shoreRequest, shoreTurn_notTaken h]
    · rw [State.shoreRequest, shoreTurn_lost hc hw hi hp hg]

end Sys2Proof.Machine

/-! # Written sequences are read back (O7) -/

namespace Sys2Proof.Machine

/-! ## The parser over a run of characters -/

theorem run_append (x : Parser) (as bs : List Byte) :
    Parser.run x (as ++ bs) =
      ((Parser.run (Parser.run x as).1 bs).1, (Parser.run x as).2 ++ (Parser.run (Parser.run x as).1 bs).2) := by
  induction as generalizing x with
  | nil => rfl
  | cons c cs ih => simp only [List.cons_append, Parser.run, ih, List.append_assoc]

theorem run_cons_none {x y : Parser} {c : Byte} (h : x.step c = (y, none)) (cs : List Byte) :
    Parser.run x (c :: cs) = Parser.run y cs := by
  simp [Parser.run, h]

/-- A decimal digit as a byte of the link. -/
theorem charByte_digit {c : Char} (h : c.isDigit = true) :
    (0x30 ≤ (charByte c).toNat ∧ (charByte c).toNat ≤ 0x39) ∧ (charByte c).toNat - 0x30 = c.toNat - '0'.toNat := by
  have hc : 48 ≤ c.toNat ∧ c.toNat ≤ 57 := by
    simpa [Char.isDigit, UInt32.le_iff_toNat_le] using h
  have e : (charByte c).toNat = c.toNat := by
    simp only [charByte, BitVec.toNat_ofNat]
    omega
  rw [e]
  exact ⟨hc, rfl⟩

/-- In PARAMETER, up to nine digits are taken one by one. -/
theorem run_digits (ls : Byte × Byte) (ps : List Int) (neg : Bool) (ds : List Nat) (cs : List Char)
    (hd : ∀ c ∈ cs, c.isDigit = true) (hl : ds.length + cs.length ≤ 9) :
    Parser.run (.parameter ls ps neg ds) (cs.map charByte) =
      (.parameter ls ps neg (ds ++ cs.map fun c => c.toNat - '0'.toNat), []) := by
  induction cs generalizing ds with
  | nil => simp [Parser.run]
  | cons c cs ih =>
    obtain ⟨hr, hv⟩ := charByte_digit (hd c List.mem_cons_self)
    have hne : ∀ x : Char, ¬ (0x30 ≤ (charByte x).toNat ∧ (charByte x).toNat ≤ 0x39) → charByte c ≠ charByte x :=
      fun x hx e => hx (e ▸ hr)
    have hs := parserStep_parameter_other ls ps neg ds (hne '-' (by decide)) (hne ',' (by decide)) (hne ';' (by decide))
    simp only [List.length_cons] at hl
    rw [if_pos ⟨hr, by omega⟩, hv] at hs
    rw [List.map_cons, run_cons_none hs, ih _ (fun x hx => hd x (List.mem_cons_of_mem _ hx)) (by simp; omega)]
    simp

/-! ## Parameters -/

/-- The digits of a number as the parser collects them. -/
def digitsOf (n : Nat) : List Nat := (natText n).map fun c => c.toNat - '0'.toNat

theorem natText_digit (n : Nat) : ∀ c ∈ natText n, c.isDigit = true :=
  fun _ h => Nat.isDigit_of_mem_toDigits (by omega) (by omega) h

theorem digitsOf_ne_nil (n : Nat) : digitsOf n ≠ [] := by
  simp [digitsOf, natText, Nat.toDigits_ne_nil]

theorem natText_length {n : Nat} (h : n ≤ 999999999) : (natText n).length ≤ 9 := by
  unfold natText
  rw [Nat.length_toDigits_le_iff (by omega) (by omega)]
  omega

/-- The parser's value of a number's digits is the number. -/
theorem paramValue_digitsOf (neg : Bool) (n : Nat) :
    paramValue neg (digitsOf n) = if neg then -(n : Int) else n := by
  have h : (digitsOf n).foldl (fun a d => 10 * a + d) 0 = n := by
    have e := Nat.ofDigitChars_ten_toDigits (n := n)
    unfold Nat.ofDigitChars at e
    rw [digitsOf, List.foldl_map]
    exact e
  simp only [paramValue, h]

/-- A parameter is read from an empty one. -/
theorem run_intText (ls : Byte × Byte) (ps : List Int) {p : Int} (hp : paramWellFormed p = true) :
    Parser.run (.parameter ls ps false []) ((intText p).map charByte) =
      (.parameter ls ps (decide (p < 0)) (digitsOf p.natAbs), []) := by
  simp only [paramWellFormed, Bool.and_eq_true, decide_eq_true_eq] at hp
  have hn : p.natAbs ≤ 999999999 := by omega
  have key := fun neg => run_digits ls ps neg [] (natText p.natAbs) (natText_digit _) (by simpa using natText_length hn)
  unfold intText
  split
  · rename_i h
    rw [List.map_cons, run_cons_none (y := .parameter ls ps true []), key]
    · simp [h, digitsOf]
    · simp [parserStep_parameter_minus]
  · rename_i h
    rw [key]
    simp [h, digitsOf]

theorem paramValue_intText (p : Int) : paramValue (decide (p < 0)) (digitsOf p.natAbs) = p := by
  rw [paramValue_digitsOf]
  by_cases h : p < 0
  · simp only [h, decide_true, if_true]
    omega
  · simp only [h, decide_false, Bool.false_eq_true, if_false]
    omega

/-- The rest of a sequence from a parameter on: the parameters behind it, and the end. -/
theorem run_params (ls : Byte × Byte) (ps rest : List Int) (p : Int) (hp : paramWellFormed p = true)
    (hr : ∀ q ∈ rest, paramWellFormed q = true) (hl : ps.length + rest.length < 16) :
    Parser.run (.parameter ls ps false [])
        ((intText p ++ (rest.flatMap fun q => ',' :: intText q) ++ [';']).map charByte) =
      (.ground, [.complete ls (ps ++ p :: rest)]) := by
  induction rest generalizing p ps with
  | nil =>
    rw [List.flatMap_nil, List.append_nil, List.map_append, run_append, run_intText ls ps hp]
    simp [Parser.run, parserStep_parameter_end, digitsOf_ne_nil, paramValue_intText]
  | cons q rest ih =>
    simp only [List.length_cons] at hl
    have hs := parserStep_parameter_comma ls ps (decide (p < 0)) (digitsOf p.natAbs)
    rw [if_pos ⟨digitsOf_ne_nil _, by omega⟩, paramValue_intText] at hs
    have ih := ih (ps ++ [p]) q (hr q List.mem_cons_self) (fun x hx => hr x (List.mem_cons_of_mem _ hx))
      (by simp; omega)
    rw [List.flatMap_cons, List.append_assoc, List.map_append, run_append, run_intText ls ps hp, List.cons_append,
      List.cons_append, List.map_cons, run_cons_none hs, ih]
    simp

/-! ## Verbs -/

theorem verb_capitals (v : Verb) : (0x41 ≤ v.letters.1.toNat ∧ v.letters.1.toNat ≤ 0x5A) ∧
    0x41 ≤ v.letters.2.toNat ∧ v.letters.2.toNat ≤ 0x5A := by
  cases v <;> decide

theorem verb_mem (v : Verb) : v ∈ consoleVerbs ∨ v ∈ shoreVerbs := by
  cases v <;> decide

theorem linkVerbOf_letters (l : Link) (v : Verb) :
    linkVerbOf l v.letters = if v ∈ linkVerbs l then some v else none := by
  have own : ∀ l, ∀ v ∈ linkVerbs l, linkVerbOf l v.letters = some v := by
    intro l
    cases l <;> decide
  have foreign : ∀ v ∈ shoreVerbs, linkVerbOf .console v.letters = none := by decide
  have foreign' : ∀ v ∈ consoleVerbs, linkVerbOf .shore v.letters = none := by decide
  split
  · rename_i h
    exact own l v h
  · rename_i h
    cases l with
    | console => exact foreign v ((verb_mem v).resolve_left h)
    | shore => exact foreign' v ((verb_mem v).resolve_right h)

/-- The parser over '#' and the two letters of a verb. -/
theorem run_verb (v : Verb) (cs : List Byte) :
    Parser.run .ground (charByte '#' :: v.letters.1 :: v.letters.2 :: cs) =
      Parser.run (.verb [v.letters.1, v.letters.2]) cs := by
  obtain ⟨h1, h2⟩ := verb_capitals v
  have s1 := parserStep_verb_few (ls := []) (by simp) v.letters.1
  have s2 := parserStep_verb_few (ls := [v.letters.1]) (by simp) v.letters.2
  rw [if_pos h1, List.nil_append] at s1
  rw [if_pos h2] at s2
  rw [run_cons_none (y := .verb []) (by rw [parserStep_ground, if_pos rfl]), run_cons_none s1, run_cons_none s2]
  rfl

theorem run_sequence (v : Verb) {ps : List Int} (h : paramsWellFormed ps = true) :
    Parser.run .ground (Sequence.bytes ⟨v, ps⟩) = (.ground, [.complete v.letters ps]) := by
  simp only [paramsWellFormed, Bool.and_eq_true, decide_eq_true_eq, List.all_eq_true] at h
  obtain ⟨hl, hp⟩ := h
  cases ps with
  | nil => exact run_verb v [charByte ';']
  | cons p rest =>
    simp only [List.length_cons] at hl
    have e : Sequence.bytes ⟨v, p :: rest⟩ = charByte '#' :: v.letters.1 :: v.letters.2 :: charByte ',' ::
        (intText p ++ (rest.flatMap fun q => ',' :: intText q) ++ [';']).map charByte := by
      simp [Sequence.bytes, Verb.letters]
    rw [e, run_verb, run_cons_none (y := .parameter v.letters [] false []) (parserStep_verb_two _ _ _)]
    exact run_params v.letters [] rest p (hp p List.mem_cons_self) (fun q hq => hp q (List.mem_cons_of_mem _ hq))
      (by simpa using hl)

/-- Settles O7: the characters of the verb, of each parameter and of the end, in turn; and no two verbs of a link share
their letters. -/
theorem parserReadsEveryWrittenSequence : Obligations.ParserReadsEveryWrittenSequence := by
  unfold Obligations.ParserReadsEveryWrittenSequence
  intro l v ps h
  refine ⟨run_sequence v h, fun hv => ?_, fun hv => ?_⟩
  · simp [judgeEnding, linkVerbOf_letters, hv]
  · simp [judgeEnding, linkVerbOf_letters, hv]

end Sys2Proof.Machine

/-! # The parser takes a character (O8), and characters are received -/

namespace Sys2Proof.Machine

/-- When the console's parser may take a character (R188). -/
theorem parserReady_console (s : State) : s.parserReady .console = true ↔
    s.modes.condition = .running ∧ (s.rx .console).inHand = none ∧ s.console.replies.length < 8 ∧
      s.particulars.writing = none ∧ s.modes.resetAsked = none := by
  simp only [State.parserReady, State.consoleRoom, State.running, Config.replyCount, Bool.and_eq_true,
    decide_eq_true_eq, Option.isNone_iff_eq_none]
  constructor
  · rintro ⟨h1, ⟨⟨h2, h3⟩, h4⟩, h5⟩
    exact ⟨h2, h1, of_decide_eq_true h3, h4, h5⟩
  · rintro ⟨h2, h1, h3, h4, h5⟩
    exact ⟨h1, ⟨⟨h2, decide_eq_true h3⟩, h4⟩, h5⟩

/-- When the shore link's parser may take a character (R135). -/
theorem parserReady_shore (s : State) : s.parserReady .shore = true ↔
    s.modes.condition = .running ∧ (s.rx .shore).inHand = none ∧ s.shore.replyPending = false ∧
      s.pour.clearance = none := by
  simp only [State.parserReady, State.shoreRoom, State.running, Bool.and_eq_true, decide_eq_true_eq,
    Option.isNone_iff_eq_none, Bool.not_eq_true']
  constructor
  · rintro ⟨h1, ⟨h2, h3⟩, h4⟩
    exact ⟨h2, h1, h3, h4⟩
  · rintro ⟨h2, h1, h3, h4⟩
    exact ⟨h1, ⟨h2, h3⟩, h4⟩

section
variable {s : State} {l : Link}

theorem rx_gap_resumeIfLow : ((s.resumeIfLow l).rx l).gap = (s.rx l).gap := by
  unfold State.resumeIfLow
  dsimp only
  split <;> cases l <;> rfl

/-- After a gap every termination is refused LOST (R188). -/
theorem terminate_gap (h : (s.rx l).gap = true) (e : Ending) : s.terminate l e =
    (s.setRx l { s.rx l with gap := false }).portRefusal l (.refusal e.letters .lost) := by
  simp only [State.terminate, judgeEnding, h, if_true]

theorem terminate_malformed (h : (s.rx l).gap = false) (ls : Option (Byte × Byte)) : s.terminate l (.malformed ls) =
    (s.setRx l { s.rx l with gap := false }).portRefusal l (.refusal ls .form) := by
  simp only [State.terminate, judgeEnding, h, Bool.false_eq_true, if_false, Ending.letters]

theorem terminate_foreign (h : (s.rx l).gap = false) {p : Byte × Byte} (hv : linkVerbOf l p = none) (ps : List Int) :
    s.terminate l (.complete p ps) =
      (s.setRx l { s.rx l with gap := false }).portRefusal l (.refusal (some p) .verb) := by
  simp only [State.terminate, judgeEnding, h, Bool.false_eq_true, if_false, hv, Ending.letters]

theorem terminate_own (h : (s.rx l).gap = false) {p : Byte × Byte} {v : Verb} (hv : linkVerbOf l p = some v)
    (ps : List Int) :
    s.terminate l (.complete p ps) = s.setRx l { s.rx l with inHand := some ⟨v, ps⟩ } := by
  simp only [State.terminate, judgeEnding, h, Bool.false_eq_true, if_false, hv]

theorem parseOne_idle (h : ¬ s.parserReady l = true ∨ (s.rx l).queue = []) : s.parseOne l = s := by
  unfold State.parseOne
  rcases h with h | h
  · rw [if_neg h]
  · rw [h]
    split <;> rfl

end

/-- Settles O8: the parser's readiness, then its move, RESUME, and the termination that the move makes. -/
theorem parserTakesTheOldestCharacter : Obligations.ParserTakesTheOldestCharacter := by
  unfold Obligations.ParserTakesTheOldestCharacter
  intro l s ready
  have hready : s.parserReady l = true ↔ ready := by
    cases l
    · exact parserReady_console s
    · exact parserReady_shore s
  rw [← hready]
  refine ⟨fun h => congrArg Host.Outcome.next (parseOne_idle h), fun c rest hq hr => ?_⟩
  change Host.Outcome.next (s.parseOne l) = _
  have hgap := rx_gap_resumeIfLow (s := s.setRx l { s.rx l with queue := rest, parser := ((s.rx l).parser.step c).1 })
    (l := l)
  have hu : (s.setRx l { s.rx l with queue := rest, parser := ((s.rx l).parser.step c).1 }).resumeIfLow l =
      if (s.rx l).paused = true ∧ rest.length ≤ Config.resumeAt l then
        ((s.setRx l { s.rx l with queue := rest, parser := ((s.rx l).parser.step c).1 }).setRx l
          { (s.setRx l { s.rx l with queue := rest, parser := ((s.rx l).parser.step c).1 }).rx l with
            paused := false }).send (.flow l false)
      else s.setRx l { s.rx l with queue := rest, parser := ((s.rx l).parser.step c).1 } := by
    simp only [State.resumeIfLow, rx_setRx, Bool.and_eq_true, decide_eq_true_eq]
  rw [rx_setRx] at hgap
  unfold State.parseOne
  rw [if_pos hr, hq]
  dsimp only
  rw [← hu]
  dsimp only at hgap
  generalize (s.setRx l { s.rx l with queue := rest, parser := ((s.rx l).parser.step c).1 }).resumeIfLow l = t at hgap ⊢
  congr 1
  cases ((s.rx l).parser.step c).2 with
  | none => rfl
  | some e =>
    dsimp only
    rw [← hgap]
    by_cases hg : (t.rx l).gap = true
    · rw [if_pos hg, terminate_gap hg]
    · have hg' : (t.rx l).gap = false := by simpa using hg
      rw [if_neg hg]
      cases e with
      | malformed ls => exact terminate_malformed hg' ls
      | complete p ps =>
        cases hv : linkVerbOf l p with
        | none => simpa only [hv] using terminate_foreign hg' hv ps
        | some v => simpa only [hv] using terminate_own hg' hv ps

/-! ## Receiving -/

/-- A character joins the queue, or is dropped (R185, R186). -/
theorem queueCharacter_eq (s : State) (l : Link) (b : Byte) :
    s.queueCharacter l b =
      if Config.receiveCapacity l ≤ (s.rx l).queue.length then s.setRx l { s.rx l with gap := true }
      else if (s.rx l).paused = false ∧ Config.pauseAt l ≤ (s.rx l).queue.length + 1 then
        ((s.setRx l { s.rx l with queue := (s.rx l).queue ++ [b] }).setRx l
          { (s.setRx l { s.rx l with queue := (s.rx l).queue ++ [b] }).rx l with paused := true }).send (.flow l true)
      else s.setRx l { s.rx l with queue := (s.rx l).queue ++ [b] } := by
  unfold State.queueCharacter State.pauseIfFull
  simp only [rx_setRx]
  by_cases hf : Config.receiveCapacity l ≤ (s.rx l).queue.length
  · rw [if_pos hf, if_neg (by omega)]
  · rw [if_neg hf, if_pos (by omega)]
    simp only [List.length_append, List.length_singleton, Bool.and_eq_true, Bool.not_eq_true', decide_eq_true_eq]

/-- The lines of the console do not change when the line in transmission goes on. -/
theorem outgoing_tx_map (p : ConsolePort) (f : TxLine → TxLine) (hf : ∀ t, (f t).line = t.line) (hold : Bool) :
    ({ p with hold := hold, tx := p.tx.map f } : ConsolePort).outgoing = p.outgoing := by
  unfold ConsolePort.outgoing
  cases p.tx <;> simp [hf]

/-- A PAUSE on the console changes the Console Port alone: the hold is set, and the character in transmission ends. -/
theorem holdLink_console (s : State) :
    let t := s.holdLink .console
    t = s.setConsole t.console ∧ t.console.hold = true ∧ t.console.rx = s.console.rx ∧
      t.console.rate = s.console.rate ∧ t.console.outgoing = s.console.outgoing ∧
      t.console.buffer = s.console.buffer ∧ t.console.replies = s.console.replies := by
  unfold State.holdLink
  dsimp only
  split
  · rename_i h
    exact ⟨rfl, h, rfl, rfl, rfl, rfl, rfl⟩
  · exact ⟨rfl, rfl, rfl, rfl, outgoing_tx_map _ TxLine.toBoundary (fun _ => rfl) true, rfl, rfl⟩

/-- With a line in transmission, under the hold, or with nothing in the buffer, the console stands still. -/
theorem startConsole_still {s : State} (h : s.console.tx ≠ none ∨ s.console.hold = true ∨ s.console.buffer = none) :
    s.startConsole = s := by
  unfold State.startConsole
  split
  · rename_i q h1 h2 h3
    simp [h1, h2, h3] at h
  · rfl

/-! ## The console's transmission -/

theorem composeFooter_console (s : State) (kind : ReportKind) (start : Stamp) (abort : Option AbortCause) :
    (s.composeFooter kind start abort).1.console = s.console := by
  unfold State.composeFooter
  dsimp only
  split <;> rfl

theorem composeBody_console (s : State) (kind : ReportKind) (sect : Section) (cursor : Nat) (start : Stamp)
    (abort : Option AbortCause) : (s.composeBody kind sect cursor start abort).1.console = s.console := by
  unfold State.composeBody
  dsimp only
  split
  · exact composeFooter_console _ _ _ _
  · split
    · rfl
    · exact composeFooter_console _ _ _ _

/-- With the buffer empty, the oldest reply moves into it (R189). -/
theorem fillFromReplies_eq {p : ConsolePort} (h : p.buffer = none) :
    p.fillFromReplies = { p with buffer := p.replies.head?, replies := p.replies.tail } := by
  unfold ConsolePort.fillFromReplies
  rcases p with ⟨rx, hold, replies, buffer, tx, rate⟩
  subst h
  cases replies <;> rfl

/-- Filling the empty buffer again leaves the line in transmission, and either moves the oldest reply there or places a
composed line before the replies. -/
theorem refill_console {s : State} (hb : s.console.buffer = none) (q : QueuedLine) :
    (s.refill q).console = { s.console with buffer := s.console.replies.head?, replies := s.console.replies.tail } ∨
      ((s.composer.state.yields = false ∨ q.isRp = true) ∧
        ∃ b, (s.refill q).console = { s.console with buffer := some b }) := by
  unfold State.refill
  split
  · exact .inl (fillFromReplies_eq hb)
  · split
    · rename_i hq
      exact .inr ⟨.inr hq, _, rfl⟩
    · exact .inl (fillFromReplies_eq hb)
  · rename_i kind sect cursor start abort hc
    refine .inr ⟨.inl (by rw [hc]; rfl), ⟨(s.composeBody kind sect cursor start abort).2, false⟩, ?_⟩
    unfold State.setConsoleBuffer
    rw [console_setConsole, composeBody_console]

/-- The console's line in transmission once the buffered line may move. -/
theorem startConsole_tx {s : State} (ht : s.console.tx = none) (hh : s.console.hold = false) :
    s.startConsole.console.tx = s.console.buffer.map fun q => ⟨q.line, 0⟩ := by
  unfold State.startConsole
  split
  · rename_i q _ _ hq
    rw [hq]
    rcases refill_console (s := s.setConsole { s.console with tx := some ⟨q.line, 0⟩, buffer := none }) rfl q with
      e | ⟨-, b, e⟩ <;> rw [e] <;> rfl
  · rename_i hn
    cases hb : s.console.buffer with
    | none => exact ht
    | some q => exact absurd hb (hn q ht hh)

/-- While no report is asked, the console's lines move on by one place each. -/
theorem startConsole_idle_console {s : State} (h : s.composer.state = .idle) (ht : s.console.tx = none)
    (hh : s.console.hold = false) : s.startConsole.console = if s.console.buffer = none then s.console else
      { s.console with
        tx := s.console.buffer.map fun q => ⟨q.line, 0⟩, buffer := s.console.replies.head?
        replies := s.console.replies.tail } := by
  cases hb : s.console.buffer with
  | none => rw [if_pos rfl, startConsole_still (.inr (.inr hb))]
  | some q =>
    rw [if_neg (by simp)]
    unfold State.startConsole
    simp only [ht, hh, hb, State.refill, composer_setConsole, h]
    exact fillFromReplies_eq rfl

/-- The newest of the console's lines stays the newest as the buffered line moves on, when a reply waits behind each
line that a composed one would follow. -/
theorem startConsole_newest {s : State} {l : Line} (h : s.console.outgoing.getLast? = some l)
    (hr : ∀ q, s.console.buffer = some q → s.composer.state.yields = false ∨ q.isRp = true → s.console.replies ≠ []) :
    s.startConsole.console.outgoing.getLast? = some l := by
  unfold State.startConsole
  split
  · rename_i q ht _ hq
    simp only [ConsolePort.outgoing, ht, hq, Option.toList, List.map_cons, List.map_nil, List.nil_append] at h
    rcases refill_console (s := s.setConsole { s.console with tx := some ⟨q.line, 0⟩, buffer := none }) rfl q with
      e | ⟨hc, b, e⟩
    · rw [e]
      cases hrep : s.console.replies <;> simpa [ConsolePort.outgoing, hrep] using h
    · have hne := hr q hq hc
      rw [e]
      cases hrep : s.console.replies with
      | nil => exact absurd hrep hne
      | cons x rest => simpa [ConsolePort.outgoing, hrep, List.getLast?_cons_cons] using h
  · exact h

/-- A reply joins as the newest line, before the buffered line moves on. -/
theorem joined_console (s : State) (q : QueuedLine) : ∃ c, s.joinReplies q = (s.setConsole c).startConsole ∧
    c.outgoing = s.console.outgoing ++ [q.line] ∧
    (q.isRp = false → ∀ b, c.buffer = some b → s.composer.state.yields = false ∨ b.isRp = true → c.replies ≠ []) := by
  refine ⟨_, rfl, ?_⟩
  dsimp only
  split
  · rename_i hy
    simp only [Bool.and_eq_true, Option.isNone_iff_eq_none] at hy
    obtain ⟨hb, hy⟩ := hy
    rw [fillFromReplies_eq (p := { s.console with replies := s.console.replies ++ [q] }) hb]
    refine ⟨?_, fun hq b hbuf hc => ?_⟩
    · cases hrep : s.console.replies <;> simp [ConsolePort.outgoing, hb, hrep]
    · cases hrep : s.console.replies with
      | nil =>
        simp only [hrep, List.nil_append, List.head?_cons, Option.some.injEq] at hbuf
        subst hbuf
        simp [hy, hq] at hc
      | cons x rest => simp
  · exact ⟨by simp [ConsolePort.outgoing], fun _ _ _ _ => by simp⟩

/-- A console reply is the newest of the console's lines, whatever the composer does. -/
theorem consoleLine_newest (s : State) (l : Line) : (s.consoleLine l).console.outgoing.getLast? = some l := by
  obtain ⟨c, e, ho, hr⟩ := joined_console (s.setConsole { s.console with rx := { s.console.rx with inHand := none } })
    ⟨l, false⟩
  rw [State.consoleLine, e]
  exact startConsole_newest (by rw [console_setConsole, ho]; simp) fun q hq hc => hr rfl q hq hc

/-- While no report is asked, a reply joins behind the buffered line and the replies, the oldest of them in the buffer. -/
theorem joinReplies_idle {s : State} (h : s.composer.state = .idle) (q : QueuedLine) : ∃ c,
    s.joinReplies q = (s.setConsole c).startConsole ∧ c.tx = s.console.tx ∧ c.hold = s.console.hold ∧
      c.buffer = (s.console.buffer.toList ++ s.console.replies ++ [q]).head? ∧
      c.replies = (s.console.buffer.toList ++ s.console.replies ++ [q]).tail := by
  refine ⟨_, rfl, ?_⟩
  simp only [h, ComposerState.yields, Bool.and_true]
  cases hb : s.console.buffer with
  | none =>
    simp only [Option.isNone_none, if_true]
    rw [fillFromReplies_eq rfl]
    exact ⟨rfl, rfl, rfl, rfl⟩
  | some b => exact ⟨rfl, rfl, rfl, rfl⟩

/-- The three places of the console's lines after a reply, while no report is asked. -/
theorem joinReplies_idle_places {s : State} (h : s.composer.state = .idle) (q : QueuedLine) {lines : List QueuedLine}
    (hl : lines = s.console.buffer.toList ++ s.console.replies ++ [q]) :
    (s.console.tx ≠ none ∨ s.console.hold = true → (s.joinReplies q).console.tx = s.console.tx ∧
      (s.joinReplies q).console.buffer = lines.head? ∧ (s.joinReplies q).console.replies = lines.tail) ∧
    (s.console.tx = none → s.console.hold = false →
      (s.joinReplies q).console.tx = lines.head?.map (fun x => ⟨x.line, 0⟩) ∧
      (s.joinReplies q).console.buffer = lines[1]? ∧ (s.joinReplies q).console.replies = lines.drop 2) := by
  obtain ⟨c, e, ht, hh, hb, hr⟩ := joinReplies_idle h q
  rw [← hl] at hb hr
  rw [e]
  refine ⟨fun hbusy => ?_, fun htx hhold => ?_⟩
  · rw [startConsole_still (by rcases hbusy with x | x <;> simp [ht, hh, x])]
    exact ⟨ht, hb, hr⟩
  · have hne : ¬ (s.setConsole c).console.buffer = none := by simp [hb, hl]
    have g := startConsole_idle_console (s := s.setConsole c) h (ht.trans htx) (hh.trans hhold)
    rw [if_neg hne] at g
    rw [g]
    refine ⟨by simp [hb], by simp [hr], ?_⟩
    cases lines with
    | nil => simp [hr]
    | cons x rest => simp [hr]

end Sys2Proof.Machine

/-! # Where lines are placed (O5) -/

namespace Sys2Proof.Machine

/-- Settles O5: the frames of a reply and of a slot's line, the newest line, and each move of the console's lines. -/
theorem linesArePlaced : Obligations.LinesArePlaced := by
  unfold Obligations.LinesArePlaced
  refine ⟨fun s l => ?_, fun _ _ => rfl, fun s q => ?_, fun _ => startConsole_still, fun s k l => ?_, fun s k l => ?_,
    fun _ _ => rfl⟩
  · have r := consoleLine_replies s l
    refine ⟨r.eq, r.rx, r.hold, r.rate, r.shore.1, r.shore.2.1, r.shore.2.2, consoleLine_newest s l, fun h => ?_⟩
    obtain ⟨e, ho⟩ := consoleLine_idle h l
    obtain ⟨g1, g2⟩ := joinReplies_idle_places
      (s := s.setConsole { s.console with rx := { s.console.rx with inHand := none } }) h ⟨l, false⟩ rfl
    refine ⟨e, ho, ?_⟩
    by_cases hbusy : s.console.tx ≠ none ∨ s.console.hold = true
    · simp only [if_pos hbusy]
      exact g1 hbusy
    · simp only [if_neg hbusy]
      simp only [not_or, not_not, Bool.not_eq_true] at hbusy
      exact g2 hbusy.1 hbusy.2
  · intro queue yields
    have hy : s.composer.state.yields = yields := by
      simp only [yields]
      cases s.composer.state <;> rfl
    unfold State.joinReplies
    simp only [hy, Bool.and_eq_true, Option.isNone_iff_eq_none]
    by_cases hb : s.console.buffer = none ∧ yields = true
    · rw [if_pos hb, if_pos hb, fillFromReplies_eq (p := { s.console with replies := s.console.replies ++ [q] }) hb.1]
    · rw [if_neg hb, if_neg hb]
  · exact congrArg s.setShore (ShorePort.pump_eq_movedOn _)
  · obtain ⟨h1, h2, h3⟩ := shoreSend_same s k l
    refine ⟨rfl, h1, h2, h3, ?_⟩
    rw [shoreSend_outgoing]
    simp only [ShorePort.outgoing, placeLine]
    split
    · simp only [List.map_map]
      congr 1
      refine List.map_congr_left fun q _ => ?_
      simp only [Function.comp]
      split <;> rfl
    · simp

end Sys2Proof.Machine

/-! # Characters and flow control (O9), and the end of a line (O10) -/

namespace Sys2Proof.Machine

/-- A RESUME on the console leaves what lies outside the links, and lines move on from the Console Port alone. -/
theorem unholdLink_console (s : State) :
    let t := s.unholdLink .console
    t = ((s.setConsole t.console).setComposer t.composer).setShore t.shore ∧ t.console.hold = false ∧
      t.console.rx = s.console.rx ∧ t.console.rate = s.console.rate ∧
      (∀ x, s.console.tx = some x → t = s.setConsole { s.console with hold := false }) ∧
      (s.console.tx = none → t.console.tx = s.console.buffer.map fun q => ⟨q.line, 0⟩) ∧
      (s.composer.state = .idle → t.console.outgoing = s.console.outgoing) := by
  have h := (Transmits.refl (s.setConsole { s.console with hold := false })).startConsole
  refine ⟨eq_of_outsideLinks h.frame, h.hold, h.rx, h.rate, fun x hx => ?_, fun hx => startConsole_tx hx rfl, fun hi => ?_⟩
  · exact startConsole_still (.inl (by simp [hx]))
  · exact (startConsole_idle (s := s.setConsole { s.console with hold := false }) hi).2

/-- A RESUME on the shore link changes the Shore Port alone, whose lines move on (R136). -/
theorem unholdLink_shore (s : State) :
    let t := s.unholdLink .shore
    t = s.setShore t.shore ∧ t.shore.hold = false ∧ t.shore.rx = s.shore.rx ∧ t.shore.rate = s.shore.rate ∧
      t.shore.outgoing = s.shore.outgoing := by
  obtain ⟨h1, h2, h3⟩ := ShorePort.pump_same { s.shore with hold := false }
  exact ⟨rfl, h2, h1, h3, ShorePort.pump_outgoing _⟩

/-- Settles O9: what a character is decides which of the three things it does, and PAUSE and RESUME by their links. -/
theorem charactersAndFlowControlAreReceived : Obligations.CharactersAndFlowControlAreReceived := by
  unfold Obligations.CharactersAndFlowControlAreReceived
  refine ⟨fun l c stopValid s => ?_, fun s hr => ?_⟩
  · have hrun : (!s.running) = true ↔ s.modes.condition ≠ .running := by simp [State.running]
    simp only [← hrun, ← queueCharacter_eq]
    rfl
  · have run : ∀ t, (if s.running = true then t else s) = t := fun t => if_pos (by simpa [State.running] using hr)
    refine ⟨fun l => ⟨congrArg Host.Outcome.next (run _), congrArg Host.Outcome.next (run _)⟩,
      congrArg Host.Outcome.next (run _), ?_, ⟨_, congrArg Host.Outcome.next (run _), holdLink_console s⟩,
      congrArg Host.Outcome.next (run _), ⟨_, congrArg Host.Outcome.next (run _), unholdLink_console s⟩,
      ⟨_, congrArg Host.Outcome.next (run _), unholdLink_shore s⟩⟩
    exact congrArg Host.Outcome.next ((run _).trans (congrArg s.setShore (ShorePort.pump_eq_movedOn _)))

/-- The end of a line on the console changes the reset that was asked for when the line is the reply to RS (R206). -/
theorem markReset_eq (s : State) (l : Line) : s.markReset l = s.setModes (if l = .reply .RS [] then
    { s.modes with resetAsked := s.modes.resetAsked.map fun r => { r with replySent := true } } else s.modes) := by
  cases h : s.modes.resetAsked with
  | none =>
    have e : ({ s.modes with resetAsked := none } : ModeControl) = s.modes := by rw [← h]
    simp only [State.markReset, h, Option.map_none, e, ite_self]
    rfl
  | some r =>
    simp only [State.markReset, h, Option.map_some]
    split <;> rfl

/-- The lines that wait, once the line in transmission has gone (R136). -/
theorem outgoing_txNone {p : ShorePort} {x : TxLine} (h : p.tx = some x) :
    ({ p with tx := none } : ShorePort).outgoing = p.outgoing.tail := by
  simp [ShorePort.outgoing, h]

/-- Settles O10: the line that ends is sent, and the lines behind it move on by the rules of their link. -/
theorem linesAreSent : Obligations.LinesAreSent := by
  unfold Obligations.LinesAreSent
  refine ⟨fun s x hx hh => ?_, fun s h => ?_, fun s x hx => ?_, fun s h => ?_⟩
  · have e : s.lineDone = (((s.setSent (s.sent ++ [.line .console x.line])).setModes (if x.line = .reply .RS [] then
        { s.modes with resetAsked := s.modes.resetAsked.map fun r => { r with replySent := true } }
        else s.modes)).setConsole { s.console with tx := none }).startConsole := by
      unfold State.lineDone
      simp only [hx, hh, markReset_eq]
      rfl
    generalize (if x.line = .reply .RS [] then
        { s.modes with resetAsked := s.modes.resetAsked.map fun r => { r with replySent := true } }
        else s.modes) = m at e ⊢
    generalize hu : ((s.setSent (s.sent ++ [.line .console x.line])).setModes m).setConsole
      { s.console with tx := none } = u at e
    have hc : u.console = { s.console with tx := none } := by rw [← hu]; rfl
    have h := (Transmits.refl u).startConsole
    have hf := eq_of_outsideLinks h.frame
    have hm : u.startConsole.modes = m := by rw [hf, ← hu]; rfl
    refine ⟨s.lineDone, rfl, ?_⟩
    rw [e, hm]
    refine ⟨?_, rfl, ?_, ?_, ?_, ?_, fun hi => ?_, by rw [hu]⟩
    · rw [← hu] at hf ⊢
      exact hf
    · rw [h.rx, hc]
    · rw [h.hold, hc]
      exact hh
    · rw [h.rate, hc]
    · rw [startConsole_tx (by rw [hc]) (by rw [hc]; exact hh), hc]
    · have hi' : u.composer.state = .idle := by rw [← hu]; exact hi
      refine ⟨?_, ?_⟩
      · rw [(startConsole_idle hi').2, hc]
        simp [ConsolePort.outgoing, hx]
      · rw [startConsole_idle_console hi' (by rw [hc]) (by rw [hc]; exact hh), hc]
        dsimp only
        split
        · rename_i hb
          exact ⟨hb, rfl⟩
        · exact ⟨rfl, rfl⟩
  · change Host.Outcome.next s.lineDone = _
    unfold State.lineDone
    split
    · rename_i h1 h2
      simp [h1, h2] at h
    · rfl
  · obtain ⟨h1, h2, h3⟩ := ShorePort.pump_same { s.shore with tx := none }
    have e : s.shoreLineDone = (s.send (.line .shore x.line)).setShore ({ s.shore with tx := none } : ShorePort).pump := by
      unfold State.shoreLineDone
      simp only [hx]
    refine ⟨s.shoreLineDone, rfl, ?_⟩
    rw [e]
    refine ⟨rfl, h1, h2, h3, (ShorePort.pump_outgoing _).trans (outgoing_txNone hx), ShorePort.pump_eq_movedOn _,
      fun hh => ?_, fun hh b hb => ?_⟩
    · rw [shore_setShore, ShorePort.pump_eq_movedOn]
      simp [ShorePort.movedOn, hh]
    · rw [shore_setShore, ShorePort.pump_eq_movedOn]
      simp [ShorePort.movedOn, hh, hb, List.head?_eq_getElem?]
  · change Host.Outcome.next s.shoreLineDone = _
    unfold State.shoreLineDone
    rw [h]

end Sys2Proof.Machine

/-! # The queries of one record TQ, MQ and FQ (O11) -/

namespace Sys2Proof.Machine

/-! ## The commands -/

/-- The command TQ is the console request with its own checks and effect. -/
theorem exec_tankQuery (ps : List Int) (s : State) : exec (.tankQuery ps) s =
    .next (s.consoleRequest .TQ ps (tqChecks s ps) fun s => s.reply .TQ (s.tqFields (parN ps 1))) := rfl

/-- The command MQ is the console request with its own checks and effect. -/
theorem exec_moverQuery (ps : List Int) (s : State) : exec (.moverQuery ps) s =
    .next (s.consoleRequest .MQ ps (moverChecks s ps) fun s =>
      s.reply .MQ (s.mqFields (MoverId.ofParam (par ps 1)))) := rfl

/-- The command FQ is the console request with its own checks and effect. -/
theorem exec_faultQuery (ps : List Int) (s : State) : exec (.faultQuery ps) s =
    .next (s.consoleRequest .FQ ps (fqChecks ps) fun s => s.reply .FQ s.fqFields) := rfl

/-! ## Checks that several verbs make -/

/-- The NONE check of a verb that names a tank fails when the particulars do not define it. -/
theorem not_tankDefined_iff {p : Option Memory} {n : Nat} : (!tankDefined p n) = true ↔ tankDefined p n = false := by
  rw [Bool.not_eq_true']

/-- The CLAIM check of a verb that names a tank fails when the tank is claimed (R21). -/
theorem tankClaimed_iff {s : State} {n : Nat} : s.tankClaimed n = true ↔ (s.tank n).claim ≠ none := by
  rw [State.tankClaimed, Option.isSome_iff_ne_none]

/-! ## The fields -/

/-- The suspect count of TQ is shown for a SUSPECT gauge alone. -/
theorem fnat?_count (g : GaugeState) : fnat? g.count? =
    match g with
    | .suspect k => fnat k
    | _ => .empty := by
  cases g <;> rfl

/-- The stop fields of MQ are shown for a STOPPING mover alone. -/
theorem stopFields_eq (x : Phase) :
    [fword? (x.reason?.map StopReason.word), fword? (x.outcome?.map TransferOutcome.word),
      fword? (x.stage?.map StopStage.word)] =
    match x with
    | .stopping reason outcome stage =>
      [.word reason.word, fword? (outcome.map TransferOutcome.word), .word stage.word]
    | _ => [.empty, .empty, .empty] := by
  cases x <;> rfl

/-- The fault cause of MQ is shown for a mover that is FAULTED or stops for a fault. -/
theorem causeField_eq (x : Phase) (c : Field) :
    fwhen (decide (x = .faulted) || x.faultStopping) c =
    match x with
    | .faulted => c
    | .stopping .fault _ _ => c
    | _ => .empty := by
  cases x with
  | stopping reason outcome stage => cases reason <;> rfl
  | _ => rfl

/-- The quiet reading as a field. -/
theorem fbit?_eq (b : Option Bool) : fbit? b =
    match b with
    | some b => .num (if b = true then 1 else 0)
    | none => .empty := by
  cases b <;> rfl

/-- The first cause as a field. -/
theorem fcause?_eq (c : Option Cause) : fcause? c =
    match c with
    | some c => .cause c
    | none => .empty := by
  cases c <;> rfl

/-- The count of restart attempts is shown once there is one. -/
theorem attemptsField_eq (n : Nat) : fwhen (decide (0 < n)) (fnat n) = if n = 0 then .empty else fnat n := by
  cases n <;> rfl

/-- The fields of MQ, the parts that hang on the phase written out (R92). -/
theorem mqFields_eq (s : State) (m : MoverId) : s.mqFields m =
    let x := s.mover m
    let t := x.run.bind s.transfer?
    [.word m.word, .word m.kind.word, .word x.phase.word] ++
      [fword? (x.phase.reason?.map StopReason.word), fword? (x.phase.outcome?.map TransferOutcome.word),
        fword? (x.phase.stage?.map StopStage.word)] ++
      [fnat? x.run, fnat? (t.map fun y => y.active), fnat? (t.bind Transfer.activeTank), fnat? x.stack[0]?,
        fnat? x.stack[1]?, fnat ((s.now - x.timer) / 1000), fnat? (x.flow.bind fun f => f.volume),
        fnat? (x.flow.map fun f => (s.now - f.time) / 1000), fnat? (x.last.map fun q => q.1),
        fword? (x.last.map fun q => q.2.word),
        fwhen (decide (x.phase = .faulted) || x.phase.faultStopping) (fword? ((s.moverCause m).map MoverCause.word)),
        fbit? x.quiet] := by
  rw [State.mqFields, activeTank_eq_bind, runTransfer_eq_bind]
  rfl

/-- Settles O11: the checks of each verb rung by rung, then its fields. -/
theorem recordsAreQueried : Obligations.RecordsAreQueried := by
  unfold Obligations.RecordsAreQueried
  refine ⟨fun s ps htakes => ?tank, fun s ps htakes => ?mover, fun s ps htakes => ?fault⟩
  case tank =>
    dsimp only
    rw [exec_tankQuery, tqChecks, tankChecks1, consoleRequest_cons htakes, consoleRequest_cons htakes,
      consoleRequest_cons htakes, consoleRequest_cons htakes, consoleRequest_nil htakes]
    refine congrArg Host.Outcome.next ?_
    refine rung decide_eq_true_iff fun _ => ?_
    refine rung not_inRange_iff fun _ => ?_
    refine rung inRestart_iff fun _ => ?_
    refine rung not_tankDefined_iff fun _ => ?_
    rw [State.tqFields, fnat?_count]
    rfl
  case mover =>
    dsimp only
    rw [exec_moverQuery, moverChecks, consoleRequest_cons htakes, consoleRequest_cons htakes,
      consoleRequest_cons htakes, consoleRequest_nil htakes]
    refine congrArg Host.Outcome.next ?_
    refine rung decide_eq_true_iff fun _ => ?_
    refine rung not_inRange_iff fun _ => ?_
    refine rung inRestart_iff fun _ => ?_
    rw [mqFields_eq]
    dsimp only
    rw [stopFields_eq, causeField_eq, fbit?_eq]
    rfl
  case fault =>
    dsimp only
    rw [exec_faultQuery, fqChecks, consoleRequest_cons htakes, consoleRequest_nil htakes]
    refine congrArg Host.Outcome.next ?_
    refine rung decide_eq_true_iff fun _ => ?_
    rw [State.fqFields, fcause?_eq, fbit?_eq, attemptsField_eq]
    rfl

end Sys2Proof.Machine

/-! # The lock and the declared origin of a tank: TL, TU and TO (O12) -/

namespace Sys2Proof.Machine

/-! ## The commands -/

/-- The command TL is the console request with its own checks and effect. -/
theorem exec_tankLock (ps : List Int) (s : State) : exec (.tankLock ps) s =
    .next (s.consoleRequest .TL ps (tlChecks s ps) fun s => s.takeTL ps) := rfl

/-- The command TU is the console request with the checks of TQ and its own effect. -/
theorem exec_tankUnlock (ps : List Int) (s : State) : exec (.tankUnlock ps) s =
    .next (s.consoleRequest .TU ps (tqChecks s ps) fun s => s.takeTU ps) := rfl

/-- The command TO is the console request with its own checks and effect. -/
theorem exec_tankOriginDeclare (ps : List Int) (s : State) : exec (.tankOriginDeclare ps) s =
    .next (s.consoleRequest .TO ps (toChecks s ps) fun s => s.takeTO ps) := rfl

/-! ## The checks of TO (R15) -/

/-- TO fails its ARGS check exactly outside 3 to 5 parameters. -/
theorem toArgs_iff {ps : List Int} : (decide (ps.length < 3) || decide (5 < ps.length)) = true ↔
    ¬ (3 ≤ ps.length ∧ ps.length ≤ 5) := by
  rw [Bool.or_eq_true, decide_eq_true_iff, decide_eq_true_iff]
  omega

/-- The model's check for values that differ is the library's. -/
theorem noRepeat_iff (l : List Int) : noRepeat l = true ↔ l.Nodup := by
  induction l with
  | nil => simp [noRepeat]
  | cons x l ih =>
    have hmem : (∀ y ∈ l, ¬ y = x) ↔ x ∉ l := ⟨fun h hx => h x hx rfl, fun h y hy e => h (e ▸ hy)⟩
    simp [noRepeat, ih, List.nodup_cons, hmem]

/-- TO fails its RANGE check exactly with a tank, a flag or a code out of its range, or a code given twice. -/
theorem toRange_iff {ps : List Int} : (!inRange 1 24 (par ps 1) || !toValuesGood ps) = true ↔
    ¬ (1 ≤ par ps 1 ∧ par ps 1 ≤ 24 ∧ 0 ≤ par ps 2 ∧ par ps 2 ≤ 1 ∧ 0 ≤ par ps 3 ∧ par ps 3 ≤ 1 ∧
      (∀ c ∈ ps.drop 3, 1 ≤ c ∧ c ≤ 9999) ∧ (ps.drop 3).Nodup) := by
  rw [← Bool.not_and, Bool.not_eq_true', ← Bool.not_eq_true]
  refine not_congr ?_
  simp [toValuesGood, inRange, noRepeat_iff, and_assoc]

/-- TO taken: the tank's origin takes the declared values, a change is written, and the reply is the TQ reply. -/
theorem takeTO_eq (s : State) (ps : List Int) :
    s.takeTO ps = (s.setOrigin (parN ps 1) (declaredOrigin ps (s.tank (parN ps 1)).origin)).reply .TQ
      ((s.setOrigin (parN ps 1) (declaredOrigin ps (s.tank (parN ps 1)).origin)).tqFields (parN ps 1)) := rfl

/-- A change of an origin begins a write of the store, or asks for another after the one in progress (R16). -/
theorem setOrigin_eq (s : State) (n : Nat) (o : OriginEntry) : s.setOrigin n o =
    let set := s.setTank n { s.tank n with origin := o }
    if (s.tank n).origin = o then s
    else if s.tankTable.writing = none then
      set.setTankTable { set.tankTable with writing := some set.tankTable.origins }
    else set.setTankTable { set.tankTable with rewrite := true } := by
  rw [State.setOrigin, State.originChanged]
  cases h : s.tankTable.writing <;> simp [State.setTank, h]

/-- Settles O12: the checks of each verb rung by rung, then its effect. -/
theorem tanksAreLockedAndDeclared : Obligations.TanksAreLockedAndDeclared := by
  unfold Obligations.TanksAreLockedAndDeclared
  refine ⟨fun s ps => ⟨fun htakes => ?lock, fun htakes => ?unlock⟩, fun s ps htakes => ?declare⟩
  case lock =>
    rw [exec_tankLock, tlChecks, tankChecks1, List.cons_append, List.cons_append, List.cons_append, List.cons_append,
      List.nil_append, consoleRequest_cons htakes, consoleRequest_cons htakes, consoleRequest_cons htakes,
      consoleRequest_cons htakes, consoleRequest_cons htakes, consoleRequest_nil htakes]
    refine congrArg Host.Outcome.next ?_
    refine rung decide_eq_true_iff fun _ => ?_
    refine rung not_inRange_iff fun _ => ?_
    refine rung inRestart_iff fun _ => ?_
    refine rung not_tankDefined_iff fun _ => ?_
    exact rung tankClaimed_iff fun _ => rfl
  case unlock =>
    rw [exec_tankUnlock, tqChecks, tankChecks1, consoleRequest_cons htakes, consoleRequest_cons htakes,
      consoleRequest_cons htakes, consoleRequest_cons htakes, consoleRequest_nil htakes]
    refine congrArg Host.Outcome.next ?_
    refine rung decide_eq_true_iff fun _ => ?_
    refine rung not_inRange_iff fun _ => ?_
    refine rung inRestart_iff fun _ => ?_
    refine rung not_tankDefined_iff fun _ => ?_
    rw [State.takeTU]
    simp only [decide_eq_true_iff]
    rfl
  case declare =>
    dsimp only
    rw [exec_tankOriginDeclare, toChecks, consoleRequest_cons htakes, consoleRequest_cons htakes,
      consoleRequest_cons htakes, consoleRequest_cons htakes, consoleRequest_cons htakes, consoleRequest_nil htakes]
    refine congrArg Host.Outcome.next ?_
    refine rung toArgs_iff fun _ => ?_
    refine rung toRange_iff fun _ => ?_
    refine rung inRestart_iff fun _ => ?_
    refine rung not_tankDefined_iff fun _ => ?_
    refine rung tankClaimed_iff fun _ => ?_
    rw [takeTO_eq, setOrigin_eq]
    rfl

end Sys2Proof.Machine

/-! # What a scan of the arbiter changes -/

namespace Sys2Proof.Machine

/-- A state with everything masked that the work of the arbiter can change. -/
def State.outsideArbiter (s : State) : State :=
  { s with
    transfers := ⟨[], [], 0⟩
    movers := Movers.blank 0
    loop := { s.loop with drive := FieldLoop.blank.drive }
    tankTable := { s.tankTable with tanks := State.reset.tankTable.tanks } }

/-- What the work of the arbiter can do: the Transfer Table, the movers, the drive image and the claims of tanks. -/
structure Arbitrated (s t : State) : Prop where
  frame : t.outsideArbiter = s.outsideArbiter
  claim : ∀ n, t.tank n = { s.tank n with claim := (t.tank n).claim }

theorem Arbitrated.refl (s : State) : Arbitrated s s := ⟨rfl, fun _ => rfl⟩

theorem Arbitrated.trans {s t u : State} (h : Arbitrated s t) (g : Arbitrated t u) : Arbitrated s u where
  frame := g.frame.trans h.frame
  claim n := by
    have e := g.claim n
    rw [h.claim n] at e
    exact e

/-- The state after the work of the arbiter, with the parts that it can change named. -/
theorem Arbitrated.eq {s t : State} (h : Arbitrated s t) : t =
    (((s.setTransfers t.transfers).setMovers t.movers).setLoop { s.loop with drive := t.loop.drive }).setTankTable
      { s.tankTable with tanks := t.tankTable.tanks } := by
  have fill (u : State) : ∀ v : State, v = u.outsideArbiter → (((v.setTransfers t.transfers).setMovers t.movers).setLoop
      { v.loop with drive := t.loop.drive }).setTankTable { v.tankTable with tanks := t.tankTable.tanks } =
      (((u.setTransfers t.transfers).setMovers t.movers).setLoop { u.loop with drive := t.loop.drive }).setTankTable
        { u.tankTable with tanks := t.tankTable.tanks } := by
    rintro _ rfl
    rfl
  exact (fill t t.outsideArbiter rfl).symm.trans (fill s t.outsideArbiter h.frame)

section
variable {s t : State} (h : Arbitrated s t)
include h

theorem Arbitrated.foldl {α : Type} {f : State → α → State} (l : List α)
    (hf : ∀ u a, Arbitrated s u → Arbitrated s (f u a)) : Arbitrated s (l.foldl f t) := by
  induction l generalizing t with
  | nil => exact h
  | cons a l ih => exact ih (hf t a h)

theorem Arbitrated.setTransfers (x : TransferTable) : Arbitrated s (t.setTransfers x) :=
  h.trans ⟨rfl, fun _ => rfl⟩

theorem Arbitrated.setMover (m : MoverId) (x : Mover) : Arbitrated s (t.setMover m x) :=
  h.trans (by cases m <;> exact ⟨rfl, fun _ => rfl⟩)

theorem Arbitrated.writePoint (a : Nat) (on : Bool) : Arbitrated s (t.writePoint a on) := by
  refine h.trans ?_
  rw [writePoint_frame]
  exact ⟨rfl, fun _ => rfl⟩

theorem Arbitrated.writePoints (points : List Nat) (on : Bool) : Arbitrated s (t.writePoints points on) :=
  h.foldl points fun _ a g => g.writePoint a on

theorem Arbitrated.setClaim (n : Nat) (c : Option Nat) : Arbitrated s (t.setTank n { t.tank n with claim := c }) := by
  refine h.trans ⟨rfl, fun k => ?_⟩
  rw [tank_setTank]
  split
  next hk =>
    have e : t.tank k = t.tank n := by rw [State.tank, State.tank, hk.1]
    rw [e]
  next => rfl

theorem Arbitrated.claimTanks (tanks : List Nat) (id : Nat) : Arbitrated s (t.claimTanks tanks id) :=
  h.foldl tanks fun _ n g => g.setClaim n (some id)

theorem Arbitrated.enterStop (m : MoverId) (r : StopReason) (o : Option TransferOutcome) :
    Arbitrated s (t.enterStop m r o) := by
  unfold State.enterStop
  split
  · exact h.setMover m _
  · split
    · exact (h.setMover m _).writePoints _ false
    · exact (h.setMover m _).writePoint _ false

theorem Arbitrated.markGaugeDue (m : MoverId) : Arbitrated s (t.markGaugeDue m) := by
  unfold State.markGaugeDue
  split
  · split
    · exact h.setMover m _
    · exact h
  · exact h

theorem Arbitrated.enterLining (m : MoverId) : Arbitrated s (t.enterLining m) := by
  unfold State.enterLining
  split
  · exact h
  next x _ =>
    dsimp only
    generalize (if x.reverify then t.examine x else x) = x'
    split
    · exact ((h.setTransfers _).setMover m _).enterStop m _ _
    · exact (((h.setTransfers _).setMover m _).writePoints _ true).markGaugeDue m

theorem Arbitrated.assign (m : MoverId) (id : Nat) : Arbitrated s (t.assign m id) :=
  ((((h.setTransfers _).setTransfers _).setMover m _).claimTanks _ id).enterLining m

theorem Arbitrated.reserve (id : Nat) (m : MoverId) : Arbitrated s (t.reserve id m) :=
  (h.setTransfers _).enterStop m _ _

theorem Arbitrated.judgePending (id : Nat) : Arbitrated s (t.judgePending id) := by
  unfold State.judgePending
  split
  · exact h
  · split
    · exact h
    · split
      · split
        · exact h.assign _ id
        · exact h
      · split
        · exact h.reserve id _
        · exact h

theorem Arbitrated.scan : Arbitrated s t.scan := h.foldl _ fun _ id g => g.judgePending id

end

end Sys2Proof.Machine

/-! # What the pour plan's operations leave -/

namespace Sys2Proof.Machine

/-- A state with everything masked that holding, blocking and releasing steps can change. -/
def State.outsidePour (s : State) : State :=
  { s with
    pour := State.reset.pour, shore := ShorePort.blank 0, attention := ⟨[], 0⟩
    cond := { s.cond with request := none, prediction := none } }

/-- Holding, blocking and releasing steps changes the plan, the lines of the shore link, the items and the prediction. -/
def Poured (s t : State) : Prop := t.outsidePour = s.outsidePour

theorem Poured.refl (s : State) : Poured s s := rfl

theorem Poured.trans {s t u : State} (h : Poured s t) (g : Poured t u) : Poured s u := Eq.trans g h

section
variable {s t : State} (h : Poured s t)
include h

theorem Poured.foldl {α : Type} {f : State → α → State} (l : List α) (hf : ∀ u a, Poured s u → Poured s (f u a)) :
    Poured s (l.foldl f t) := by
  induction l generalizing t with
  | nil => exact h
  | cons a l ih => exact ih (hf t a h)

theorem Poured.transfers : t.transfers = s.transfers := by have e := congrArg State.transfers h; exact e
theorem Poured.movers : t.movers = s.movers := by have e := congrArg State.movers h; exact e
theorem Poured.loop : t.loop = s.loop := by have e := congrArg State.loop h; exact e
theorem Poured.tankTable : t.tankTable = s.tankTable := by have e := congrArg State.tankTable h; exact e
theorem Poured.faults : t.faults = s.faults := by have e := congrArg State.faults h; exact e

theorem Poured.setPour (x : PourPlan) : Poured s (t.setPour x) := h.trans (by rfl)
theorem Poured.raise (i : Item) : Poured s (t.raise i) := h.trans (by rfl)
theorem Poured.shoreSend (k : ShoreSlot) (l : Line) : Poured s (t.shoreSend k l) := h.trans (by rfl)
theorem Poured.shoreReply (l : Line) : Poured s (t.shoreReply l) := h.trans (by rfl)

theorem Poured.withdrawPrediction : Poured s t.withdrawPrediction := by
  unfold State.withdrawPrediction
  split
  · exact h
  · exact h.trans (by rfl)

theorem Poured.endClearance (l : Line) : Poured s (t.endClearance l) := by
  unfold State.endClearance
  split
  · exact h
  · exact ((h.setPour _).withdrawPrediction).shoreReply l

theorem Poured.endClearanceHold (w : String) : Poured s (t.endClearanceHold w) := by
  unfold State.endClearanceHold
  split
  · exact h
  · exact h.endClearance _

theorem Poured.holdStep (id : Nat) (c : HoldCause) : Poured s (t.holdStep id c) :=
  (((h.setPour _).shoreSend _ _).raise _)

theorem Poured.haltStep (x : PourStep) : Poured s (t.haltStep x) := by
  unfold State.haltStep
  split
  · exact (h.setPour _).holdStep _ _
  · exact h.holdStep _ _
  all_goals exact h

theorem Poured.haltPour : Poured s t.haltPour := (h.foldl _ fun _ x g => g.haltStep x).endClearanceHold _

theorem Poured.blockStep (c : HoldCause) (x : PourStep) : Poured s (t.blockStep c x) := by
  unfold State.blockStep
  split
  · exact ((h.setPour _).setPour _).shoreSend _ _
  · exact h.holdStep _ _
  all_goals exact h

theorem Poured.block (c : HoldCause) : Poured s (t.block c) :=
  (h.foldl _ fun _ x g => g.blockStep c x).endClearanceHold _

theorem Poured.releaseStep (x : PourStep) : Poured s (t.releaseStep x) := by
  unfold State.releaseStep
  split
  · exact (h.setPour _).shoreSend _ _
  · exact h

theorem Poured.judgeRelease : Poured s t.judgeRelease := by
  unfold State.judgeRelease
  split
  · exact h.foldl _ fun _ x g => g.releaseStep x
  · exact h

theorem Poured.judgeReady (id : Nat) : Poured s (t.judgeReady id) := by
  unfold State.judgeReady
  split
  · exact h
  · split
    · exact h.setPour _
    · exact h

end

end Sys2Proof.Machine

/-! # Admission with an id: XA (O13) -/

namespace Sys2Proof.Machine

/-! ## The id of an admission (R42) -/

section
variable {s : State}

/-- The numbers that a search for a free id goes through are the 255 ids. -/
theorem ids_after_counter (c n : Nat) (h1 : 1 ≤ n) (h255 : n ≤ 255) :
    ∃ k < 255, (c + k) % 255 + 1 = n := ⟨(n + 254 - c % 255) % 255, Nat.mod_lt _ (by decide), by omega⟩

/-- While the table holds fewer than 255 records, some id is free. -/
theorem free_id_exists (h : s.transfers.records.length < 255) : ∃ n, 1 ≤ n ∧ n ≤ 255 ∧ (s.transfer? n).isNone = true := by
  by_contra hall
  push Not at hall
  have hsub : List.range' 1 255 ⊆ s.transfers.records.map Transfer.id := by
    intro n hn
    obtain ⟨h1, h2⟩ := List.mem_range'_1.1 hn
    have hn := hall n h1 (by omega)
    rw [ne_eq, Option.isNone_iff_eq_none] at hn
    obtain ⟨t, ht⟩ := Option.ne_none_iff_exists'.1 hn
    exact List.mem_map.2 ⟨t, List.mem_of_find?_eq_some ht, transfer_id s ht⟩
  have hle := ((List.nodup_range' (s := 1) (n := 255)).subperm hsub).length_le
  rw [List.length_range', List.length_map] at hle
  omega

/-- The next id is the first free one after the counter. -/
theorem nextId_spec (h : s.transfers.records.length < 255) : ∃ k < 255, s.nextId = (s.transfers.counter + k) % 255 + 1 ∧
    (s.transfer? s.nextId).isNone = true ∧
    ∀ j < k, (s.transfer? ((s.transfers.counter + j) % 255 + 1)).isSome = true := by
  have e : s.nextId = (((List.range 255).find? fun k =>
      (s.transfer? ((s.transfers.counter + k) % 255 + 1)).isNone).map fun k =>
        (s.transfers.counter + k) % 255 + 1).getD 0 := by
    rw [State.nextId, List.find?_map]
    rfl
  cases hf : (List.range 255).find? fun k => (s.transfer? ((s.transfers.counter + k) % 255 + 1)).isNone with
  | none =>
    obtain ⟨n, h1, h255, hn⟩ := free_id_exists h
    obtain ⟨k, hk, rfl⟩ := ids_after_counter s.transfers.counter n h1 h255
    exact absurd hn (List.find?_eq_none.1 hf k (List.mem_range.2 hk))
  | some k =>
    rw [hf] at e
    obtain ⟨hp, hk, hmin⟩ := List.find?_range_eq_some.1 hf
    have e : s.nextId = (s.transfers.counter + k) % 255 + 1 := e
    refine ⟨k, List.mem_range.1 hk, e, by rw [e]; exact hp, fun j hj => ?_⟩
    simpa using hmin j hj

theorem nextId_range (h : s.transfers.records.length < 255) : 1 ≤ s.nextId ∧ s.nextId ≤ 255 := by
  obtain ⟨k, _, e, _⟩ := nextId_spec h
  omega

/-- In an empty table the next id is the one after the counter. -/
theorem nextId_empty (hc : s.transfers.counter = 0) (hr : s.transfers.records = []) : s.nextId = 1 := by
  rw [State.nextId, hc, List.range_succ_eq_map]
  simp [State.transfer?, hr]

end

/-! ## What a halt and a reset leave of the counter -/

theorem noticeFreed_transfers (s : State) (id : Nat) (o : TransferOutcome) : (s.noticeFreed id o).transfers = s.transfers := rfl

theorem foldl_transfers {α : Type} (f : State → α → State) (hf : ∀ s a, (f s a).transfers = s.transfers) (l : List α)
    (s : State) : (l.foldl f s).transfers = s.transfers := by
  induction l generalizing s with
  | nil => rfl
  | cons a l ih => exact (ih (f s a)).trans (hf s a)

theorem writePoint_transfers (s : State) (a : Nat) (on : Bool) : (s.writePoint a on).transfers = s.transfers := by
  rw [writePoint_frame]
  rfl

theorem setMover_transfers (s : State) (m : MoverId) (x : Mover) : (s.setMover m x).transfers = s.transfers := by
  cases m <;> rfl

/-- The halt empties the table and keeps its counter (R42, R65). -/
theorem haltTransfers_transfers (s : State) : s.haltTransfers.transfers = ⟨[], [], s.transfers.counter⟩ := by
  have hrelease : ∀ u : State, ((numbers 24).foldl (fun s t => if (s.tank t).claim.isSome then s.releaseTank t else s)
      u).transfers = u.transfers := foldl_transfers _ (fun s n => by
    split
    · exact writePoint_transfers _ _ _
    · rfl) _
  have hslots : ∀ u : State, (allMovers.foldl State.haltSlots u).transfers = u.transfers :=
    foldl_transfers _ (fun s m => setMover_transfers s m _) _
  rw [State.haltTransfers]
  dsimp only
  rw [foldl_transfers _ (fun s id => noticeFreed_transfers s id .halted), transfers_setTransfers, hslots, hrelease]

theorem setMoverCause_transfers (s : State) (m : MoverId) (c : Option MoverCause) :
    (s.setMoverCause m c).transfers = s.transfers := by
  cases m <;> rfl

theorem haltMover_transfers (s : State) (m : MoverId) : (s.haltMover m).transfers = s.transfers := by
  unfold State.haltMover
  dsimp only
  split
  · exact setMover_transfers _ _ _
  · exact (setMoverCause_transfers _ _ _).trans (setMover_transfers _ _ _)
  · exact (setMoverCause_transfers _ _ _).trans (setMover_transfers _ _ _)

theorem haltStop_transfers (s : State) : s.haltStop.transfers = ⟨[], [], s.transfers.counter⟩ := by
  have hdrive : ∀ u : State, u.writeAllOff.transfers = u.transfers := fun u =>
    foldl_transfers _ (fun s _ => writePoint_transfers s _ _) _ u
  rw [State.haltStop]
  dsimp only
  rw [transfers_setFaults, ((Poured.refl _).haltPour.raise .halt).transfers, foldl_transfers _ haltMover_transfers,
    haltTransfers_transfers, hdrive, transfers_setFaults]

/-! ## The verb XA (R45) -/

/-- The command XA is the console request with its own checks and effect. -/
theorem exec_transferAdmit (ps : List Int) (s : State) : exec (.transferAdmit ps) s =
    .next (s.consoleRequest .XA ps (xaChecks s ps) fun s => s.takeXA ps) := rfl

/-- XA fails its ARGS check exactly outside 5, 7, 9 and 11 parameters. -/
theorem xaArgs_iff {ps : List Int} : (!([5, 7, 9, 11].any fun n => decide (ps.length = n))) = true ↔
    ¬ (ps.length = 5 ∨ ps.length = 7 ∨ ps.length = 9 ∨ ps.length = 11) := by
  simp

/-- A list of pairs is good exactly with each in its ranges and within its tank's capacity, and no tank named twice. -/
theorem pairsGood_iff {p : Option Memory} {qs : List (Int × Int)} : pairsGood p qs = true ↔
    (qs.map Prod.fst).Nodup ∧ ∀ q ∈ qs, 1 ≤ q.1 ∧ q.1 ≤ 24 ∧ 0 ≤ q.2 ∧ q.2 ≤ 65535 ∧
      (tankDefined p q.1.toNat = true → q.2 ≤ tankCapacity p q.1.toNat) := by
  rw [pairsGood, Bool.and_eq_true, noRepeat_iff, and_comm, List.all_eq_true]
  refine and_congr_right fun _ => forall₂_congr fun q _ => ?_
  simp [pairGood, inRange, and_assoc, imp_iff_not_or]

/-- XA fails its RANGE check exactly with a selection out of its range, a STRIP that fills, or pairs that are not good. -/
theorem xaRange_iff {p : Option Memory} {ps : List Int} {qs : List (Int × Int)} :
    (!(inRange 0 1 (par ps 1) && inRange 0 1 (par ps 2) && inRange 0 1 (par ps 3)) ||
      (decide (par ps 1 = 1) && decide (par ps 2 = 1)) || !pairsGood p qs) = true ↔
    ¬ (0 ≤ par ps 1 ∧ par ps 1 ≤ 1 ∧ 0 ≤ par ps 2 ∧ par ps 2 ≤ 1 ∧ 0 ≤ par ps 3 ∧ par ps 3 ≤ 1 ∧
      ¬ (par ps 1 = 1 ∧ par ps 2 = 1) ∧ (qs.map Prod.fst).Nodup ∧
      ∀ q ∈ qs, 1 ≤ q.1 ∧ q.1 ≤ 24 ∧ 0 ≤ q.2 ∧ q.2 ≤ 65535 ∧
        (tankDefined p q.1.toNat = true → q.2 ≤ tankCapacity p q.1.toNat)) := by
  rw [← pairsGood_iff]
  by_cases hgood : pairsGood p qs = true
  · simp [hgood, inRange, Bool.or_eq_true, Bool.and_eq_true]
    omega
  · simp [hgood]

/-- The MODE check of an admission fails outside BERTH and PASSAGE (R44). -/
theorem not_modeAdmits_iff {s : State} : (!s.modeAdmits) = true ↔ ¬ (s.modes.mode = .berth ∨ s.modes.mode = .passage) := by
  simp [State.modeAdmits]

/-- The HALT check of an admission fails outside fault state NORMAL (R44). -/
theorem not_isNormal_iff {s : State} : (!s.isNormal) = true ↔ s.faults.state ≠ .normal := by
  simp [State.isNormal]

/-- The NONE check of an admission fails when a tank named is not defined. -/
theorem not_pairsDefined_iff {p : Option Memory} {qs : List (Int × Int)} : (!pairsDefined p qs) = true ↔
    ∃ q ∈ qs, tankDefined p q.1.toNat = false := by
  simp [pairsDefined]

/-- The FULL check of an admission fails with 16 records in use. -/
theorem tableFull_iff {s : State} : s.tableFull = true ↔ 16 ≤ s.transfers.records.length :=
  decide_eq_true_iff

/-- Settles O13: the scan's frame, the ladder of XA, the search for a free id, and what leaves the counter or clears it. -/
theorem transferIsAdmittedWithItsId : Obligations.TransferIsAdmittedWithItsId := by
  unfold Obligations.TransferIsAdmittedWithItsId
  refine ⟨fun s => ?scan, fun s ps htakes => ?verb, fun s a hroom => ?id, fun s a => ⟨rfl, rfl⟩, fun s => ?halt,
    fun s => rfl, fun s hc hr => nextId_empty hc hr⟩
  case scan => exact ⟨(Arbitrated.refl s).scan.eq, (Arbitrated.refl s).scan.claim⟩
  case verb =>
    rw [exec_transferAdmit, xaChecks]
    simp only [consoleRequest_cons htakes, consoleRequest_nil htakes]
    refine congrArg Host.Outcome.next ?_
    refine rung xaArgs_iff fun _ => ?_
    refine rung xaRange_iff fun _ => ?_
    refine rung not_modeAdmits_iff fun _ => ?_
    refine rung not_isNormal_iff fun _ => ?_
    refine rung not_pairsDefined_iff fun _ => ?_
    exact rung tableFull_iff fun _ => rfl
  case id =>
    have hroom : s.transfers.records.length < 255 := by omega
    obtain ⟨k, hk, e, hfree, hused⟩ := nextId_spec hroom
    exact ⟨(nextId_range hroom).1, (nextId_range hroom).2, hfree, ⟨k, hk, e, hused⟩, rfl, rfl, rfl⟩
  case halt =>
    rw [haltStop_transfers]
    exact ⟨rfl, rfl⟩

end Sys2Proof.Machine

/-! # The transfer change XC (O14) -/

namespace Sys2Proof.Machine

/-! ## The entries still to be worked -/

/-- Whatever the free value, the entry that it picks among those still to be worked is not done (log 35). -/
theorem openPositions_pick {es : List Entry} (h : ∃ e ∈ es, e.done = false) (pick : Nat) :
    ∃ e, es[((openPositions es)[pick % (openPositions es).length]?).getD 1 - 1]? = some e ∧ e.done = false := by
  obtain ⟨e, he, hd⟩ := h
  obtain ⟨i, hi, rfl⟩ := List.mem_iff_getElem.1 he
  have hmem : i + 1 ∈ openPositions es := by
    refine List.mem_filter.2 ⟨List.mem_map.2 ⟨i, List.mem_range.2 hi, rfl⟩, ?_⟩
    simp [List.getElem?_eq_getElem hi, hd]
  have hlt : pick % (openPositions es).length < (openPositions es).length :=
    Nat.mod_lt _ (List.length_pos_of_mem hmem)
  have hpick := List.getElem_mem hlt
  generalize (openPositions es)[pick % (openPositions es).length] = k at hpick
  rw [List.getElem?_eq_getElem hlt, Option.getD_some]
  have hopen := of_decide_eq_true (List.mem_filter.1 (List.getElem_mem hlt)).2
  exact Option.map_eq_some_iff.1 hopen

/-! ## The checks (R58 to R60) -/

/-- The command XC is the console request with its own checks and effect. -/
theorem exec_transferChange (ps : List Int) (s : State) : exec (.transferChange ps) s =
    .next (s.consoleRequest .XC ps (xcChecks s ps) fun s => s.takeXC ps) := rfl

section
variable {s : State} {ps : List Int}

/-- XC fails its ARGS check exactly outside 2 and 3 parameters. -/
theorem xcArgs_iff : (!(decide (ps.length = 2) || decide (ps.length = 3))) = true ↔ ¬ (ps.length = 2 ∨ ps.length = 3) := by
  simp

/-- XC fails its RANGE check exactly with an id, a tank or a target out of its range. -/
theorem xcRange_iff : (!inRange 1 255 (par ps 1) || !inRange 1 24 (par ps 2) ||
      (decide (ps.length = 3) && !pairGood s.parts (par ps 2, par ps 3))) = true ↔
    ¬ (1 ≤ par ps 1 ∧ par ps 1 ≤ 255 ∧ 1 ≤ par ps 2 ∧ par ps 2 ≤ 24 ∧
      (ps.length = 3 → 0 ≤ par ps 3 ∧ par ps 3 ≤ 65535 ∧
        (tankDefined s.parts (parN ps 2) = true → par ps 3 ≤ tankCapacity s.parts (parN ps 2)))) := by
  by_cases hlen : ps.length = 3
  · by_cases hdef : tankDefined s.parts (par ps 2).toNat = true
    · simp [hlen, pairGood, inRange, parN, hdef]
      omega
    · simp [hlen, pairGood, inRange, parN, hdef]
      omega
  · simp [hlen, inRange]
    omega

/-- The NONE check, once the record is found. -/
theorem xcNone_iff {t : Transfer} (h : s.transfer? (parN ps 1) = some t) :
    (s.noTransfer ps || !tankDefined s.parts (parN ps 2)) = true ↔ tankDefined s.parts (parN ps 2) = false := by
  simp [State.noTransfer, h]

/-! ## The record after the change -/

/-- The record with the id of a change, after it. -/
theorem transfer_updTransfer_self {t : Transfer} {id : Nat} (h : s.transfer? id = some t) (f : Transfer → Transfer)
    (hf : ∀ x, x.id = t.id → (f x).id = t.id) : (s.updTransfer t.id f).transfer? t.id = some (f t) := by
  rw [transfer_updTransfer s t.id t.id f hf, transfer_id s h, h]
  simp [transfer_id s h]

theorem transfer_releaseTank (u : State) (n id : Nat) : (u.releaseTank n).transfer? id = u.transfer? id := by
  rw [State.releaseTank, State.transfer?, writePoint_transfers]
  rfl

variable {t : Transfer} (h : s.transfer? (parN ps 1) = some t)
include h

/-- XC taken, by the record after the change. -/
theorem takeXC_eq {x : Transfer} (hx : (s.xcChange t ps).transfer? t.id = some x) : s.takeXC ps =
    if s.xcScans t ps then ((s.xcChange t ps).reply .XQ ((s.xcChange t ps).xqFields x)).scan
    else (s.xcChange t ps).reply .XQ ((s.xcChange t ps).xqFields x) := by
  rw [State.takeXC]
  simp only [h, hx]

/-- XC of a target: the entry takes it (R58). -/
theorem takeXC_target (hlen : ps.length = 3) {i : Nat} (hi : t.entryOf (parN ps 2) = some i) : s.takeXC ps =
    let u := s.updTransfer t.id fun x => x.setTarget i (parN ps 3)
    let v := u.reply .XQ (u.xqFields (t.setTarget i (parN ps 3)))
    if (s.moverOf t.id).isNone then v.scan else v := by
  have e : s.xcChange t ps = s.updTransfer t.id fun x => x.setTarget i (parN ps 3) := by simp [State.xcChange, hlen, hi]
  rw [takeXC_eq h (by rw [e]; exact transfer_updTransfer_self h _ fun _ hx => hx), e]
  simp [State.xcScans, hlen]

/-- XC of a further tank: it is appended, and claimed for an ACTIVE transfer (R59). -/
theorem takeXC_append (hlen : ps.length = 3) (hi : t.entryOf (parN ps 2) = none) : s.takeXC ps =
    let u := s.updTransfer t.id fun x => x.append (parN ps 2) (parN ps 3)
    let u := if (s.activeOn t.id).isSome then u.setTank (parN ps 2) { u.tank (parN ps 2) with claim := some t.id } else u
    let v := u.reply .XQ (u.xqFields { t with entries := t.entries ++ [⟨parN ps 2, parN ps 3, false⟩] })
    if (s.moverOf t.id).isNone then v.scan else v := by
  have e : s.xcChange t ps =
      let u := s.updTransfer t.id fun x => x.append (parN ps 2) (parN ps 3)
      if (s.activeOn t.id).isSome then u.setTank (parN ps 2) { u.tank (parN ps 2) with claim := some t.id } else u := by
    simp [State.xcChange, hlen, hi, State.claimTanks]
  have hx := transfer_updTransfer_self h (fun x => x.append (parN ps 2) (parN ps 3)) fun _ hx => hx
  rw [takeXC_eq h (x := t.append (parN ps 2) (parN ps 3)) (by rw [e]; dsimp only; split <;> exact hx), e]
  simp [State.xcScans, hlen, Transfer.append]

/-- XC of a tank alone: its entry is removed, and the claim released for an ACTIVE transfer (R60). -/
theorem takeXC_remove (hlen : ps.length = 2) {i : Nat} (hi : t.entryOf (parN ps 2) = some i) : s.takeXC ps =
    let pick := Config.freeActive s.freeCount
    let u := s.updTransfer t.id fun x => x.removeEntry i pick
    let u := if i = t.active ∧ t.assigned = true then u.setFreeCount (s.freeCount + 1) else u
    let u := if (s.activeOn t.id).isSome then u.releaseTank (parN ps 2) else u
    let v := u.reply .XQ (u.xqFields (t.removeEntry i pick))
    if (s.moverOf t.id).isNone = true ∨ (s.activeOn t.id).isSome = true then v.scan else v := by
  have e : s.xcChange t ps = s.xcRemove t i (parN ps 2) := by simp [State.xcChange, hlen, hi]
  have hx := transfer_updTransfer_self h (fun x => x.removeEntry i (Config.freeActive s.freeCount)) fun _ hx => hx
  have hfound : (s.xcRemove t i (parN ps 2)).transfer? t.id = some (t.removeEntry i (Config.freeActive s.freeCount)) := by
    unfold State.xcRemove
    dsimp only
    by_cases ha : (s.activeOn t.id).isSome = true
    · rw [if_pos ha, transfer_releaseTank]
      split <;> exact hx
    · rw [if_neg ha]
      split <;> exact hx
  rw [takeXC_eq h (by rw [e]; exact hfound), e, State.xcRemove]
  simp [State.xcScans, hlen]

end

/-- Settles O14: the ladder to the record, then the further checks and the effect of the change of a target, of the append
and of the removal. -/
theorem transferIsChanged : Obligations.TransferIsChanged := by
  unfold Obligations.TransferIsChanged
  refine ⟨fun es pick h => openPositions_pick h pick, fun s ps htakes => ?_⟩
  dsimp only
  rw [exec_transferChange, xcChecks]
  simp only [List.cons_append, List.nil_append, consoleRequest_cons htakes]
  refine congrArg Host.Outcome.next ?_
  refine rung xcArgs_iff fun hargs => ?_
  refine rung xcRange_iff fun _ => ?_
  refine rung inRestart_iff fun _ => ?_
  cases ht : s.transfer? (parN ps 1) with
  | none => simp [State.noTransfer, ht]
  | some t =>
    refine rung (xcNone_iff ht) fun _ => ?_
    simp only [consoleRequest_cons htakes]
    refine rung (by rw [Bool.or_eq_true]) fun _ => ?_
    by_cases hlen : ps.length = 3
    · cases hi : t.entryOf (parN ps 2) with
      | some i =>
        simp only [xcFurther, hlen, hi, decide_true, consoleRequest_cons htakes, consoleRequest_nil htakes]
        exact rung Iff.rfl fun _ => takeXC_target ht hlen hi
      | none =>
        simp only [xcFurther, hlen, hi, decide_true, consoleRequest_cons htakes, consoleRequest_nil htakes]
        refine rung (by rw [Bool.and_eq_true, decide_eq_true_iff]) fun _ => ?_
        refine rung (by rw [Bool.and_eq_true, decide_eq_true_iff, decide_eq_true_iff]) fun _ => ?_
        exact rung decide_eq_true_iff fun _ => takeXC_append ht hlen hi
    · have htwo : ps.length = 2 := by omega
      cases hi : t.entryOf (parN ps 2) with
      | some i =>
        simp only [xcFurther, hlen, hi, decide_false, consoleRequest_cons htakes, consoleRequest_nil htakes]
        refine rung (by simp [or_assoc]) fun _ => ?_
        rw [takeXC_remove ht htwo hi]
        rfl
      | none => simp [xcFurther, hlen, hi, consoleRequest_cons htakes]

end Sys2Proof.Machine

/-! # The transfer retirement XR (O15) -/

namespace Sys2Proof.Machine

/-- The command XR is the console request with its own checks and effect. -/
theorem exec_transferRetire (ps : List Int) (s : State) : exec (.transferRetire ps) s =
    .next (s.consoleRequest .XR ps (xrChecks s ps) fun s => s.takeXR ps) := rfl

section
variable {s : State} {id : Nat} {t : Transfer} {m : MoverId}

theorem retireAnswer_active (h : s.activeOn id = some m) :
    s.retireAnswer id = if (s.mover m).phase.ending then .ending else .retiring := by
  rw [State.retireAnswer]
  simp only [h]

theorem retireAnswer_inactive (h : s.activeOn id = none) : s.retireAnswer id = .retired := by
  rw [State.retireAnswer]
  simp only [h]

/-- A retired ACTIVE transfer has its mover stop (R61). -/
theorem retire_active (h : s.activeOn id = some m) (he : ¬ (s.mover m).phase.ending = true) :
    s.retire id = s.enterStop m .ended (some .retired) := by
  rw [State.retire]
  simp only [h, he, Bool.false_eq_true, if_false]

/-- A retired STACKED transfer leaves the stack and is freed at once (R61). -/
theorem retire_stacked (h : s.activeOn id = none) (hs : s.stackedOn id = some m) :
    s.retire id = (s.unstack m id).freeAndTell id .retired := by
  rw [State.retire]
  simp only [h, hs]

/-- A retired PENDING transfer is freed at once (R61). -/
theorem retire_pending (h : s.activeOn id = none) (hs : s.stackedOn id = none) (ht : s.transfer? id = some t) :
    s.retire id = s.freeAndTell id .retired := by
  rw [State.retire]
  simp only [h, hs, ht, Option.isSome_some, if_true]

/-- The last check of XR and its effect, for a transfer in use that is not for a step: by its place (R61). -/
theorem xr_by_place {ps : List Int} (ht : s.transfer? (parN ps 1) = some t) (hstep : s.sourceIsStep (parN ps 1) = false) :
    (if (s.sourceIsStep (parN ps 1) || decide (s.retireAnswer (parN ps 1) = .ending)) = true then s.refuse .XR .state
      else s.takeXR ps) =
    match s.activeOn (parN ps 1) with
    | some m =>
      if (s.mover m).phase.ending = true then s.refuse .XR .state
      else (s.enterStop m .ended (some .retired)).reply .XR [fnat (parN ps 1), .word "RETIRING"]
    | none =>
      match s.stackedOn (parN ps 1) with
      | some m => ((s.unstack m (parN ps 1)).freeAndTell (parN ps 1) .retired).reply .XR [fnat (parN ps 1), .word "RETIRED"]
      | none => (s.freeAndTell (parN ps 1) .retired).reply .XR [fnat (parN ps 1), .word "RETIRED"] := by
  rw [hstep, Bool.false_or, State.takeXR]
  cases ha : s.activeOn (parN ps 1) with
  | some m =>
    rw [retireAnswer_active ha]
    by_cases he : (s.mover m).phase.ending = true
    · simp [he]
    · simp [he, retire_active ha he, RetireAnswer.word]
  | none =>
    rw [retireAnswer_inactive ha]
    cases hs : s.stackedOn (parN ps 1) with
    | some m => simp [retire_stacked ha hs, RetireAnswer.word]
    | none => simp [retire_pending ha hs ht, RetireAnswer.word]

end

/-- Settles O15: the ladder to the record, then the retirement by the place of the transfer. -/
theorem transferIsRetired : Obligations.TransferIsRetired := by
  unfold Obligations.TransferIsRetired
  intro s ps htakes
  dsimp only
  rw [exec_transferRetire, xrChecks]
  simp only [consoleRequest_cons htakes, consoleRequest_nil htakes]
  refine congrArg Host.Outcome.next ?_
  refine rung decide_eq_true_iff fun _ => ?_
  refine rung not_inRange_iff fun _ => ?_
  refine rung inRestart_iff fun _ => ?_
  cases ht : s.transfer? (parN ps 1) with
  | none => simp [State.noTransfer, ht]
  | some t =>
    simp only [State.noTransfer, ht, Option.isNone_some, Bool.false_eq_true, if_false]
    have hplace (hstep : s.sourceIsStep (parN ps 1) = false) := xr_by_place ht hstep
    rw [State.sourceIsStep] at hplace ⊢
    cases hsource : t.source with
    | step k => simp [ht, hsource]
    | console | recipe | stripOf =>
      rw [hplace (by simp [ht, hsource])]
      cases s.activeOn (parN ps 1) <;> rfl

end Sys2Proof.Machine

/-! # The arbiter (O17) -/

namespace Sys2Proof.Machine

section
variable (s : State)

/-! ## Free movers and victims (R52, R54) -/

/-- A mover is free (R70). -/
theorem free_iff (x : Mover) : x.free = true ↔ x.phase = .idle ∧ x.run = none ∧ x.stack = [] ∧ x.popping = false := by
  simp [Mover.free, and_assoc]

/-- A PUMP transfer is given M1 before M2. -/
theorem freeMover_pump : s.freeMover .pump =
    if (s.mover .m1).free then some .m1 else if (s.mover .m2).free then some .m2 else none := by
  cases h1 : (s.mover .m1).free <;> cases h2 : (s.mover .m2).free <;> simp [State.freeMover, allMovers, MoverId.kind, h1, h2]

/-- A STRIP transfer is given M3. -/
theorem freeMover_strip : s.freeMover .strip = if (s.mover .m3).free then some .m3 else none := by
  cases h3 : (s.mover .m3).free <;> simp [State.freeMover, allMovers, MoverId.kind, h3]

/-- The movers that a transfer may preempt are of its kind. -/
theorem candidate_kind {t : Transfer} {m : MoverId} (h : m.kind ≠ t.kind) : s.candidate t m = false := by
  simp [State.candidate, h]

/-- A mover of its kind that a transfer may preempt (R54). -/
theorem candidate_iff {t : Transfer} {m : MoverId} (h : m.kind = t.kind) : s.candidate t m = true ↔
    (s.mover m).phase = .running ∧ (∀ x ∈ s.transfers.records, x.reservation ≠ some m) ∧
      ∃ r ∈ ((s.mover m).run.bind s.transfer?).toList, r.cls.rank < t.cls.rank ∧
        ∀ k ∈ t.remaining, ((s.tank k).claim = none ∨ (s.tank k).claim = some r.id) ∧ (s.tank k).lock = .free := by
  rw [← runTransfer_eq_bind]
  cases hr : s.runTransfer m <;> simp [State.candidate, State.reserved, h, hr, and_assoc]

/-- The rank of the transfer in a mover's run slot, 0 without one. -/
def State.slotRank (m : MoverId) : Nat := (((s.mover m).run.bind s.transfer?).map fun r => r.cls.rank).getD 0

theorem rankOf_eq (id : Nat) : s.rankOf id = ((s.transfer? id).map fun r => r.cls.rank).getD 0 := by
  rw [State.rankOf]
  cases s.transfer? id <;> rfl

/-- The victim of two movers, by the ranks of their transfers and the times of their entry into RUNNING (R54). -/
theorem worse_eq (a b : MoverId) : s.worse a b =
    if s.slotRank a < s.slotRank b then a
    else if s.slotRank b < s.slotRank a then b
    else if (s.mover b).timer < (s.mover a).timer then a
    else b := by
  unfold State.worse State.slotRank
  cases (s.mover a).run <;> cases (s.mover b).run <;> simp only [rankOf_eq, Option.bind_none, Option.bind_some] <;> rfl

/-- Of the two pumps, M1 is the victim only with the lower class, or in the same class with the later entry (R54). -/
theorem worse_pumps : s.worse .m1 .m2 =
    if s.slotRank .m1 < s.slotRank .m2 ∨
      (s.slotRank .m1 = s.slotRank .m2 ∧ (s.mover .m2).timer < (s.mover .m1).timer) then .m1 else .m2 := by
  rw [worse_eq]
  generalize s.slotRank .m1 = a
  generalize s.slotRank .m2 = b
  rcases Nat.lt_trichotomy a b with h | h | h
  · simp [h]
  · simp [h]
  · simp [h, Nat.not_lt_of_gt h, Nat.ne_of_gt h]

/-- The victim of a PUMP transfer. -/
theorem victim_pump {t : Transfer} (h : t.kind = .pump) : s.victim t =
    if s.candidate t .m1 = true ∧ (¬ s.candidate t .m2 = true ∨ s.slotRank .m1 < s.slotRank .m2 ∨
      (s.slotRank .m1 = s.slotRank .m2 ∧ (s.mover .m2).timer < (s.mover .m1).timer)) then some .m1
    else if s.candidate t .m2 = true then some .m2
    else none := by
  have h3 : s.candidate t .m3 = false := candidate_kind s (by rw [h]; decide)
  cases h1 : s.candidate t .m1 <;> cases h2 : s.candidate t .m2 <;>
    simp only [State.victim, allMovers, List.filter_cons, List.filter_nil, h1, h2, h3, if_true, if_false,
      Bool.false_eq_true, List.foldl_cons, List.foldl_nil, false_and, true_and, not_false_eq_true, true_or, not_true_eq_false,
      false_or]
  rw [worse_pumps]
  split <;> rfl

/-- The victim of a STRIP transfer. -/
theorem victim_strip {t : Transfer} (h : t.kind = .strip) : s.victim t =
    if s.candidate t .m3 = true then some .m3 else none := by
  have h1 : s.candidate t .m1 = false := candidate_kind s (by rw [h]; decide)
  have h2 : s.candidate t .m2 = false := candidate_kind s (by rw [h]; decide)
  cases h3 : s.candidate t .m3 <;> simp [State.victim, allMovers, h1, h2, h3]

/-- A transfer can take a mover when its remaining tanks are unclaimed and FREE (R52). -/
theorem available_iff (l : List Nat) : l.all s.tankAvailable = true ↔
    ∀ k ∈ l, (s.tank k).claim = none ∧ (s.tank k).lock = .free := by
  simp [State.tankAvailable]

/-! ## One transfer judged (R51) -/

theorem judgePending_none {id : Nat} (h : s.transfer? id = none) : s.judgePending id = s := by
  rw [State.judgePending]
  simp only [h]

/-- A pending transfer without a reservation is given a free mover, or reserves a victim. -/
theorem judgePending_some {id : Nat} {t : Transfer} (h : s.transfer? id = some t) : s.judgePending id =
    if t.reservation ≠ none then s
    else
      match s.freeMover t.kind with
      | some m => if ∀ k ∈ t.remaining, (s.tank k).claim = none ∧ (s.tank k).lock = .free then s.assign m id else s
      | none => ((s.victim t).map (s.reserve id)).getD s := by
  rw [State.judgePending]
  simp only [h, available_iff, Option.isSome_iff_ne_none]
  split
  · rfl
  · cases s.freeMover t.kind with
    | some m => rfl
    | none => cases s.victim t <;> rfl

/-! ## Assignment (R53) -/

/-- Out of the queue and into the run slot, the remaining tanks claimed, before LINING is entered. -/
def State.assigned (m : MoverId) (id : Nat) : State :=
  ((s.dequeue id).updTransfer id fun t => { t with reservation := none, assigned := true }).takeSlot m id

theorem takeSlot_eq {id : Nat} {t : Transfer} (h : s.transfer? id = some t) (m : MoverId) : s.takeSlot m id =
    (s.setMover m { s.mover m with run := some id, popping := false }).claimTanks t.remaining id := by
  rw [State.takeSlot]
  simp only [h]

/-- What a mover's run slot and the claims become when it takes a transfer (R53, R84). -/
theorem takeSlot_facts {id : Nat} {t : Transfer} (h : s.transfer? id = some t) (hpos : ∀ k ∈ t.remaining, 1 ≤ k)
    (m : MoverId) :
    s.takeSlot m id = (s.setMovers (s.takeSlot m id).movers).setTankTable
      { s.tankTable with tanks := (s.takeSlot m id).tankTable.tanks } ∧
    (∀ k, (s.takeSlot m id).mover k =
      if k = m then { s.mover m with run := some id, popping := false } else s.mover k) ∧
    ∀ n, 1 ≤ n → n ≤ 24 → (s.takeSlot m id).tank n =
      { s.tank n with claim := if n ∈ t.remaining then some id else (s.tank n).claim } := by
  rw [takeSlot_eq s h]
  have hframe := claimTanks_frame (s.setMover m { s.mover m with run := some id, popping := false }) t.remaining id
  refine ⟨?_, fun k => ?_, fun n h1 h24 => ?_⟩
  · rw [hframe]
    cases m <;> rfl
  · rw [hframe, ← mover_setMover]
    cases k <;> rfl
  · rw [claimTanks_tank _ _ _ hpos n h1 h24, tank_setMover]

end

/-- Settles O17: each operation of the arbiter by its lemma. -/
theorem theArbiterAssignsAndReserves : Obligations.TheArbiterAssignsAndReserves := by
  unfold Obligations.TheArbiterAssignsAndReserves
  refine ⟨fun s => rfl, fun s id h => judgePending_none s h, fun s id t h => ?judge, fun s m id t h hpos => ?assign,
    fun s m id => rfl, fun s id => ?release, fun s id hsorted => ⟨?new, ?returned⟩⟩
  case judge =>
    dsimp only
    rw [judgePending_some s h]
    by_cases hres : t.reservation = none
    · rw [if_neg (not_not.2 hres), if_neg (not_not.2 hres)]
      cases hk : t.kind with
      | pump =>
        simp only [freeMover_pump, victim_pump s hk, ← free_iff, ← candidate_iff s (t := t) (m := .m1) hk.symm,
          ← candidate_iff s (t := t) (m := .m2) hk.symm]
        by_cases h1 : (s.mover .m1).free = true
        · rw [if_pos h1, if_pos h1]
        rw [if_neg h1, if_neg h1]
        by_cases h2 : (s.mover .m2).free = true
        · rw [if_pos h2, if_pos h2]
        rw [if_neg h2, if_neg h2]
        dsimp only
        rw [apply_ite (Option.map (s.reserve id)), apply_ite (Option.map (s.reserve id)),
          apply_ite (fun u : Option State => u.getD s), apply_ite (fun u : Option State => u.getD s)]
        rfl
      | strip =>
        simp only [freeMover_strip, victim_strip s hk, ← free_iff, ← candidate_iff s (t := t) (m := .m3) hk.symm]
        by_cases h3 : (s.mover .m3).free = true
        · rw [if_pos h3, if_pos h3]
        rw [if_neg h3, if_neg h3]
        dsimp only
        rw [apply_ite (Option.map (s.reserve id)), apply_ite (fun u : Option State => u.getD s)]
        rfl
    · rw [if_pos hres, if_pos hres]
  case assign =>
    have hfound : ((s.dequeue id).updTransfer id fun t => { t with reservation := none, assigned := true }).transfer? id =
        some { t with reservation := none, assigned := true } := by
      have hsame : (s.dequeue id).transfer? id = s.transfer? id := rfl
      rw [transfer_updTransfer _ id id (fun t => { t with reservation := none, assigned := true }) fun _ hx => hx, hsame, h]
      simp [transfer_id s h]
    obtain ⟨hframe, hmover, htank⟩ := takeSlot_facts _ hfound hpos m
    have htable := congrArg State.transfers hframe
    refine ⟨s.assigned m id, rfl, ?_, htable, hmover, htank⟩
    rw [State.assigned]
    conv => rhs; rw [htable]
    exact hframe
  case release =>
    obtain ⟨hframe, htank, hdrive⟩ := releaseTanks_facts s (s.claimedFor id) fun k hk => ((claimedFor_mem s id k).1 hk).1
    have htable := congrArg State.tankTable hframe
    refine ⟨?_, htable, fun n h1 h24 => ?_, fun a ha => ?_⟩
    · rw [← State.releaseClaims] at hframe htable
      conv => lhs; rw [hframe]
      conv => rhs; rw [htable]
      rfl
    · rw [State.releaseClaims, htank n h1 h24]
      simp [claimedFor_mem, h1, h24]
    · rw [State.releaseClaims, hdrive a ha]
      have hvalve : (∃ n ∈ s.claimedFor id, tankValve s.parts n = a) ↔
          ∃ n ∈ List.range 25, 1 ≤ n ∧ (s.tank n).claim = some id ∧ tankValve s.parts n = a := by
        simp only [claimedFor_mem, List.mem_range, Nat.lt_succ_iff]
        exact exists_congr fun n => by tauto
      simp only [hvalve]
  case new =>
    obtain ⟨htake, hdrop⟩ := split_by_rank s.transfers.queue s.rankOf (s.rankOf id) hsorted
    rw [State.enqueueNew, htake, hdrop]
  case returned =>
    obtain ⟨htake, hdrop⟩ := split_by_rank s.transfers.queue s.rankOf (s.rankOf id + 1) hsorted
    simp only [Nat.succ_le_iff, Nat.lt_succ_iff] at htake hdrop
    rw [State.enqueueReturned, htake, hdrop]

end Sys2Proof.Machine

/-! # The acknowledgements MR and FA (O18) -/

namespace Sys2Proof.Machine

/-- The command MR is the console request with its own checks and effect. -/
theorem exec_moverReset (ps : List Int) (s : State) : exec (.moverReset ps) s =
    .next (s.consoleRequest .MR ps (mrChecks s ps) fun s => s.takeMR ps) := rfl

/-- The command FA is the console request with its own checks and effect. -/
theorem exec_faultAcknowledge (ps : List Int) (s : State) : exec (.faultAcknowledge ps) s =
    .next (s.consoleRequest .FA ps (faChecks s ps) State.takeFA) := rfl

section
variable {s : State}

/-- MR fails its STATE check unless the mover is FAULTED with a true quiet reading (R91). -/
theorem not_resettable_iff {m : MoverId} : (!s.resettable m) = true ↔
    ¬ ((s.mover m).phase = .faulted ∧ (s.mover m).quiet = some true) := by
  rw [State.resettable, ← Bool.decide_and, Bool.not_eq_true', decide_eq_false_iff_not]

theorem mover_setMoverCause (m k : MoverId) (c : Option MoverCause) : (s.setMoverCause m c).mover k = s.mover k := by
  cases m <;> cases k <;> rfl

theorem now_setMoverCause (m : MoverId) (c : Option MoverCause) : (s.setMoverCause m c).now = s.now := by
  cases m <;> rfl

/-- MR taken: the cause goes, and the mover is IDLE from now. -/
theorem takeMR_eq (ps : List Int) {m : MoverId} (hm : MoverId.ofParam (par ps 1) = m) : s.takeMR ps =
    (((s.setMoverCause m none).setMover m
      { s.mover m with phase := .idle, timer := s.now, flow := none, gaugeDue := false }).reply .MR
      [.word m.word, .word "IDLE"]).scan := by
  rw [State.takeMR, hm]
  dsimp only
  rw [State.enterPhase, mover_setMoverCause, now_setMoverCause]
  rfl

/-- Once the fault state is known not to be RESTART, FA fails its first STATE check outside HALT. -/
theorem notHalted_iff (h : ¬ s.faults.state = .restart) : s.notHalted = true ↔ s.faults.state ≠ .halt := by
  cases hf : s.faults.state <;> simp_all [State.notHalted, State.isNormal]

theorem breached_iff : s.breached = true ↔ ∃ i ∈ List.range 36, (s.watched i).state = .breach := by
  simp [State.breached, watchedIndices]

end

/-- Settles O18: the ladder of each verb rung by rung, then its effect. -/
theorem moverAndHaltAreAcknowledged : Obligations.MoverAndHaltAreAcknowledged := by
  unfold Obligations.MoverAndHaltAreAcknowledged
  refine ⟨fun s ps htakes => ?mover, fun s ps htakes => ?halt⟩
  case mover =>
    dsimp only
    rw [exec_moverReset, mrChecks, moverChecks]
    simp only [List.cons_append, List.nil_append, consoleRequest_cons htakes, consoleRequest_nil htakes]
    refine congrArg Host.Outcome.next ?_
    refine rung decide_eq_true_iff fun _ => ?_
    refine rung not_inRange_iff fun _ => ?_
    refine rung inRestart_iff fun _ => ?_
    exact rung not_resettable_iff fun _ => takeMR_eq ps rfl
  case halt =>
    dsimp only
    rw [exec_faultAcknowledge, faChecks]
    simp only [consoleRequest_cons htakes, consoleRequest_nil htakes]
    refine congrArg Host.Outcome.next ?_
    refine rung decide_eq_true_iff fun _ => ?_
    refine rung inRestart_iff fun hrestart => ?_
    refine rung (notHalted_iff hrestart) fun _ => ?_
    refine rung breached_iff fun _ => ?_
    refine rung decide_eq_true_iff fun _ => ?_
    refine rung (has_iff _ _) fun _ => ?_
    rw [State.takeFA, State.pairWindow, State.window, State.retryCorrections, State.leaveHalt, watchedIndices,
      FaultState.word]

end Sys2Proof.Machine

/-! # The phases of a mover on entry (O19) -/

namespace Sys2Proof.Machine

/-! ## The next entry to be worked -/

/-- The next entry after an index is the first one behind it that is not done (R75). -/
theorem nextAfter_eq (t : Transfer) (k : Nat) : t.nextAfter k = ((List.range t.entries.length).find? fun j =>
    decide (k ≤ j ∧ ∃ e ∈ t.entries[j]?.toList, e.done = false)).map (· + 1) := by
  rw [Transfer.nextAfter, numbers, List.find?_filter, List.find?_map]
  congr 2
  funext j
  cases hj : t.entries[j]? <;> simp [Function.comp, hj]

/-- With no next entry from the first one on, every entry is done. -/
theorem nextAfter_zero_none (t : Transfer) : (t.nextAfter 0).isNone = true ↔ ∀ e ∈ t.entries, e.done = true := by
  rw [nextAfter_eq, Option.isNone_map, Option.isNone_iff_eq_none, List.find?_eq_none]
  constructor
  · intro h e he
    obtain ⟨j, hj, rfl⟩ := List.mem_iff_getElem.1 he
    simpa [List.getElem?_eq_getElem hj] using h j (List.mem_range.2 hj)
  · intro h j hj
    have hj := List.mem_range.1 hj
    simp [List.getElem?_eq_getElem hj, h _ (List.getElem_mem hj)]

/-- The examination of R71: the entries at their targets are done, and the active entry is the first that is not. -/
theorem examine_eq (s : State) (t : Transfer) :
    let done := t.entries.map fun e => if s.entryMet t e = true then { e with done := true } else e
    s.examine t = { t with entries := done, active := ((List.range done.length).find? fun k =>
      decide (∃ e ∈ done[k]?.toList, e.done = false)).elim t.active (· + 1) } := by
  dsimp only
  rw [State.examine]
  simp only [nextAfter_eq, Nat.zero_le, true_and]
  generalize List.find? _ _ = found
  cases found <;> rfl

/-! ## What stays while a mover enters a phase -/

section
variable {s : State} {m : MoverId} {t : Transfer}

/-- A mover keeps its transfer while its record keeps the run slot. -/
theorem runTransfer_setMover {x : Mover} (hx : x.run = (s.mover m).run) : (s.setMover m x).runTransfer m = s.runTransfer m := by
  rw [runTransfer_eq, runTransfer_eq, mover_setMover, if_pos rfl, hx]
  cases (s.mover m).run <;> simp [transfer_setMover]

theorem runTransfer_enterPhase (ph : Phase) : (s.enterPhase m ph).runTransfer m = s.runTransfer m := runTransfer_setMover rfl

theorem runTransfer_writePoint (a : Nat) (on : Bool) : (s.writePoint a on).runTransfer m = s.runTransfer m := by
  rw [writePoint_frame, runTransfer_setLoop]

theorem runTransfer_writePoints (l : List Nat) (on : Bool) : (s.writePoints l on).runTransfer m = s.runTransfer m := by
  rw [writePoints_frame, runTransfer_setLoop]

theorem tank_writePoint (a : Nat) (on : Bool) (n : Nat) : (s.writePoint a on).tank n = s.tank n := by
  rw [writePoint_frame]
  rfl

theorem now_writePoint (a : Nat) (on : Bool) : (s.writePoint a on).now = s.now := by
  rw [writePoint_frame]
  rfl

theorem parts_setMover (x : Mover) : (s.setMover m x).parts = s.parts := by cases m <;> rfl

theorem now_setMover (x : Mover) : (s.setMover m x).now = s.now := by cases m <;> rfl

theorem activeTank_congr {u : State} (h : u.runTransfer m = s.runTransfer m) : u.activeTank m = s.activeTank m := by
  rw [State.activeTank, State.activeTank, h]

theorem activeTank_of_run (h : s.runTransfer m = some t) : s.activeTank m = t.activeTank := by
  rw [State.activeTank]
  simp only [h]

/-! ## The single effects of an entry -/

/-- GAUGE-LOST is due when the active tank, if there is one, cannot be followed (R71, R76). -/
theorem markGaugeDue_eq : s.markGaugeDue m =
    if ∃ k ∈ (s.activeTank m).toList, (s.tank k).gauge = .unread ∨ (s.tank k).gauge = .lost then
      s.setMover m { s.mover m with gaugeDue := true }
    else s := by
  rw [State.markGaugeDue]
  cases s.activeTank m with
  | none => simp
  | some k => cases hg : (s.tank k).gauge <;> simp [State.gaugeBlind, hg]

/-- The active tank of a FILL makes a fill start (R11). -/
theorem startFill_eq (h : s.runTransfer m = some t) : s.startFill m =
    match t.direction, t.activeTank with
    | .fill, some k => s.fillStart k
    | _, _ => s := by
  rw [State.startFill]
  simp only [h]
  cases t.direction <;> cases t.activeTank <;> rfl

/-- The flow reference is the volume of the active tank, now (R77). -/
theorem takeFlow_eq : s.takeFlow m = s.setMover m { s.mover m with
    flow := some ⟨(s.activeTank m).bind fun k => (s.tank k).volume, s.now⟩ } := by
  rw [State.takeFlow]
  cases s.activeTank m <;> rfl

/-- The tanks claimed for a transfer, ascending. -/
theorem claimedFor_eq (id : Nat) : s.claimedFor id =
    (List.range 25).filter fun n => decide (1 ≤ n ∧ (s.tank n).claim = some id) := by
  have h : List.range 25 = 0 :: numbers 24 := by rw [numbers, List.range_succ_eq_map]
  rw [State.claimedFor, h, List.filter_cons_of_neg (by simp)]
  refine List.filter_congr fun n hn => ?_
  obtain ⟨k, _, rfl⟩ := List.mem_map.1 hn
  simp

/-- The valves that a stop closes (R80). -/
theorem stopValves_eq : s.stopValves m = [overboardPoint s.parts m] ++
    (if m = .m3 then [] else [seaChestPoint s.parts m]) ++ ((s.mover m).run.elim [] fun id =>
      ((List.range 25).filter fun n => decide (1 ≤ n ∧ (s.tank n).claim = some id)).map (tankValve s.parts)) := by
  rw [State.stopValves]
  simp only [claimedFor_eq]
  congr 1
  · cases m <;> rfl
  · cases (s.mover m).run <;> rfl

/-- A stop is entered in the stage that the RUN point allows, or a mover already STOPPING keeps its stage (R79, R80). -/
theorem enterStop_eq (reason : StopReason) (outcome : Option TransferOutcome) : s.enterStop m reason outcome =
    match (s.mover m).phase with
    | .stopping _ _ stage => s.setMover m { s.mover m with phase := .stopping reason outcome stage, gaugeDue := false }
    | _ =>
      if (s.drive (runPoint s.parts m)).on = false ∧ (s.drive (runPoint s.parts m)).agreement = .settled then
        (s.enterPhase m (.stopping reason outcome .valves)).writePoints (s.stopValves m) false
      else (s.enterPhase m (.stopping reason outcome .pump)).writePoint (runPoint s.parts m) false := by
  have hstopped : s.runStopped m = true ↔
      (s.drive (runPoint s.parts m)).on = false ∧ (s.drive (runPoint s.parts m)).agreement = .settled := by
    rw [State.runStopped, State.settledAt, Bool.and_eq_true, decide_eq_true_iff, decide_eq_true_iff]
  unfold State.enterStop
  cases (s.mover m).phase <;> simp only [hstopped]

/-! ## The phases -/

/-- The valves of the line-up, in the order of the direction (R43). -/
theorem lineUp_eq (t : Transfer) : s.lineUp m t =
    match t.activeTank with
    | none => []
    | some k => match t.direction with
      | .discharge => [tankValve s.parts k, overboardPoint s.parts m]
      | .fill => [seaChestPoint s.parts m, tankValve s.parts k] := rfl

theorem lineUp_congr {u : State} (h : u.parts = s.parts) (t : Transfer) : u.lineUp m t = s.lineUp m t := by
  rw [State.lineUp, State.lineUp, h]

/-- LINING is entered with the transfer in the run slot (R71). -/
theorem enterLining_eq (h : s.runTransfer m = some t) {t' : Transfer} (ht' : t' = if t.reverify then s.examine t else t) :
    s.enterLining m =
      let u := (s.updTransfer t.id fun _ => t').enterPhase m .lining
      if t.reverify = true ∧ ∀ e ∈ t'.entries, e.done = true then u.enterStop m .ended (some .complete)
      else (u.writePoints (s.lineUp m t') true).markGaugeDue m := by
  have hparts : ((s.updTransfer t.id fun _ => t').enterPhase m .lining).parts = s.parts := parts_setMover _
  rw [State.enterLining]
  simp only [h, ← ht', Bool.and_eq_true, nextAfter_zero_none, lineUp_congr hparts]

/-- The examination keeps the transfer but for its entries and its active index. -/
theorem examine_frame (s : State) (t : Transfer) : (s.examine t).direction = t.direction ∧ (s.examine t).id = t.id := by
  rw [examine_eq]
  exact ⟨rfl, rfl⟩

/-- The transfer that LINING goes on with is in the run slot then. -/
theorem runTransfer_lining (h : s.runTransfer m = some t) {t' : Transfer} (hid : t'.id = t.id) (l : List Nat) :
    (((s.updTransfer t.id fun _ => t').enterPhase m .lining).writePoints l true).runTransfer m = some t' := by
  rw [runTransfer_writePoints, runTransfer_enterPhase]
  exact runTransfer_updTransfer s m t _ h fun _ _ => hid

/-- The valve of an active tank, if there is one, is opened. -/
theorem writeValve_eq (u : State) (p : Option Memory) (tank : Option Nat) :
    (match tank with
    | some k => u.writePoint (tankValve p k) true
    | none => u) = u.writePoints (tank.toList.map (tankValve p)) true := by
  cases tank <;> rfl

/-- SWITCHING is entered for the entry named next (R76). -/
theorem enterSwitching_eq (h : s.runTransfer m = some t) (next : Nat) :
    let tank := ({ t with active := next } : Transfer).activeTank
    let u := (s.updTransfer t.id fun y => { y with active := next }).setMover m
      { s.mover m with phase := .switching (t.activeTank.getD 0), flow := none, gaugeDue := false }
    let v := u.writePoints (tank.toList.map (tankValve s.parts)) true
    let w := match t.direction, tank with
      | .fill, some k => v.fillStart k
      | _, _ => v
    s.enterSwitching m t next = if ∃ k ∈ tank.toList, (w.tank k).gauge = .unread ∨ (w.tank k).gauge = .lost then
        w.setMover m { w.mover m with gaugeDue := true }
      else w := by
  intro tank u v w
  have hu : u.runTransfer m = some { t with active := next } := by
    rw [runTransfer_setMover (by rfl)]
    exact runTransfer_updTransfer s m t _ h fun _ hy => hy
  have hv : v.runTransfer m = some { t with active := next } := by rw [runTransfer_writePoints, hu]
  have hopen : (match u.activeTank m with
      | some k => u.writePoint (tankValve u.parts k) true
      | none => u) = v := by
    have hparts : u.parts = s.parts := parts_setMover _
    rw [activeTank_of_run hu, hparts]
    exact writeValve_eq u s.parts tank
  have hw : w.runTransfer m = some { t with active := next } := by
    rw [← hv]
    simp only [w]
    split
    · exact fillStart_runTransfer _ _ _
    · rfl
  have e : s.enterSwitching m t next = ((match u.activeTank m with
      | some k => u.writePoint (tankValve u.parts k) true
      | none => u).startFill m).markGaugeDue m := rfl
  have hfill : v.startFill m = w := startFill_eq hv
  rw [e, hopen, hfill, markGaugeDue_eq, activeTank_of_run hw]

end

/-- Settles O19: each entry of a phase by its lemma, with what the mover's record and transfer are by then. -/
theorem moversEnterTheirPhases : Obligations.MoversEnterTheirPhases := by
  unfold Obligations.MoversEnterTheirPhases
  intro s m
  dsimp only
  refine ⟨fun t ht => ?lining, fun h => ?none, fun t ht => ?starting, ?running, fun t next ht => ?switching,
    fun previous => ?resume, fun reason outcome => ?stop⟩
  case lining =>
    rw [← runTransfer_eq_bind] at ht
    have hexamine := examine_eq s t
    dsimp only at hexamine
    rw [← hexamine]
    generalize ht' : (if t.reverify = true then s.examine t else t) = t'
    have hsame : t'.direction = t.direction ∧ t'.id = t.id := by
      rw [← ht']
      split
      · exact examine_frame s t
      · exact ⟨rfl, rfl⟩
    rw [enterLining_eq ht ht'.symm]
    dsimp only
    rw [markGaugeDue_eq, activeTank_of_run (runTransfer_lining ht hsame.2 _), lineUp_eq, hsame.1]
    rfl
  case none =>
    rw [State.enterLining]
    simp only [runTransfer_eq_bind, h]
  case starting =>
    rw [← runTransfer_eq_bind] at ht
    rw [State.enterStarting, startFill_eq (t := t) (by rw [runTransfer_writePoint, runTransfer_enterPhase, ht])]
    rfl
  case running =>
    have htank : (s.enterPhase m .running).activeTank m = s.activeTank m := activeTank_congr (runTransfer_enterPhase _)
    rw [State.enterRunning, takeFlow_eq, htank]
    simp only [State.enterPhase, tank_setMover, now_setMover]
  case switching =>
    rw [← runTransfer_eq_bind] at ht
    exact enterSwitching_eq ht next
  case resume =>
    rw [State.resumeRunning, takeFlow_eq, activeTank_congr ((runTransfer_writePoint _ _).trans (runTransfer_setMover (by rfl)))]
    simp only [tank_writePoint, tank_setMover, now_writePoint, now_setMover]
  case stop =>
    rw [enterStop_eq, stopValves_eq]
    rfl

end Sys2Proof.Machine

/-! # A mover at a commit (O20) -/

namespace Sys2Proof.Machine

/-! ## Fault causes (R86, R89) -/

/-- The table of R86, row by row. -/
theorem cause_eq (d : Disagreement) : d.cause =
    if d.role.isRun = true ∧ d.on = true ∧ d.grade = .overdue then some (2, .pumpNoStart)
    else if d.role.isRun = true ∧ d.on = true ∧ d.grade = .astray then some (3, .pumpStopped)
    else if d.role.isRun = true ∧ d.on = false ∧ d.grade = .overdue ∧ d.unknown = true then some (4, .pumpNoStart)
    else if d.role.isRun = false ∧ d.grade = .overdue then some (5, .valveTimeout)
    else if d.role.isRun = false ∧ d.grade = .astray then some (6, .valveAstray)
    else none := by
  rw [Disagreement.cause]
  cases d.role.isRun <;> cases d.on <;> cases d.grade <;> simp

/-- The phases in which a mover works. -/
theorem gaugeFault_iff (ph : Phase) : ph.gaugeFault = true ↔
    ph = .lining ∨ ph = .starting ∨ ph = .running ∨ ∃ k, ph = .switching k := by
  cases ph <;> simp [Phase.gaugeFault]

/-- A point can fail a mover that works, and one that stops for anything but a halt (R89). -/
theorem pointFault_iff (ph : Phase) : ph.pointFault = true ↔
    ph.gaugeFault = true ∨ ∃ r o g, ph = .stopping r o g ∧ r ≠ .halt := by
  cases ph with
  | stopping r o g => cases r <;> simp [Phase.pointFault, Phase.gaugeFault]
  | _ => simp [Phase.pointFault, Phase.gaugeFault]

/-- The cause handed is one of those of the disagreements, of the least order (R78). -/
theorem firstCause_filterMap (ds : List Disagreement) :
    match (firstCause (ds.filterMap Disagreement.cause)).map (·.2) with
    | none => ∀ d ∈ ds, d.cause = none
    | some c => ∃ d ∈ ds, ∃ k, d.cause = some (k, c) ∧ ∀ e ∈ ds, ∀ q ∈ e.cause.toList, k ≤ q.1 := by
  have hspec := firstCause_spec (ds.filterMap Disagreement.cause)
  cases hf : firstCause (ds.filterMap Disagreement.cause) with
  | none =>
    rw [hf] at hspec
    exact fun d hd => List.filterMap_eq_nil_iff.1 hspec d hd
  | some q =>
    rw [hf] at hspec
    obtain ⟨hmem, hleast⟩ := hspec
    obtain ⟨d, hd, hq⟩ := List.mem_filterMap.1 hmem
    refine ⟨d, hd, q.1, hq, fun e he x hx => hleast x (List.mem_filterMap.2 ⟨e, he, ?_⟩)⟩
    simpa using hx

/-! ## A commit of a mover (R78) -/

section
variable {s : State} {m : MoverId}

theorem settledAt_iff {a : Nat} {on : Bool} : s.settledAt a on = true ↔
    (s.drive a).on = on ∧ (s.drive a).agreement = .settled := by
  rw [State.settledAt, Bool.and_eq_true, decide_eq_true_iff, decide_eq_true_iff]

theorem moverCommit_fault {lost : Bool} {ds : List Disagreement} {c : MoverCause}
    (h : faultCauseOf (s.mover m).phase lost ds = some c) : s.moverCommit m lost ds = s.class2 m c := by
  rw [State.moverCommit]
  simp only [h]

theorem moverCommit_step {lost : Bool} {ds : List Disagreement}
    (h : faultCauseOf (s.mover m).phase lost ds = none) : s.moverCommit m lost ds = s.moverStep m := by
  rw [State.moverCommit]
  simp only [h]

/-- What a mover does at a commit without a fault, by its phase (R78). -/
theorem moverStep_eq {ph : Phase} : (s.mover m).phase = ph → s.moverStep m =
    match ph with
    | .idle => s
    | .faulted => s
    | .lining => s.liningStep m
    | .starting => s.startingStep m
    | .running => s.progressCheck m
    | .switching previous => s.switchingStep m previous
    | .stopping reason outcome stage => s.stopStep m reason outcome stage := by
  rintro rfl
  rfl

/-- LINING ends when both valves of the line-up are SETTLED ON (R72). -/
theorem liningStep_eq {t : Transfer} {k : Nat} (ht : s.runTransfer m = some t) (hk : t.activeTank = some k) :
    s.liningStep m =
      if (((s.drive (tankValve s.parts k)).on = true ∧ (s.drive (tankValve s.parts k)).agreement = .settled) ∧
        ((s.drive (if t.direction = .discharge then overboardPoint s.parts m else seaChestPoint s.parts m)).on = true ∧
          (s.drive (if t.direction = .discharge then overboardPoint s.parts m else seaChestPoint s.parts m)).agreement =
            .settled)) then s.enterStarting m
      else s := by
  rw [State.liningStep]
  simp only [ht, lineUp_eq, hk]
  cases t.direction <;> simp [settledAt_iff, and_comm]

theorem startingStep_eq : s.startingStep m =
    if (s.drive (runPoint s.parts m)).on = true ∧ (s.drive (runPoint s.parts m)).agreement = .settled then
      s.enterRunning m
    else s := by
  rw [State.startingStep]
  simp only [settledAt_iff]

theorem switchingStep_eq {t : Transfer} {k : Nat} (ht : s.runTransfer m = some t) (hk : t.activeTank = some k)
    (previous : Nat) : s.switchingStep m previous =
      if (s.drive (tankValve s.parts k)).on = true ∧ (s.drive (tankValve s.parts k)).agreement = .settled then
        s.resumeRunning m previous
      else s := by
  rw [State.switchingStep]
  simp only [activeTank_of_run ht, hk, settledAt_iff]

/-- The volume has moved as the direction says (R77). -/
theorem movement_pos {t : Transfer} {e : Entry} (he : t.entries[t.active - 1]? = some e) (r : FlowReference) :
    1 ≤ s.movement t r ↔ ∃ v ∈ r.volume.toList, ∃ now ∈ ((s.tank e.tank).volume).toList,
      (t.direction = .discharge ∧ now < v) ∨ (t.direction = .fill ∧ v < now) := by
  have htank : t.activeTank = some e.tank := by rw [Transfer.activeTank, he]; rfl
  rw [State.movement, htank, Option.bind_some]
  cases r.volume <;> cases (s.tank e.tank).volume <;> cases t.direction <;> simp <;> omega

/-- The no-flow check of R77. -/
theorem flowCheck_eq {t : Transfer} {e : Entry} (ht : s.runTransfer m = some t)
    (he : t.entries[t.active - 1]? = some e) : s.flowCheck m t =
    match (s.mover m).flow with
    | none => s
    | some r =>
      if ∃ v ∈ r.volume.toList, ∃ now ∈ ((s.tank e.tank).volume).toList,
          (t.direction = .discharge ∧ now < v) ∨ (t.direction = .fill ∧ v < now) then
        s.setMover m { s.mover m with flow := some ⟨(s.tank e.tank).volume, s.now⟩ }
      else if r.time + 30000 ≤ s.now then s.class2 m .noFlow
      else s := by
  have htank : s.activeTank m = some e.tank := by
    rw [activeTank_of_run ht, Transfer.activeTank, he]
    rfl
  rw [State.flowCheck]
  cases (s.mover m).flow with
  | none => rfl
  | some r =>
    dsimp only
    rw [takeFlow_eq, htank]
    simp only [movement_pos he]
    rfl

/-- A RUNNING mover at a commit: the active entry is done, or the flow is checked (R75). -/
theorem progressCheck_eq {t : Transfer} {e : Entry} (ht : s.runTransfer m = some t)
    (he : t.entries[t.active - 1]? = some e) : s.progressCheck m =
    if s.entryMet t e = true then
      match (List.range t.entries.length).find? fun k =>
        decide (t.active ≤ k ∧ ∃ y ∈ (t.markDone t.active).entries[k]?.toList, y.done = false) with
      | some k => (s.updTransfer t.id fun _ => t.markDone t.active).enterSwitching m (t.markDone t.active) (k + 1)
      | none => (s.updTransfer t.id fun _ => t.markDone t.active).enterStop m .ended (some .complete)
    else s.flowCheck m t := by
  have hlength : (t.markDone t.active).entries.length = t.entries.length := List.length_mapIdx
  rw [State.progressCheck]
  simp only [ht, he, nextAfter_eq, hlength]
  generalize (List.range t.entries.length).find? _ = next
  cases next <;> rfl

end

/-- Settles O20: the table of fault causes, the choice of a cause by the phase, then each phase at a commit by its lemma. -/
theorem aMoverTakesACommit : Obligations.AMoverTakesACommit := by
  unfold Obligations.AMoverTakesACommit
  refine ⟨cause_eq, fun ph lost ds => ?_, fun s m lost ds => ⟨fun c h => moverCommit_fault h, fun h => ?_⟩⟩
  · dsimp only
    rw [← gaugeFault_iff]
    have hpoint := pointFault_iff ph
    refine ⟨fun hwork hlost => ?_, fun hwork hstop => ?_, fun hcase => ?_⟩
    · simp [faultCauseOf, hwork, hlost]
    · have hno : ¬ ph.pointFault = true := fun x => (hpoint.1 x).elim hwork hstop
      simp [faultCauseOf, hwork, hno]
    · have hno : ¬ (ph.gaugeFault && lost) = true := by
        rcases hcase with ⟨r, o, g, rfl, _⟩ | ⟨_, hlost⟩
        · simp [Phase.gaugeFault]
        · simp [hlost]
      have hyes : ph.pointFault = true := hpoint.2 (hcase.elim Or.inr fun x => Or.inl x.1)
      rw [faultCauseOf, if_neg hno, if_pos hyes]
      exact firstCause_filterMap ds
  · dsimp only at h ⊢
    rw [moverCommit_step h]
    refine ⟨fun hph => ?_, fun hph t k ht hk => ?_, fun hph => ?_, fun previous t k hph ht hk => ?_,
      fun hph t e ht he => ?_, fun reason outcome hph => ?_, fun reason outcome hph => ?_⟩
    · rcases hph with hph | hph <;> rw [moverStep_eq hph]
    · rw [← runTransfer_eq_bind] at ht
      rw [moverStep_eq hph]
      exact liningStep_eq ht hk
    · rw [moverStep_eq hph]
      exact startingStep_eq
    · rw [← runTransfer_eq_bind] at ht
      rw [moverStep_eq hph]
      exact switchingStep_eq ht hk previous
    · rw [← runTransfer_eq_bind] at ht
      rw [moverStep_eq hph]
      dsimp only
      rw [progressCheck_eq ht he, flowCheck_eq ht he]
      rfl
    · rw [moverStep_eq hph]
      simp only [State.stopStep, State.runStopped, settledAt_iff]
      rfl
    · rw [moverStep_eq hph]
      rfl

end Sys2Proof.Machine

/-! # The end of a stop (O21) -/

namespace Sys2Proof.Machine

section
variable {s : State} {m : MoverId}

/-! ## The completion check (R81, R82, R88, R90) -/

/-- A stop with reason END, PREEMPT or FAULT completes on the quiet reading with every claimed valve CLOSED (R81). -/
theorem stopReadings_iff {id : Nat} (h : (s.mover m).run = some id) : s.stopReadings m = true ↔
    (s.mover m).quiet = some true ∧ ∀ n ∈ List.range 25, 1 ≤ n → (s.tank n).claim = some id →
      (s.scanned (tankValve s.parts n)).value = some 0 := by
  rw [State.stopReadings]
  simp only [h, claimedFor_eq]
  rw [Bool.and_eq_true, decide_eq_true_iff, List.all_eq_true]
  refine and_congr_right fun _ => forall_congr' fun n => ?_
  simp only [List.mem_filter, decide_eq_true_iff, and_imp, State.readsOff]

/-! ## Records of movers -/

theorem setMover_self (s : State) (m : MoverId) : s.setMover m (s.mover m) = s := by cases m <;> rfl

theorem setMover_setMover (x y : Mover) : (s.setMover m x).setMover m y = s.setMover m y := by cases m <;> rfl

theorem mover_setMover_self (x : Mover) : (s.setMover m x).mover m = x := by rw [mover_setMover, if_pos rfl]

/-! ## The freeing notice (R142) -/

theorem freed_complete (id : Nat) : (Pairing.running id).freed id .complete = .done id := if_pos rfl
theorem freed_faulted (id : Nat) : (Pairing.running id).freed id .faulted = .unpaired := if_pos rfl
theorem freed_halted (id : Nat) : (Pairing.running id).freed id .halted = .unpaired := if_pos rfl
theorem freed_relieved (id : Nat) : (Pairing.running id).freed id .relieved = .running id := if_pos rfl
theorem freed_retired (id : Nat) : (Pairing.running id).freed id .retired = .running id := if_pos rfl

/-- The freeing notice makes a pairing of its step, when the outcome says one. -/
theorem noticeFreed_eq {id : Nat} {o : TransferOutcome} {p : Pairing} (h : (Pairing.running id).freed id o = p) :
    s.noticeFreed id o = s.setPour { s.pour with
      steps := s.pour.steps.map fun y => if y.pairing = .running id then { y with pairing := p } else y } := by
  have hmap : (s.pour.steps.map fun y => { y with pairing := y.pairing.freed id o }) =
      s.pour.steps.map fun y => if y.pairing = .running id then { y with pairing := p } else y := by
    refine List.map_congr_left fun y _ => ?_
    by_cases hy : y.pairing = .running id
    · rw [if_pos hy, hy, h]
    · have hsame : y.pairing.freed id o = y.pairing := if_neg hy
      rw [if_neg hy, hsame]
  rw [State.noticeFreed, hmap]

/-- The freeing notice of a transfer that was relieved or retired changes no pairing. -/
theorem noticeFreed_still {id : Nat} {o : TransferOutcome} (h : (Pairing.running id).freed id o = .running id) :
    s.noticeFreed id o = s := by
  rw [noticeFreed_eq h]
  have hmap : (s.pour.steps.map fun y => if y.pairing = .running id then { y with pairing := .running id } else y) =
      s.pour.steps := by
    conv => rhs; rw [← List.map_id s.pour.steps]
    refine List.map_congr_left fun y _ => ?_
    split
    next hy => rw [← hy]; rfl
    next => rfl
  rw [hmap]
  rfl

/-! ## The reservation (R56) -/

/-- The reservation on a mover is judged. -/
theorem judgeReservation_eq : s.judgeReservation m =
    match s.transfers.records.find? fun y => decide (y.reservation = some m) with
    | none => s.pop m
    | some t =>
      if ∀ k ∈ t.remaining, (s.tank k).claim = none ∧ (s.tank k).lock = .free then s.assign m t.id
      else (s.setTransfers { s.transfers with
        records := s.transfers.records.map fun y : Transfer =>
          if y.reservation = some m then { y with reservation := none } else y }).pop m := by
  rw [State.judgeReservation, State.reservedFor]
  simp only [available_iff]
  rfl

/-! ## The strip residue (R48, R81) -/

/-- The strip residue is asked at the COMPLETE end of a PUMP DISCHARGE, where an admission is possible at all. -/
theorem askStrip_eq (t : Transfer) (o : TransferOutcome) :
    let es := (t.entries.filter fun e => decide (e.target < tankFloor s.parts e.tank)).map fun e => (e.tank, e.target)
    (if wantsStrip t o then s.askStrip t else s) =
      if t.kind = .pump ∧ t.direction = .discharge ∧ o = .complete ∧ es ≠ [] ∧ s.faults.state = .normal ∧
          (s.modes.mode = .berth ∨ s.modes.mode = .passage) then
        if 16 ≤ s.transfers.records.length then s.raise (.stripRefused t.id)
        else (s.enrol ⟨.planned, .strip, .discharge, es, .stripOf t.id, none, false⟩).scan
      else s := by
  intro es
  have hwants : wantsStrip t o = true ↔ t.kind = .pump ∧ t.direction = .discharge ∧ o = .complete := by
    simp [wantsStrip, and_assoc]
  have hasks : (es.isEmpty || !s.isNormal || !s.modeAdmits) = true ↔
      ¬ (es ≠ [] ∧ s.faults.state = .normal ∧ (s.modes.mode = .berth ∨ s.modes.mode = .passage)) := by
    rw [Bool.or_eq_true, Bool.or_eq_true, not_isNormal_iff, not_modeAdmits_iff, List.isEmpty_iff]
    tauto
  have hes : residueEntries s.parts t = es := rfl
  rw [State.askStrip, hes]
  simp only [hwants, hasks, tableFull_iff, State.admitTransfer, if_true]
  by_cases h : t.kind = .pump ∧ t.direction = .discharge ∧ o = .complete
  · by_cases h' : es ≠ [] ∧ s.faults.state = .normal ∧ (s.modes.mode = .berth ∨ s.modes.mode = .passage)
    · rw [if_pos h, if_neg (not_not.2 h')]
      exact (if_pos ⟨h.1, h.2.1, h.2.2, h'⟩).symm
    · rw [if_pos h, if_pos h', if_neg fun x => h' x.2.2.2]
  · rw [if_neg h, if_neg fun x => h ⟨x.1, x.2.1, x.2.2.1⟩]

/-! ## Pops (R83, R84) -/

/-- A mover with an empty stack is IDLE after the pop. -/
theorem pop_empty (h : (s.mover m).stack = []) : s.pop m = s.setMover m
    { s.mover m with phase := .idle, timer := s.now, flow := none, gaugeDue := false, popping := false } := by
  rw [State.pop, h, List.length_nil, State.popTimes.eq_def]
  simp only [mover_setMover_self, h, List.reverse_nil, State.enterPhase, setMover_setMover, now_setMover]

theorem mover_enqueueReturned (id : Nat) : (s.enqueueReturned id).mover m = s.mover m := by cases m <;> rfl

/-- A mover that pops already goes on with what its stack holds. -/
theorem pop_popping (h : (s.mover m).popping = true) : s.pop m = State.popTimes (s.mover m).stack.length s m := by
  have hself : s.setMover m { s.mover m with popping := true } = s := by
    rw [← h]
    exact setMover_self s m
  rw [State.pop, hself]

/-- A pop takes the newest transfer off the stack: it is resumed, or returned to pending before the next pop. -/
theorem pop_newest {rest : List Nat} {id : Nat} (h : (s.mover m).stack = rest ++ [id]) : s.pop m =
    let u := s.setMover m { s.mover m with stack := rest, popping := true }
    if ∃ t, s.transfer? id = some t ∧ ∀ k ∈ t.remaining, (s.tank k).claim = none ∧ (s.tank k).lock = .free then
      u.resume m id
    else (u.enqueueReturned id).pop m := by
  have hlength : (s.mover m).stack.length = rest.length + 1 := by rw [h, List.length_append]; rfl
  have hreverse : (s.mover m).stack.reverse = id :: rest.reverse := by rw [h, List.reverse_append]; rfl
  have havailable (x : Mover) : (s.setMover m x).tankAvailable = s.tankAvailable := by
    funext k
    rw [State.tankAvailable, State.tankAvailable, tank_setMover]
  have hpop (x : Mover) (hx : x.popping = true) (hs : x.stack = rest) :
      State.popTimes rest.length ((s.setMover m x).enqueueReturned id) m = ((s.setMover m x).enqueueReturned id).pop m := by
    have hm : ((s.setMover m x).enqueueReturned id).mover m = x := by rw [mover_enqueueReturned, mover_setMover_self]
    rw [pop_popping (by rw [hm, hx]), hm, hs]
  rw [State.pop, hlength, State.popTimes.eq_def]
  simp only [mover_setMover_self, hreverse, List.reverse_reverse, setMover_setMover, transfer_setMover, havailable]
  rw [hpop _ rfl rfl]
  cases ht : s.transfer? id with
  | none => simp
  | some t => simp only [Option.some.injEq, exists_eq_left', available_iff]

/-- The outcome recorded, ENDED raised, and the strip residue asked: the first half of a stop with reason END (R81). -/
def State.endAsked (s : State) (m : MoverId) (id : Nat) (o : TransferOutcome) : State :=
  let a := (s.setMover m { s.mover m with last := some (id, o) }).raise (.ended m)
  match s.transfer? id with
  | none => a
  | some t => if wantsStrip t o then a.askStrip t else a

/-- The end of a stop with reason END, its two halves. -/
theorem completeEnd_eq (id : Nat) (o : TransferOutcome) : s.completeEnd m id o =
    ((((((s.endAsked m id o).freeRecord id).leaveSlot m id).noticeFreed id o).judgeReservation m).pairWindow
      false).scan := by
  have hfound : ((s.recordOutcome m id o).raise (.ended m)).transfer? id = s.transfer? id := transfer_setMover s m _ id
  unfold State.completeEnd State.endAsked
  cases ht : s.transfer? id <;> simp only [hfound, ht] <;> rfl

/-- The strip residue is asked by what the part was before the end. -/
theorem endAsked_some {id : Nat} {t : Transfer} (h : s.transfer? id = some t) (o : TransferOutcome) :
    let a := (s.setMover m { s.mover m with last := some (id, o) }).raise (.ended m)
    let es := (t.entries.filter fun e => decide (e.target < tankFloor s.parts e.tank)).map fun e => (e.tank, e.target)
    s.endAsked m id o =
      if t.kind = .pump ∧ t.direction = .discharge ∧ o = .complete ∧ es ≠ [] ∧ s.faults.state = .normal ∧
          (s.modes.mode = .berth ∨ s.modes.mode = .passage) then
        if 16 ≤ s.transfers.records.length then a.raise (.stripRefused id)
        else (a.enrol ⟨.planned, .strip, .discharge, es, .stripOf id, none, false⟩).scan
      else a := by
  intro a es
  have hframe : a.parts = s.parts ∧ a.faults = s.faults ∧ a.modes = s.modes ∧ a.transfers = s.transfers := by
    refine ⟨?_, ?_, ?_, ?_⟩ <;> cases m <;> rfl
  obtain ⟨hparts, hfaults, hmodes, htable⟩ := hframe
  have hasked := askStrip_eq (s := a) t o
  rw [hparts, hfaults, hmodes, htable, transfer_id s h] at hasked
  rw [State.endAsked]
  simp only [h]
  exact hasked

theorem endAsked_none {id : Nat} (h : s.transfer? id = none) (o : TransferOutcome) : s.endAsked m id o =
    (s.setMover m { s.mover m with last := some (id, o) }).raise (.ended m) := by
  rw [State.endAsked]
  simp only [h]

end

/-- Settles O21: the completion checks, the ends of the three kinds of stop, and the pops, each by its lemmas. -/
theorem stopsEnd : Obligations.StopsEnd := by
  unfold Obligations.StopsEnd
  intro available freed left told judged
  refine ⟨fun s m id hrun => ?check, fun s m o => rfl, fun s m id o => ?ended, fun s m id => ?preempt, fun s m id => ?fault,
    fun s m h => pop_empty h, fun s m rest id h => ⟨fun hno => ?returned, fun t ht hpos hall => ?resumed⟩⟩
  case check =>
    dsimp only
    refine ⟨fun o => ?_, fun o => ?_, fun o => ?_⟩ <;>
      simp only [State.completeStop, hrun, stopReadings_iff hrun, Option.getD_some]
  case ended =>
    intro a b c
    have hb : s.endAsked m id o = b := by
      cases ht : s.transfer? id with
      | none =>
        simp only [b, ht]
        exact endAsked_none ht o
      | some t =>
        simp only [b, ht]
        exact endAsked_some ht o
    have hc : ((s.endAsked m id o).freeRecord id).leaveSlot m id = c := by rw [hb]; rfl
    have hjudged (u : State) : judged m u = u.judgeReservation m := judgeReservation_eq.symm
    rw [completeEnd_eq, hc, hjudged]
    refine congrArg (fun u : State => ((u.judgeReservation m).pairWindow false).scan) ?_
    cases o with
    | complete => exact noticeFreed_eq (freed_complete id)
    | faulted => exact noticeFreed_eq (freed_faulted id)
    | halted => exact noticeFreed_eq (freed_halted id)
    | relieved => exact noticeFreed_still (freed_relieved id)
    | retired => exact noticeFreed_still (freed_retired id)
  case preempt =>
    rw [State.completePreempt]
    dsimp only
    rw [judgeReservation_eq]
    rfl
  case fault =>
    rw [State.completeFault]
    dsimp only
    rw [noticeFreed_eq (freed_faulted id)]
    rfl
  case returned => 
    rw [pop_newest h]
    dsimp only
    rw [if_neg]
    rintro ⟨t, ht, hall⟩
    exact hno t (by rw [ht]; exact List.mem_singleton.2 rfl) hall
  case resumed =>
    rw [pop_newest h]
    dsimp only
    rw [if_pos ⟨t, ht, hall⟩]
    have ht' : (s.setMover m { s.mover m with stack := rest, popping := true }).transfer? id = some t := by
      rw [transfer_setMover, ht]
    obtain ⟨hframe, hmover, htank⟩ := takeSlot_facts _ ht' hpos m
    refine ⟨_, rfl, ?_, fun k => ?_, fun n h1 h24 => ?_⟩
    · conv => lhs; rw [hframe]
      cases m <;> rfl
    · rw [hmover, mover_setMover_self, mover_setMover]
      split <;> rfl
    · rw [htank n h1 h24, tank_setMover]

end Sys2Proof.Machine

/-! # Steps that join the plan: PA and PI (O22) -/

namespace Sys2Proof.Machine

/-- The command PA is the console request with its own checks and effect. -/
theorem exec_planAppend (ps : List Int) (s : State) : exec (.planAppend ps) s =
    .next (s.consoleRequest .PA ps (paChecks s ps) fun s => s.takePA ps) := rfl

/-- The command PI is the console request with its own checks and effect. -/
theorem exec_planInsert (ps : List Int) (s : State) : exec (.planInsert ps) s =
    .next (s.consoleRequest .PI ps (piChecks s ps) fun s => s.takePI ps) := rfl

/-! ## Checks of the plan's verbs -/

/-- A value is in its range. -/
theorem inRange_iff {lo hi x : Int} : inRange lo hi x = true ↔ lo ≤ x ∧ x ≤ hi := by
  rw [inRange, Bool.and_eq_true, decide_eq_true_iff, decide_eq_true_iff]

/-- A lead is good without linked tanks only when it is 0 (R138). -/
theorem leadGood_iff {lead : Int} {qs : List (Int × Int)} : (decide (lead = 0) || !qs.isEmpty) = true ↔
    lead = 0 ∨ qs ≠ [] := by
  simp

section
variable {s : State} {p : Option Memory} {qs : List Int}

/-- The values of PA are good exactly with each in its range, good pairs, and a lead of 0 without pairs (R138). -/
theorem paValuesGood_iff : paValuesGood p qs = true ↔
    1 ≤ par qs 1 ∧ par qs 1 ≤ 999 ∧ 1 ≤ par qs 2 ∧ par qs 2 ≤ 9 ∧ 1 ≤ par qs 3 ∧ par qs 3 ≤ 30000 ∧
      0 ≤ par qs 4 ∧ par qs 4 ≤ 9999 ∧ pairsGood p (pairsFrom (qs.drop 4)) = true ∧
      (par qs 4 = 0 ∨ pairsFrom (qs.drop 4) ≠ []) := by
  rw [paValuesGood, paPairs]
  simp only [Bool.and_eq_true, inRange_iff, and_assoc]
  rw [leadGood_iff]

/-- The pairs of a request name defined tanks. -/
theorem pairsDefined_iff {l : List (Int × Int)} : pairsDefined p l = true ↔ ∀ q ∈ l, tankDefined p q.1.toNat = true :=
  List.all_eq_true

theorem paDefined_iff : paDefined p qs = true ↔
    holdDefined p (parN qs 2) = true ∧ ∀ q ∈ pairsFrom (qs.drop 4), tankDefined p q.1.toNat = true := by
  rw [paDefined, Bool.and_eq_true, pairsDefined_iff, paPairs]

theorem inPlan_iff {id : Nat} : s.inPlan id = true ↔ s.step? id ≠ none := by
  rw [State.inPlan, Option.isSome_iff_ne_none]

theorem not_inPlan_iff {id : Nat} : (!s.inPlan id) = true ↔ s.step? id = none := by
  rw [Bool.not_eq_true', ← Bool.not_eq_true, inPlan_iff, not_not]

theorem planFull_iff : s.planFull = true ↔ 48 ≤ s.pour.steps.length := decide_eq_true_iff

theorem underClearance_iff {id : Nat} : s.underClearance id = true ↔ s.pour.clearance = some id := decide_eq_true_iff

/-- The named step is the head, past the states in which a step may come before it (R139). -/
theorem headFixed_iff {id : Nat} : s.headFixed id = true ↔ s.isHead id = true ∧
    ((s.headStep).map fun x => x.state) ≠ some .planned ∧ ((s.headStep).map fun x => x.state) ≠ some .ready := by
  rw [State.headFixed, Bool.and_eq_true]
  refine and_congr_right fun hhead => ?_
  cases hh : s.headStep with
  | none => simp [State.isHead, hh] at hhead
  | some x => cases hx : x.state <;> simp [PourStep.pourOpen, hx]

/-- The step that PA asks for. -/
theorem paStep_eq : paStep qs =
    { id := parN qs 1, hold := parN qs 2, planned := parN qs 3, tally := 0, lead := parN qs 4,
      links := (pairsFrom (qs.drop 4)).map fun q => ⟨q.1.toNat, q.2.toNat, none, false⟩, pairing := .unpaired,
      state := .planned, granted := none, ceiling := none, cause := none } := by
  rw [paStep, linksOf, pairsNat, List.map_map, paPairs]
  rfl

theorem takePA_eq : s.takePA qs =
    let t := (s.setPour { s.pour with steps := s.pour.steps ++ [paStep qs] }).judgeWindow
    t.reply .PA [fnat (parN qs 1), fnat (t.positionOf (parN qs 1)), fword? ((t.step? (parN qs 1)).map fun x => x.state.word)] :=
  rfl

theorem takePI_eq (ps : List Int) : s.takePI ps =
    let other := fun y : PourStep => decide (y.id ≠ parN ps 1)
    let t := (s.setPour { s.pour with
      steps := s.pour.steps.takeWhile other ++ paStep (ps.drop 1) :: s.pour.steps.dropWhile other }).judgeWindow
    t.reply .PI [fnat (parN (ps.drop 1) 1), fnat (t.positionOf (parN (ps.drop 1) 1)),
      fword? ((t.step? (parN (ps.drop 1) 1)).map fun x => x.state.word)] :=
  rfl

end

/-- Settles O22: the ladder of each verb rung by rung, then the step that joins. -/
theorem stepsJoinThePlan : Obligations.StepsJoinThePlan := by
  unfold Obligations.StepsJoinThePlan
  intro s ps
  dsimp only
  refine ⟨fun htakes => ?append, fun htakes => ?insert⟩
  case append =>
    rw [exec_planAppend, paChecks]
    simp only [consoleRequest_cons htakes, consoleRequest_nil htakes]
    refine congrArg Host.Outcome.next ?_
    refine rung (by simp) fun _ => ?_
    refine rung (by rw [Bool.not_eq_true', ← Bool.not_eq_true, paValuesGood_iff]) fun _ => ?_
    refine rung decide_eq_true_iff fun _ => ?_
    refine rung inRestart_iff fun _ => ?_
    refine rung (by rw [Bool.not_eq_true', ← Bool.not_eq_true, paDefined_iff]) fun _ => ?_
    refine rung inPlan_iff fun _ => ?_
    refine rung planFull_iff fun _ => ?_
    rw [takePA_eq, paStep_eq]
  case insert =>
    rw [exec_planInsert, piChecks]
    simp only [consoleRequest_cons htakes, consoleRequest_nil htakes]
    refine congrArg Host.Outcome.next ?_
    refine rung (by simp) fun _ => ?_
    refine rung (by rw [Bool.not_eq_true', ← Bool.not_eq_true, Bool.and_eq_true, inRange_iff, paValuesGood_iff, and_assoc])
      fun _ => ?_
    refine rung decide_eq_true_iff fun _ => ?_
    refine rung inRestart_iff fun _ => ?_
    refine rung (by rw [Bool.or_eq_true, not_inPlan_iff, Bool.not_eq_true', ← Bool.not_eq_true, paDefined_iff]) fun _ => ?_
    refine rung (by rw [Bool.or_eq_true, inPlan_iff, headFixed_iff]) fun _ => ?_
    refine rung (by rw [Bool.and_eq_true, underClearance_iff]) fun _ => ?_
    refine rung planFull_iff fun _ => ?_
    rw [takePI_eq, paStep_eq]

end Sys2Proof.Machine

/-! # Steps changed and retired: PC and PR (O23) -/

namespace Sys2Proof.Machine

/-- The command PC is the console request with its own checks and effect. -/
theorem exec_planChange (ps : List Int) (s : State) : exec (.planChange ps) s =
    .next (s.consoleRequest .PC ps (pcChecks s ps) fun s => s.takePC ps) := rfl

/-- The command PR is the console request with its own checks and effect. -/
theorem exec_planRetire (ps : List Int) (s : State) : exec (.planRetire ps) s =
    .next (s.consoleRequest .PR ps (prChecks s ps) fun s => s.takePR ps) := rfl

section
variable {s : State} {ps : List Int}

/-! ## The checks of PC (R144) -/

theorem tonnesAboveTally_iff : s.tonnesAboveTally ps = true ↔
    ∀ x ∈ (s.step? (parN ps 1)).toList, (x.tally : Int) < par ps 2 := by
  rw [State.tonnesAboveTally]
  cases s.step? (parN ps 1) <;> simp

/-- The values of PC are good exactly with each in its range, good pairs, a lead of 0 without pairs, and tonnes above the
step's tally. -/
theorem pcValuesGood_iff : pcValuesGood s ps = true ↔
    1 ≤ par ps 1 ∧ par ps 1 ≤ 999 ∧ 1 ≤ par ps 2 ∧ par ps 2 ≤ 30000 ∧ 0 ≤ par ps 3 ∧ par ps 3 ≤ 9999 ∧
      pairsGood s.parts (pairsFrom (ps.drop 3)) = true ∧ (par ps 3 = 0 ∨ pairsFrom (ps.drop 3) ≠ []) ∧
      ∀ x ∈ (s.step? (parN ps 1)).toList, (x.tally : Int) < par ps 2 := by
  rw [pcValuesGood, pcPairs, Bool.and_eq_true, tonnesAboveTally_iff]
  simp only [Bool.and_eq_true, inRange_iff, and_assoc]
  rw [leadGood_iff]

theorem notWaiting_iff {id : Nat} {x : PourStep} (h : s.step? id = some x) : s.notWaiting id = true ↔
    x.state ≠ .planned ∧ x.state ≠ .ready := by
  rw [State.notWaiting]
  simp [h]

theorem stepPouring_iff {id : Nat} {x : PourStep} (h : s.step? id = some x) : s.stepPouring id = true ↔
    x.state = .granted ∨ x.state = .pouring := by
  rw [State.stepPouring]
  simp [h, PourStep.pourOpen]

/-! ## The effects -/

/-- What PC makes of the step (R144). -/
theorem changed_eq (y : PourStep) : y.changed ps =
    if y.links.map (fun e => (e.tank, e.target)) ≠ (pairsFrom (ps.drop 3)).map fun q => (q.1.toNat, q.2.toNat) then
      { y with planned := parN ps 2, lead := parN ps 3,
               links := ((pairsFrom (ps.drop 3)).map fun q => (q.1.toNat, q.2.toNat)).map fun q => ⟨q.1, q.2, none, false⟩,
               pairing := .unpaired, state := .planned }
    else { y with planned := parN ps 2, lead := parN ps 3, state := .planned } := by
  rw [PourStep.changed, linksDiffer]
  simp only [decide_eq_true_iff]
  rfl

/-- PC taken, for a step in the plan. -/
theorem takePC_eq {x : PourStep} (h : s.step? (parN ps 1) = some x) : s.takePC ps =
    let u := s.updStep (parN ps 1) fun y => y.changed ps
    let v := if x.links.map (fun e => (e.tank, e.target)) ≠ (pairsFrom (ps.drop 3)).map (fun q => (q.1.toNat, q.2.toNat))
      then u.retirePaired x.pairing (parN ps 1) else u
    let t := (v.judgePairing true (parN ps 1)).judgeReady (parN ps 1)
    t.reply .PC [fnat (parN ps 1), fword? ((t.step? (parN ps 1)).map fun y => y.state.word),
      fword? ((t.step? (parN ps 1)).map fun y => y.pairing.word)] := by
  rw [State.takePC]
  simp only [h, linksDiffer, decide_eq_true_iff]
  rfl

/-- PR taken, for a step in the plan. -/
theorem takePR_eq {x : PourStep} (h : s.step? (parN ps 1) = some x) : s.takePR ps =
    let u := s.setPour { s.pour with steps := s.pour.steps.filter fun y => decide (y.id ≠ parN ps 1) }
    ((u.retirePaired x.pairing (parN ps 1)).judgeWindow).reply .PR
      [fnat (parN ps 1), fword? ((s.pairedAnswer x.pairing (parN ps 1)).map RetireAnswer.word)] := by
  rw [State.takePR]
  simp only [h]
  rfl

/-! ## A paired transfer retired (R62) -/

theorem stackedOn_eq (id : Nat) : s.stackedOn id =
    [MoverId.m1, .m2, .m3].find? fun m => decide (id ∈ (s.mover m).stack) := by
  rw [State.stackedOn, allMovers]
  congr 1
  funext m
  rw [Bool.eq_iff_iff]
  simp

theorem isStepTransfer_iff {id step : Nat} : s.isStepTransfer id step = true ↔
    ∃ t ∈ (s.transfer? id).toList, t.source = .step step := by
  rw [State.isStepTransfer]
  cases s.transfer? id <;> simp

variable {id step : Nat}

/-- The Transfer Table no longer holds the paired transfer. -/
theorem retirePaired_gone (h : ¬ s.isStepTransfer id step = true) :
    s.retirePaired (.running id) step = s ∧ s.pairedAnswer (.running id) step = some .retired := by
  simp [State.retirePaired, State.pairedAnswer, Pairing.running?, h]

/-- The paired transfer is retired by its state. -/
theorem retirePaired_running (h : s.isStepTransfer id step = true) :
    s.retirePaired (.running id) step = s.retire id ∧ s.pairedAnswer (.running id) step = some (s.retireAnswer id) := by
  simp [State.retirePaired, State.pairedAnswer, Pairing.running?, h]

/-- A stop that ends the transfer already is left as it is. -/
theorem retire_ending {m : MoverId} (h : s.activeOn id = some m) (he : (s.mover m).phase.ending = true) : s.retire id = s := by
  rw [State.retire]
  simp only [h, he, if_true]

/-- The retirement of an ACTIVE transfer and its answer. -/
theorem retire_active_facts {m : MoverId} (h : s.activeOn id = some m) :
    ((s.mover m).phase.ending = true → s.retire id = s ∧ s.retireAnswer id = .ending) ∧
      (¬ (s.mover m).phase.ending = true →
        s.retire id = s.enterStop m .ended (some .retired) ∧ s.retireAnswer id = .retiring) := by
  rw [retireAnswer_active h]
  exact ⟨fun he => ⟨retire_ending h he, if_pos he⟩, fun he => ⟨retire_active h he, if_neg he⟩⟩

end

/-- Settles O23: the ladder of PC, the retirement by the place of the paired transfer, and the ladder of PR. -/
theorem stepsAreChangedAndRetired : Obligations.StepsAreChangedAndRetired := by
  unfold Obligations.StepsAreChangedAndRetired
  refine ⟨fun s ps htakes => ?change, fun s p step => ?paired, fun s ps htakes => ?retire⟩
  case change =>
    dsimp only
    rw [exec_planChange, pcChecks]
    simp only [consoleRequest_cons htakes, consoleRequest_nil htakes]
    refine congrArg Host.Outcome.next ?_
    refine rung (by simp) fun _ => ?_
    refine rung (by rw [Bool.not_eq_true', ← Bool.not_eq_true, pcValuesGood_iff]) fun _ => ?_
    refine rung inRestart_iff fun _ => ?_
    cases hx : s.step? (parN ps 1) with
    | none => simp [State.inPlan, hx]
    | some x =>
      refine rung (by simp [State.inPlan, hx, pcPairs, pairsDefined]) fun _ => ?_
      refine rung (notWaiting_iff hx) fun _ => ?_
      refine rung underClearance_iff fun _ => ?_
      rw [takePC_eq hx]
      simp only [changed_eq]
  case paired =>
    cases p with
    | running id =>
      dsimp only
      by_cases hstep : s.isStepTransfer id step = true
      · obtain ⟨hretire, hanswer⟩ := retirePaired_running hstep
        rw [if_pos (isStepTransfer_iff.1 hstep), hretire, hanswer, ← stackedOn_eq]
        have hactive : [MoverId.m1, .m2, .m3].find? (fun m => decide ((s.mover m).run = some id)) = s.activeOn id := rfl
        rw [hactive]
        cases ha : s.activeOn id with
        | some m =>
          obtain ⟨hending, hretiring⟩ := retire_active_facts ha
          dsimp only
          cases hph : (s.mover m).phase with
          | stopping reason outcome stage =>
            cases reason with
            | preempt =>
              obtain ⟨hr, hw⟩ := hretiring (by rw [hph]; exact Bool.false_ne_true)
              exact ⟨hr, congrArg some hw⟩
            | ended | fault | halt =>
              obtain ⟨hr, hw⟩ := hending (by rw [hph]; rfl)
              exact ⟨hr, congrArg some hw⟩
          | _ =>
            obtain ⟨hr, hw⟩ := hretiring (by rw [hph]; exact Bool.false_ne_true)
            exact ⟨hr, congrArg some hw⟩
        | none =>
          have ht : ∃ t, s.transfer? id = some t := by
            obtain ⟨t, ht, _⟩ := isStepTransfer_iff.1 hstep
            exact ⟨t, Option.mem_toList.1 ht⟩
          obtain ⟨t, ht⟩ := ht
          rw [retireAnswer_inactive ha]
          cases hs : s.stackedOn id with
          | some m => exact ⟨retire_stacked ha hs, rfl⟩
          | none => exact ⟨retire_pending ha hs ht, rfl⟩
      · rw [if_neg (isStepTransfer_iff.not.1 hstep)]
        exact retirePaired_gone hstep
    | unpaired | done => exact ⟨rfl, rfl⟩
  case retire =>
    dsimp only
    rw [exec_planRetire, prChecks]
    simp only [consoleRequest_cons htakes, consoleRequest_nil htakes]
    refine congrArg Host.Outcome.next ?_
    refine rung decide_eq_true_iff fun _ => ?_
    refine rung not_inRange_iff fun _ => ?_
    refine rung inRestart_iff fun _ => ?_
    cases hx : s.step? (parN ps 1) with
    | none => simp [State.inPlan, hx]
    | some x =>
      have hin : (!s.inPlan (parN ps 1)) = false := by simp [State.inPlan, hx]
      rw [hin, if_neg Bool.false_ne_true]
      refine rung (stepPouring_iff hx) fun _ => ?_
      refine rung underClearance_iff fun _ => ?_
      rw [takePR_eq hx]

end Sys2Proof.Machine

/-! # The window of the plan (O24) -/

namespace Sys2Proof.Machine

section
variable {s : State} {id : Nat}

/-! ## What keeps the plan and its order -/

theorem Arbitrated.pour {t : State} (h : Arbitrated s t) : t.pour = s.pour := by
  have e := congrArg State.pour h.frame
  exact e

/-- The ids of the plan, in order. -/
def State.planIds (s : State) : List Nat := s.pour.steps.map PourStep.id

theorem window_eq : s.window = s.planIds.take 2 := List.map_take

theorem planIds_updStep (k : Nat) (f : PourStep → PourStep) (hf : ∀ x, (f x).id = x.id) :
    (s.updStep k f).planIds = s.planIds := by
  have hmap : (s.pour.steps.map fun x => if x.id = k then f x else x).map PourStep.id = s.pour.steps.map PourStep.id := by
    rw [List.map_map]
    refine List.map_congr_left fun x _ => ?_
    rw [Function.comp, apply_ite PourStep.id, hf, ite_self]
  exact hmap

theorem planIds_scan : s.scan.planIds = s.planIds := by rw [State.planIds, (Arbitrated.refl s).scan.pour, State.planIds]

theorem planIds_judgeReady : (s.judgeReady id).planIds = s.planIds := by
  unfold State.judgeReady
  split
  · rfl
  · split
    · exact planIds_updStep _ _ fun _ => rfl
    · rfl

theorem planIds_admitTransfer (a : Admission) (scans : Bool) : (s.admitTransfer a scans).planIds = s.planIds := by
  unfold State.admitTransfer
  split
  · exact planIds_scan
  · rfl

theorem planIds_judgePairing (scans : Bool) : (s.judgePairing scans id).planIds = s.planIds := by
  unfold State.judgePairing
  split
  · rfl
  · split
    · rw [planIds_judgeReady, planIds_admitTransfer]
      exact planIds_updStep _ _ fun _ => rfl
    · rfl

theorem planIds_foldl {f : State → Nat → State} (hf : ∀ u k, (f u k).planIds = u.planIds) (l : List Nat) (u : State) :
    (l.foldl f u).planIds = u.planIds := by
  induction l generalizing u with
  | nil => rfl
  | cons k l ih => exact (ih (f u k)).trans (hf u k)

theorem planIds_pairWindow (scans : Bool) : (s.pairWindow scans).planIds = s.planIds :=
  planIds_foldl (fun _ _ => planIds_judgePairing scans) _ s

/-! ## Readiness (R143) -/

theorem inWindow_iff : s.inWindow id = true ↔ id ∈ (s.pour.steps.take 2).map fun x => x.id := by
  simp [State.inWindow, State.window]

theorem leadMet_iff (x : PourStep) : s.leadMet x = true ↔ x.lead = 0 ∨ x.lead ≤ (x.links.map s.leadTerm).sum := by
  rw [State.leadMet, Bool.or_eq_true, decide_eq_true_iff, decide_eq_true_iff]

theorem judgeReady_some {x : PourStep} (h : s.step? id = some x) : s.judgeReady id =
    if id ∈ ((s.pour.steps.take 2).map fun x => x.id) ∧ x.state = .planned ∧
        (x.lead = 0 ∨ x.lead ≤ (x.links.map s.leadTerm).sum) then
      s.updStep id fun y => { y with state := .ready }
    else s := by
  rw [State.judgeReady]
  simp only [h, Bool.and_eq_true, inWindow_iff, leadMet_iff, decide_eq_true_iff, and_assoc]

theorem judge_none (h : s.step? id = none) : s.judgeReady id = s ∧ ∀ scans, s.judgePairing scans id = s := by
  refine ⟨?_, fun scans => ?_⟩
  · rw [State.judgeReady]
    simp only [h]
  · rw [State.judgePairing]
    simp only [h]

/-! ## Pairing (R46, R141) -/

theorem pairingAdmitted_iff (x : PourStep) : s.pairingAdmitted x = true ↔ s.faults.state = .normal ∧
    s.modes.mode = .berth ∧ (∀ e ∈ x.links, tankDefined s.parts e.tank = true) ∧ s.transfers.records.length < 16 := by
  rw [State.pairingAdmitted, Bool.and_eq_true, Bool.and_eq_true, Bool.and_eq_true, Bool.not_eq_true', ← Bool.not_eq_true,
    tableFull_iff, List.all_eq_true, State.isNormal, decide_eq_true_iff, decide_eq_true_iff, Nat.not_le, and_assoc, and_assoc]

/-- A volume that is absent is taken, or stays due. -/
theorem take_eq (e : LinkedEntry) (v : Option Nat) : e.take v =
    if e.volumeAt = none then { e with volumeAt := v, due := decide (v = none) } else e := by
  rw [LinkedEntry.take]
  cases e.volumeAt <;> cases v <;> rfl

theorem judgePairing_some {x : PourStep} (h : s.step? id = some x) (scans : Bool) :
    let u := s.updStep id fun y => { y with
      pairing := .running s.nextId
      links := y.links.map fun e => if e.volumeAt = none then
        { e with volumeAt := (s.tank e.tank).volume, due := decide ((s.tank e.tank).volume = none) } else e }
    let v := u.enrol ⟨.paired, .pump, .discharge, x.links.map fun e => (e.tank, e.target), .step id, none, true⟩
    s.judgePairing scans id =
      if id ∈ ((s.pour.steps.take 2).map fun x => x.id) ∧ x.links ≠ [] ∧ x.pairing = .unpaired ∧ s.faults.state = .normal ∧
          s.modes.mode = .berth ∧ (∀ e ∈ x.links, tankDefined s.parts e.tank = true) ∧
          s.transfers.records.length < 16 then
        (if scans = true then v.scan else v).judgeReady id
      else s := by
  intro u v
  have hid : x.id = id := by simpa using List.find?_some h
  have hlinks : (!x.links.isEmpty) = true ↔ x.links ≠ [] := by simp
  rw [State.judgePairing]
  simp only [h, Bool.and_eq_true, inWindow_iff, hlinks, pairingAdmitted_iff, decide_eq_true_iff, and_assoc,
    PourStep.admission, State.takeVolumes, take_eq, hid]
  rfl

/-! ## The freeing of a record (R63, R142) -/

/-- The freeing notice, step by step. -/
theorem noticeFreed_steps (o : TransferOutcome) : s.noticeFreed id o = s.setPour { s.pour with
    steps := s.pour.steps.map fun x =>
      if x.pairing = .running id then
        match o with
        | .complete => { x with pairing := .done id }
        | .faulted => { x with pairing := .unpaired }
        | .halted => { x with pairing := .unpaired }
        | .relieved => x
        | .retired => x
      else x } := by
  cases o with
  | complete => exact noticeFreed_eq (freed_complete id)
  | faulted => exact noticeFreed_eq (freed_faulted id)
  | halted => exact noticeFreed_eq (freed_halted id)
  | relieved => simp only [noticeFreed_still (freed_relieved id), ite_self, List.map_id']; rfl
  | retired => simp only [noticeFreed_still (freed_retired id), ite_self, List.map_id']; rfl

theorem planIds_noticeFreed (o : TransferOutcome) : (s.noticeFreed id o).planIds = s.planIds := by
  have hmap : (s.pour.steps.map fun x => { x with pairing := x.pairing.freed id o }).map PourStep.id =
      s.pour.steps.map PourStep.id := by
    rw [List.map_map]
    rfl
  exact hmap

/-! ## The window judged afresh, and at a commit (R140, R141, R143) -/

theorem judgeWindow_eq (s : State) :
    let ids := (s.pour.steps.take 2).map fun x => x.id
    let u := s.setPour { s.pour with
      steps := s.pour.steps.map fun x => if x.id ∉ ids ∧ x.state = .ready then { x with state := .planned } else x }
    s.judgeWindow = ids.foldl State.judgeReady (ids.foldl (fun v id => v.judgePairing true id) u) := by
  intro ids u
  have hmap : (s.pour.steps.map fun x =>
      if (s.window.any fun i => decide (i = x.id)) || decide (x.state ≠ .ready) then x else { x with state := .planned }) =
      s.pour.steps.map fun x => if x.id ∉ ids ∧ x.state = .ready then { x with state := .planned } else x := by
    refine List.map_congr_left fun x _ => ?_
    by_cases hready : x.state = .ready <;> simp [State.window, ids, hready]
  have hu : u.planIds = s.planIds := by
    rw [State.planIds, State.planIds]
    change (s.pour.steps.map _).map PourStep.id = _
    rw [List.map_map]
    refine List.map_congr_left fun x _ => ?_
    rw [Function.comp, apply_ite PourStep.id, ite_self]
  have hwindow : u.window = ids := by rw [window_eq, hu, ← window_eq]; rfl
  have hpaired : (u.pairWindow true).window = ids := by rw [window_eq, planIds_pairWindow, hu, ← window_eq]; rfl
  rw [State.judgeWindow, hmap]
  change (u.pairWindow true).window.foldl State.judgeReady (u.pairWindow true) = _
  rw [hpaired, State.pairWindow, hwindow]

theorem pourCommit_eq (s : State) : s.pourCommit =
    ((s.pour.steps.take 2).map fun x => x.id).foldl State.judgeReady (s.setPour { s.pour with
      steps := s.pour.steps.map fun x => { x with links := x.links.map fun e =>
        if e.due = true ∧ e.volumeAt = none then
          { e with volumeAt := (s.tank e.tank).volume, due := decide ((s.tank e.tank).volume = none) } else e } }) := by
  have hwindow : s.commitVolumes.window = (s.pour.steps.take 2).map fun x => x.id := by
    rw [window_eq, State.planIds, State.commitVolumes, pour_setPour, List.map_map, List.map_take]
    rfl
  have hvolumes : s.commitVolumes = s.setPour { s.pour with
      steps := s.pour.steps.map fun x => { x with links := x.links.map fun e =>
        if e.due = true ∧ e.volumeAt = none then
          { e with volumeAt := (s.tank e.tank).volume, due := decide ((s.tank e.tank).volume = none) } else e } } := by
    have hentry (e : LinkedEntry) : (if e.due then e.take (s.tank e.tank).volume else e) =
        if e.due = true ∧ e.volumeAt = none then
          { e with volumeAt := (s.tank e.tank).volume, due := decide ((s.tank e.tank).volume = none) } else e := by
      by_cases hdue : e.due = true <;> simp [hdue, take_eq]
    rw [State.commitVolumes]
    simp only [hentry]
  rw [State.pourCommit]
  dsimp only
  rw [hwindow, hvolumes]

end

/-- Settles O24: each judgement by its lemma; the window is the same before and after, because every judgement keeps the
ids of the plan. -/
theorem theWindowIsJudged : Obligations.TheWindowIsJudged := by
  unfold Obligations.TheWindowIsJudged
  intro ids take fall
  have hids (s : State) : ids s = s.planIds.take 2 := List.map_take
  refine ⟨fun s id h => judge_none h, fun s id x h => judgeReady_some h, fun s id x scans h => judgePairing_some h scans,
    fun s => ?window, fun s => ?commit, fun s scans => rfl, fun s id o => ?freed⟩
  case window =>
    exact judgeWindow_eq s
  case commit =>
    exact pourCommit_eq s
  case freed =>
    intro u
    have hwindow : ((s.freeRecord id).noticeFreed id o).window = ids s := by
      rw [window_eq, planIds_noticeFreed, hids]
      rfl
    rw [State.freeAndTell, State.pairWindow, hwindow, noticeFreed_steps]
    rfl

end Sys2Proof.Machine

/-! # One event on every step of the plan -/

namespace Sys2Proof.Machine

/-- A line takes its place among the slots, and the lines move on (R136). -/
def ShorePort.sent (p : ShorePort) (k : ShoreSlot) (l : Line) : ShorePort :=
  ({ p with slots := placeLine p.slots k l } : ShorePort).pump

/-- What one event does to each step: what the step becomes, and by the step whether STEP-HELD is raised, whether the grant
timer stops, and whether a line goes into the state slot. -/
structure StepEvent where
  change : PourStep → PourStep
  raises : PourStep → Bool
  stops : PourStep → Bool
  speaks : PourStep → Bool
  line : PourStep → Line

/-- The event takes one step of the plan. -/
def StepEvent.apply (e : StepEvent) (u : State) (x : PourStep) : State :=
  ((u.setAttention (if e.raises x then u.attention.raise (.stepHeld x.id) else u.attention)).setPour { u.pour with
    steps := u.pour.steps.map fun y => if y.id = x.id then e.change y else y
    grantTimer := if e.stops x then none else u.pour.grantTimer }).setShore
      (if e.speaks x then u.shore.sent .state (e.line x) else u.shore)

/-- The event has taken a list of steps of the plan. -/
def StepEvent.applied (e : StepEvent) (s : State) (l : List PourStep) : State :=
  ((s.setAttention ((l.filter e.raises).foldl (fun a x => a.raise (.stepHeld x.id)) s.attention)).setPour { s.pour with
    steps := s.pour.steps.map fun y => if y.id ∈ l.map PourStep.id then e.change y else y
    grantTimer := if l.any e.stops then none else s.pour.grantTimer }).setShore
      ((l.filter e.speaks).foldl (fun p x => p.sent .state (e.line x)) s.shore)

/-- A step is the only one of the plan with its id. -/
def State.OnlyStep (s : State) (x : PourStep) : Prop := ∀ y ∈ s.pour.steps, y.id = x.id → y = x

section
variable {e : StepEvent} {s : State}

/-- A change that is made of the one step with an id is made where it stands. -/
theorem OnlyStep.map {x : PourStep} (h : s.OnlyStep x) {f g : PourStep → PourStep} (hx : f x = g x) :
    (s.pour.steps.map fun y => if y.id = x.id then f y else y) = s.pour.steps.map fun y => if y.id = x.id then g y else y := by
  refine List.map_congr_left fun y hy => ?_
  by_cases hid : y.id = x.id
  · rw [if_pos hid, if_pos hid, h y hy hid, hx]
  · rw [if_neg hid, if_neg hid]

theorem OnlyStep.map_id {x : PourStep} (h : s.OnlyStep x) {f : PourStep → PourStep} (hx : f x = x) :
    (s.pour.steps.map fun y => if y.id = x.id then f y else y) = s.pour.steps := by
  rw [OnlyStep.map h (g := fun y => y) hx]
  simp

theorem onlyStep_apply (hid : ∀ y, (e.change y).id = y.id) {x z : PourStep} (hne : z.id ≠ x.id) (h : s.OnlyStep z) :
    (e.apply s x).OnlyStep z := by
  intro y hy hyz
  obtain ⟨w, hw, rfl⟩ := List.mem_map.1 hy
  by_cases hwx : w.id = x.id
  · rw [if_pos hwx, hid, hwx] at hyz
    exact absurd hyz.symm hne
  · rw [if_neg hwx] at hyz ⊢
    exact h w hw hyz

theorem applied_cons (hid : ∀ y, (e.change y).id = y.id) {x : PourStep} {l : List PourStep}
    (hx : x.id ∉ l.map PourStep.id) : e.applied (e.apply s x) l = e.applied s (x :: l) := by
  have hsteps : ((s.pour.steps.map fun y => if y.id = x.id then e.change y else y).map fun y =>
      if y.id ∈ l.map PourStep.id then e.change y else y) =
      s.pour.steps.map fun y => if y.id ∈ (x :: l).map PourStep.id then e.change y else y := by
    rw [List.map_map]
    refine List.map_congr_left fun y _ => ?_
    by_cases hy : y.id = x.id
    · have hout : (e.change y).id ∉ l.map PourStep.id := by rw [hid, hy]; exact hx
      have hin : y.id ∈ (x :: l).map PourStep.id := by rw [hy, List.map_cons]; exact List.mem_cons_self
      rw [Function.comp, if_pos hy, if_neg hout, if_pos hin]
    · simp [hy]
  have hitems : (l.filter e.raises).foldl (fun a y => a.raise (.stepHeld y.id))
      (if e.raises x then s.attention.raise (.stepHeld x.id) else s.attention) =
      ((x :: l).filter e.raises).foldl (fun a y => a.raise (.stepHeld y.id)) s.attention := by
    cases hr : e.raises x <;> simp [hr]
  have htimer : (if l.any e.stops then none else if e.stops x then none else s.pour.grantTimer) =
      if (x :: l).any e.stops then none else s.pour.grantTimer := by
    cases hs : e.stops x <;> simp [hs]
  have hport : (l.filter e.speaks).foldl (fun p y => p.sent .state (e.line y))
      (if e.speaks x then s.shore.sent .state (e.line x) else s.shore) =
      ((x :: l).filter e.speaks).foldl (fun p y => p.sent .state (e.line y)) s.shore := by
    cases hs : e.speaks x <;> simp [hs]
  rw [StepEvent.applied, StepEvent.applied, ← hsteps, ← hitems, ← htimer, ← hport]
  rfl

/-- An event that takes the steps of a plan one by one, where each stands once, has taken them all. -/
theorem foldl_applied {f : State → PourStep → State} (hid : ∀ y, (e.change y).id = y.id)
    (hf : ∀ u x, u.OnlyStep x → f u x = e.apply u x) (l : List PourStep) (hl : (l.map PourStep.id).Nodup)
    (honly : ∀ x ∈ l, s.OnlyStep x) : l.foldl f s = e.applied s l := by
  induction l generalizing s with
  | nil => simp [StepEvent.applied]; rfl
  | cons x l ih =>
    rw [List.map_cons, List.nodup_cons] at hl
    obtain ⟨hx, hl⟩ := hl
    rw [List.foldl_cons, hf s x (honly x List.mem_cons_self), ih hl, applied_cons hid hx]
    intro z hz
    refine onlyStep_apply hid (fun hzx => hx ?_) (honly z (List.mem_cons_of_mem _ hz))
    rw [← hzx]
    exact List.mem_map_of_mem hz

theorem onlyStep_of_nodup (h : (s.pour.steps.map fun x => x.id).Nodup) {x : PourStep} (hx : x ∈ s.pour.steps) :
    s.OnlyStep x := fun _ hy hid => List.inj_on_of_nodup_map h hy hx hid

/-- The lines of an event, sent one after the other. -/
theorem shore_foldl_shoreSend (l : List PourStep) (line : PourStep → Line) (u : State) :
    (l.foldl (fun u x => u.shoreSend .state (line x)) u).shore =
      l.foldl (fun p x => p.sent .state (line x)) u.shore := by
  induction l generalizing u with
  | nil => rfl
  | cons x l ih => exact ih _

/-- An event on the whole plan, which names each step once. -/
theorem foldl_steps {f : State → PourStep → State} (hid : ∀ y, (e.change y).id = y.id)
    (hf : ∀ u x, u.OnlyStep x → f u x = e.apply u x) (h : (s.pour.steps.map fun x => x.id).Nodup) :
    s.pour.steps.foldl f s =
      ((s.setAttention ((s.pour.steps.filter e.raises).foldl (fun a x => a.raise (.stepHeld x.id)) s.attention)).setPour
        { s.pour with
          steps := s.pour.steps.map e.change
          grantTimer := if s.pour.steps.any e.stops then none else s.pour.grantTimer }).setShore
        ((s.pour.steps.filter e.speaks).foldl (fun u x => u.shoreSend .state (e.line x)) s).shore := by
  have hmap : (s.pour.steps.map fun y => if y.id ∈ s.pour.steps.map PourStep.id then e.change y else y) =
      s.pour.steps.map e.change :=
    List.map_congr_left fun y hy => if_pos (List.mem_map_of_mem hy)
  rw [foldl_applied hid hf _ h fun x hx => onlyStep_of_nodup h hx, StepEvent.applied, hmap, shore_foldl_shoreSend]

end

end Sys2Proof.Machine

/-! # Steps held and released (O25) -/

namespace Sys2Proof.Machine

/-! ## BLOCK and the release as events on the plan -/

/-- What BLOCK does to each step (R150). -/
def blockEvent (c : HoldCause) : StepEvent where
  change x :=
    if x.state = .granted then { x with state := .ready, granted := none }
    else if x.state = .pouring then { x with state := .held, cause := some c, granted := none }
    else x
  raises x := decide (x.state = .pouring)
  stops x := decide (x.state = .granted)
  speaks x := decide (x.state = .granted ∨ x.state = .pouring)
  line x := .pour .HO [fnat x.id, .word c.word]

/-- What the release does to each step (R152). -/
def releaseEvent : StepEvent where
  change x := if x.state = .held ∧ x.cause ≠ some .overrun then { x with state := .ready, cause := none } else x
  raises _ := false
  stops _ := false
  speaks x := decide (x.state = .held ∧ x.cause ≠ some .overrun)
  line x := .pour .GO [fnat x.id, fnat (x.planned - x.tally)]

section
variable {s : State} {x : PourStep}

/-- A step that an event leaves stays as it is, and so does the state. -/
theorem apply_still {e : StepEvent} (h : s.OnlyStep x) (hc : e.change x = x) (hr : e.raises x = false)
    (hs : e.stops x = false) (hp : e.speaks x = false) : e.apply s x = s := by
  rw [StepEvent.apply, OnlyStep.map_id h hc, hr, hs, hp]
  rfl

theorem blockStep_apply (c : HoldCause) (h : s.OnlyStep x) : s.blockStep c x = (blockEvent c).apply s x := by
  unfold State.blockStep
  cases hx : x.state with
  | granted =>
    have hchange : (blockEvent c).change x = { x with state := .ready, granted := none } := if_pos hx
    rw [StepEvent.apply, OnlyStep.map h (g := fun y => { y with state := .ready, granted := none }) hchange]
    simp [blockEvent, hx]
    rfl
  | pouring =>
    have hchange : (blockEvent c).change x = { x with state := .held, cause := some c, granted := none } := by
      simp [blockEvent, hx]
    rw [StepEvent.apply, OnlyStep.map h (g := fun y => { y with state := .held, cause := some c, granted := none }) hchange]
    simp [blockEvent, hx]
    rfl
  | planned | ready | held =>
    exact (apply_still h (by simp [blockEvent, hx]) (by simp [blockEvent, hx]) (by simp [blockEvent, hx])
      (by simp [blockEvent, hx])).symm

theorem releasable_iff (x : PourStep) : releasable x = true ↔ x.state = .held ∧ x.cause ≠ some .overrun := by
  rw [releasable, Bool.and_eq_true, decide_eq_true_iff, decide_eq_true_iff]

theorem releaseStep_apply (h : s.OnlyStep x) : s.releaseStep x = releaseEvent.apply s x := by
  unfold State.releaseStep
  by_cases hx : releasable x = true
  · have hheld := (releasable_iff x).1 hx
    have hchange : releaseEvent.change x = { x with state := .ready, cause := none } := if_pos hheld
    rw [if_pos hx, StepEvent.apply, OnlyStep.map h (g := fun y => { y with state := .ready, cause := none }) hchange]
    simp [releaseEvent, hheld]
    rfl
  · have hheld := (releasable_iff x).not.1 hx
    rw [if_neg hx]
    exact (apply_still h (if_neg hheld) rfl rfl (decide_eq_false hheld)).symm

theorem blockEvent_id (c : HoldCause) (y : PourStep) : ((blockEvent c).change y).id = y.id := by
  simp only [blockEvent]
  split
  · rfl
  · split <;> rfl

theorem releaseEvent_id (y : PourStep) : (releaseEvent.change y).id = y.id := by
  simp only [releaseEvent]
  split <;> rfl

/-! ## The end of a clearance (R147) -/

theorem endClearance_eq (l : Line) : s.endClearance l =
    if s.pour.clearance = none then s
    else ((s.setPour { s.pour with clearance := none }).withdrawPrediction).shoreReply l := by
  rw [State.endClearance]
  cases s.pour.clearance <;> rfl

theorem withdrawPrediction_cond (u : State) (h : u.cond = s.cond) : u.withdrawPrediction = u.setCond s.withdrawPrediction.cond := by
  unfold State.withdrawPrediction
  rw [h]
  cases hq : s.cond.request with
  | none => rw [← h]; rfl
  | some q => rfl

/-- A clearance in progress ends with HO and a cause, its prediction withdrawn. -/
theorem endClearanceHold_eq (w : String) : s.endClearanceHold w =
    (((s.setCond (if s.pour.clearance = none then s else s.withdrawPrediction).cond).setPour
      { s.pour with clearance := none }).setShore
      (match s.pour.clearance with
      | none => s
      | some id => s.shoreReply (.pour .HO [fnat id, .word w])).shore) := by
  rw [State.endClearanceHold]
  cases hc : s.pour.clearance with
  | none =>
    have hpour : ({ s.pour with clearance := none } : PourPlan) = s.pour := by rw [← hc]
    simp only [if_true, hpour]
    rfl
  | some id =>
    simp only [endClearance_eq, hc, reduceCtorEq, if_false]
    rw [withdrawPrediction_cond (s := s) (s.setPour { s.pour with clearance := none }) rfl]
    rfl

theorem shoreReply_shore {u v : State} (h : u.shore = v.shore) (l : Line) : (u.shoreReply l).shore = (v.shoreReply l).shore := by
  rw [State.shoreReply, State.shoreReply, State.shoreSend, State.shoreSend, h]
  rfl

/-- The end of a clearance after an event that kept the clearance and the prediction: the state before it tells what is
withdrawn, and the lines of the event go before HO. -/
theorem endClearanceHold_after {u said : State} (hcond : u.cond = s.cond) (hclearance : u.pour.clearance = s.pour.clearance)
    (hshore : u.shore = said.shore) (w : String) : u.endClearanceHold w =
    (((u.setCond (if s.pour.clearance = none then s else s.withdrawPrediction).cond).setPour
      { u.pour with clearance := none }).setShore
      (match s.pour.clearance with
      | none => said
      | some id => said.shoreReply (.pour .HO [fnat id, .word w])).shore) := by
  rw [endClearanceHold_eq, hclearance]
  cases hc : s.pour.clearance with
  | none => simp only [if_true, hcond, hshore]
  | some id =>
    have hwithdrawn : u.withdrawPrediction.cond = s.withdrawPrediction.cond := by
      rw [withdrawPrediction_cond u hcond]
      rfl
    simp only [reduceCtorEq, if_false, hwithdrawn, shoreReply_shore hshore]

/-! ## The blocking reading (R127) -/

theorem blockingReading_none_iff : s.blockingReading.isNone = true ↔ ∀ i ∈ List.range 36, (s.watched i).state = .off ∨
    (s.watched i).state = .clear ∨ (s.watched i).state = .caution := by
  have hblocks (x : MarginState) : x.blocks = false ↔ x = .off ∨ x = .clear ∨ x = .caution := by cases x <;> simp [MarginState.blocks]
  have hempty : s.blockingSet = [] ↔ ∀ i ∈ List.range 36, (s.watched i).state.blocks = false := by
    simp only [State.blockingSet, watchedIndices, List.filter_eq_nil_iff, Bool.not_eq_true]
  simp only [← hblocks]
  rw [← hempty, State.blockingReading]
  cases hb : s.blockingSet with
  | nil => simp
  | cons i l => split <;> simp

end

/-- Settles O25. -/
theorem poursAreHeldAndReleased : Obligations.PoursAreHeldAndReleased := by
  unfold Obligations.PoursAreHeldAndReleased
  intro once
  refine ⟨fun s c hs => ?block, fun s l => endClearance_eq l, fun s => rfl, fun s step hold tonnes hq => ?ask,
    fun s q hq => ⟨fun step hold tonnes => ?asked, ?begin⟩, fun s hs => ?release⟩
  case block =>
    intro t pouring said
    have hfold := foldl_steps (blockEvent_id c) (fun u x h => blockStep_apply c h) hs
    have htimer : (if s.pour.steps.any (blockEvent c).stops = true then none else s.pour.grantTimer) =
        if ∃ x ∈ s.pour.steps, x.state = .granted then none else s.pour.grantTimer := by
      simp only [blockEvent, List.any_eq_true, decide_eq_true_iff]
    rw [htimer] at hfold
    change (s.pour.steps.foldl (fun s x => s.blockStep c x) s).endClearanceHold c.word = _
    refine (endClearanceHold_after (s := s) (said := said) ?_ ?_ ?_ c.word).trans ?_
    · rw [hfold]; rfl
    · rw [hfold]; rfl
    · rw [hfold]; rfl
    · rw [hfold]; rfl
  case ask =>
    have hbusy (u : State) : u.condBusy = true ↔ u.cond.evaluation ≠ none ∨ u.cond.prediction ≠ none := by
      simp [State.condBusy, Option.isSome_iff_ne_none]
    rw [State.askPrediction]
    simp only [hq, hbusy]
    rfl
  case asked =>
    rw [State.askPrediction]
    simp only [hq]
  case begin =>
    rw [State.beginPrediction]
    simp only [hq]
    rfl
  case release =>
    intro held
    have hfold := foldl_steps releaseEvent_id (fun u x h => releaseStep_apply h) hs
    have hcond : (s.isNormal && decide (s.modes.mode = .berth) && s.blockingReading.isNone) = true ↔
        s.faults.state = .normal ∧ s.modes.mode = .berth ∧ ∀ i ∈ List.range 36, (s.watched i).state = .off ∨
          (s.watched i).state = .clear ∨ (s.watched i).state = .caution := by
      rw [Bool.and_eq_true, Bool.and_eq_true, blockingReading_none_iff, State.isNormal, decide_eq_true_iff,
        decide_eq_true_iff, and_assoc]
    rw [State.judgeRelease]
    have hraises : s.pour.steps.filter releaseEvent.raises = [] := by simp [releaseEvent]
    have hstops : s.pour.steps.any releaseEvent.stops = false := by simp [releaseEvent]
    rw [hraises, hstops] at hfold
    simp only [hcond, hfold]
    rfl

end Sys2Proof.Machine

/-! # The records of the condition: FW, HC, BR and TD (O26) -/

namespace Sys2Proof.Machine

/-- The command FW is the console request with its own checks and effect. -/
theorem exec_fixedWeight (ps : List Int) (s : State) : exec (.fixedWeight ps) s =
    .next (s.consoleRequest .FW ps (fwChecks s ps) fun s => s.takeFW ps) := rfl

/-- The command HC is the console request with its own checks and effect. -/
theorem exec_holdCargo (ps : List Int) (s : State) : exec (.holdCargo ps) s =
    .next (s.consoleRequest .HC ps (hcChecks s ps) fun s => s.takeHC ps) := rfl

/-- The command BR is the console request with its own checks and effect. -/
theorem exec_berthRecord (ps : List Int) (s : State) : exec (.berthRecord ps) s =
    .next (s.consoleRequest .BR ps (brChecks s ps) fun s => s.takeBR ps) := rfl

/-- The command TD is the console request with its own checks and effect. -/
theorem exec_tide (ps : List Int) (s : State) : exec (.tide ps) s =
    .next (s.consoleRequest .TD ps (tdChecks s ps) fun s => s.takeTD ps) := rfl

/-- The numbers 1 to `n` that pass a check, ascending. -/
theorem numbers_filter (n : Nat) (f : Nat → Bool) :
    (numbers n).filter f = (List.range (n + 1)).filter fun k => decide (1 ≤ k ∧ f k = true) := by
  have h : List.range (n + 1) = 0 :: numbers n := by rw [numbers, List.range_succ_eq_map]
  rw [h, List.filter_cons_of_neg (by simp)]
  refine List.filter_congr fun k hk => ?_
  obtain ⟨j, _, rfl⟩ := List.mem_map.1 hk
  simp

section
variable {s : State}

theorem condBusy_iff : s.condBusy = true ↔ s.cond.evaluation ≠ none ∨ s.cond.prediction ≠ none := by
  simp [State.condBusy, Option.isSome_iff_ne_none]

theorem pourOpen_iff {x : PourStep} : x.pourOpen = true ↔ x.state = .granted ∨ x.state = .pouring := by
  rw [PourStep.pourOpen, Bool.or_eq_true, decide_eq_true_iff, decide_eq_true_iff]

theorem pourActive_iff : s.pourActive = true ↔ ∃ x ∈ s.pour.steps, x.state = .granted ∨ x.state = .pouring := by
  simp only [State.pourActive, List.any_eq_true, pourOpen_iff]

theorem takeFW_eq (ps : List Int) : s.takeFW ps = (s.setItemRecord (parN ps 1) ⟨parN ps 2, true⟩).massChange.reply .FW
    [fnat (parN ps 1), fnat (parN ps 2), fstamp (s.cond.stamp + 1)] := by
  rw [State.takeFW]
  rw [stamp_massChange]
  rfl

theorem takeHC_eq (ps : List Int) : s.takeHC ps = (s.setHoldRecord (parN ps 1) ⟨parN ps 2, true⟩).massChange.reply .HC
    [fnat (parN ps 1), fnat (parN ps 2), fstamp (s.cond.stamp + 1)] := by
  rw [State.takeHC]
  rw [stamp_massChange]
  rfl

/-- A check on two values fails exactly outside one of their ranges. -/
theorem not_inRange_and_iff {a b x c d y : Int} : (!(inRange a b x && inRange c d y)) = true ↔
    ¬ (a ≤ x ∧ x ≤ b ∧ c ≤ y ∧ y ≤ d) := by
  rw [Bool.not_eq_true', ← Bool.not_eq_true, Bool.and_eq_true, inRange_iff, inRange_iff, and_assoc]

end

/-- Settles O26: the ladder of each verb rung by rung, then the request for an evaluation. -/
theorem conditionRecordsAreSet : Obligations.ConditionRecordsAreSet := by
  unfold Obligations.ConditionRecordsAreSet
  intro s ps
  dsimp only
  refine ⟨fun htakes => ?weight, fun htakes => ?hold, fun htakes => ?berth, fun htakes => ?tide,
    fun p => ⟨numbers_filter 24 _, numbers_filter 9 _, numbers_filter 8 _⟩, rfl, ?request⟩
  case weight =>
    rw [exec_fixedWeight, fwChecks]
    simp only [consoleRequest_cons htakes, consoleRequest_nil htakes]
    refine congrArg Host.Outcome.next ?_
    refine rung decide_eq_true_iff fun _ => ?_
    refine rung not_inRange_and_iff fun _ => ?_
    refine rung inRestart_iff fun _ => ?_
    exact rung (by rw [Bool.not_eq_true']) fun _ => takeFW_eq ps
  case hold =>
    rw [exec_holdCargo, hcChecks]
    simp only [consoleRequest_cons htakes, consoleRequest_nil htakes]
    refine congrArg Host.Outcome.next ?_
    refine rung decide_eq_true_iff fun _ => ?_
    refine rung not_inRange_and_iff fun _ => ?_
    refine rung inRestart_iff fun _ => ?_
    refine rung (by rw [Bool.not_eq_true']) fun _ => ?_
    exact rung (by simp only [List.any_eq_true, Bool.and_eq_true, decide_eq_true_iff, pourOpen_iff]) fun _ => takeHC_eq ps
  case berth =>
    rw [exec_berthRecord, brChecks]
    simp only [consoleRequest_cons htakes, consoleRequest_nil htakes]
    refine congrArg Host.Outcome.next ?_
    refine rung decide_eq_true_iff fun _ => ?_
    refine rung (by
      rw [Bool.not_eq_true', ← Bool.not_eq_true, Bool.and_eq_true, inRange_iff, List.all_eq_true, and_assoc]
      simp only [inRange_iff]) fun _ => ?_
    refine rung inRestart_iff fun _ => ?_
    exact rung pourActive_iff fun _ => rfl
  case tide =>
    rw [exec_tide, tdChecks]
    simp only [consoleRequest_cons htakes, consoleRequest_nil htakes]
    refine congrArg Host.Outcome.next ?_
    refine rung decide_eq_true_iff fun _ => ?_
    refine rung not_inRange_iff fun _ => ?_
    exact rung inRestart_iff fun _ => rfl
  case request =>
    rw [State.requestEvaluation]
    simp only [condBusy_iff]
    rfl

end Sys2Proof.Machine

/-! # The condition and the margins reported: KQ, DQ and WQ (O28) -/

namespace Sys2Proof.Machine

/-- The command KQ is the console request with its own checks and effect. -/
theorem exec_conditionQuery (ps : List Int) (s : State) : exec (.conditionQuery ps) s =
    .next (s.consoleRequest .KQ ps (kqChecks s ps) fun s => s.reply .KQ (s.kqFields (par ps 1))) := rfl

/-- The command DQ is the shore request with its own checks and effect. -/
theorem exec_draftQuery (ps : List Int) (s : State) : exec (.draftQuery ps) s =
    .next (s.shoreRequest .DQ ps (dqChecks s ps) fun s => s.shoreReply (.reply .DQ s.dqFields)) := rfl

/-- The command WQ is the console request with its own checks and effect. -/
theorem exec_watchedQuantityQuery (ps : List Int) (s : State) : exec (.watchedQuantityQuery ps) s =
    .next (s.consoleRequest .WQ ps (wqChecks s ps) fun s => s.reply .WQ (s.wqFields ps)) := rfl

section
variable (s : State)

/-! ## The leaves of KQ (R114, R115) -/

theorem requestField_eq (q : Option PredictionRequest) : Field.word (requestWord q) =
    match q with
    | none => .word "NONE"
    | some q => .word (if q.running = true then "RUNNING" else "HELD") := by
  cases q <;> rfl

theorem recordField_eq (x : Option InputState) : fnat? (x.bind InputState.record?) =
    match x with
    | some (.tank k) => fnat k
    | some (.hold k) => fnat k
    | some (.item k) => fnat k
    | _ => .empty := by
  cases x with
  | none => rfl
  | some x => cases x <;> rfl

theorem evaluationWord_eq : s.cond.evaluationWord = if s.cond.evaluation = none then "IDLE" else "RUNNING" := by
  rw [ConditionUnit.evaluationWord]
  cases s.cond.evaluation <;> rfl

/-- The height and the age of the tide are shown while it is set. -/
theorem tideFields_eq : s.tideFields = .word s.cond.tide.state.word ::
    if s.cond.tide.state = .unset then [.empty, .empty]
    else [.num s.cond.tide.height, fnat (min 65535 ((s.now - s.cond.tide.since) / 1000))] := by
  rw [State.tideFields]
  by_cases h : s.cond.tide.state = .unset <;> simp [h, fwhen, State.secondsSince]

theorem kqSummary_eq : s.kqSummary =
    [s.publishedStamp, fstamp s.cond.stamp, .word (if s.cond.evaluation = none then "IDLE" else "RUNNING"),
      .num (if s.cond.again = true then 1 else 0), .word (requestWord s.cond.request),
      fnat? (s.cond.request.map fun q => q.runs), fword? (s.cond.published.map fun c => c.inputState.word),
      fnat? ((s.cond.published.map fun c => c.inputState).bind InputState.record?), s.shown fun c => c.displacement,
      s.shown fun c => c.mean, s.shown fun c => c.forward, s.shown fun c => c.aft, s.shown fun c => c.trim,
      s.shown fun c => c.list, s.shown fun c => c.ukc, s.shown fun c => c.least.map fun q => q.1, s.leastHold,
      .word s.cond.tide.state.word] ++
      if s.cond.tide.state = .unset then [.empty, .empty]
      else [.num s.cond.tide.height, fnat (min 65535 ((s.now - s.cond.tide.since) / 1000))] := by
  rw [State.kqSummary, tideFields_eq, evaluationWord_eq, Option.bind_map]
  rfl

theorem kqHolds_eq : s.kqHolds = s.publishedStamp :: (List.range 9).flatMap fun k =>
    [s.shown fun c => (c.holdDraft[k]?).join, s.shown fun c => (c.holdAir[k]?).join] := by
  rw [State.kqHolds, numbers, List.flatMap_map]
  rfl

theorem kqInputs_eq : s.kqInputs =
    (List.range 8).map (fun k =>
      if itemDefined s.parts (k + 1) = true ∧ (s.itemRecord (k + 1)).set = true then fnat (s.itemRecord (k + 1)).mass
      else .empty) ++
    match s.cond.berth with
    | some b => [fnat b.port, fnat b.depth, fnat b.boom, fnat b.minUkc, fnat b.minAir, .word "SET"]
    | none => [.empty, .empty, .empty, .empty, .empty, .word "UNSET"] := by
  have hitem (k : Nat) : fwhen (itemDefined s.parts k) (s.itemRecord k).field =
      if itemDefined s.parts k = true ∧ (s.itemRecord k).set = true then fnat (s.itemRecord k).mass else .empty := by
    cases h1 : itemDefined s.parts k <;> cases h2 : (s.itemRecord k).set <;> simp [fwhen, MassRecord.field, h2]
  rw [State.kqInputs, numbers, List.map_map, List.append_assoc]
  simp only [Function.comp_def, hitem]
  cases s.cond.berth <;> rfl

/-! ## The leaves of WQ (R132, R133) -/

theorem wqObject_eq (n : Nat) : s.wqObject n =
    if n < 32 then fnat (n / 2 + 1)
    else if n = 35 ∧ (s.watched n).value ≠ none then s.leastHold
    else .empty := by
  rw [State.wqObject]
  by_cases h : n = 35
  · subst h
    cases (s.watched 35).value <;> simp [fwhen]
  · simp [h]

theorem wqLimit_eq (n : Nat) : s.wqLimit n =
    if (s.watched n).state = .off then .empty
    else if n < 34 then (if s.modes.mode.limits = .off then .empty
      else fnat (upperLimit s.parts s.modes.mode.limits n (s.watched n).sign))
    else if s.cond.berth = none then .empty
    else fnat (requiredClearance s.cond.berth n) := by
  rw [State.wqLimit]
  cases s.modes.mode.limits <;> cases s.cond.berth <;> simp [fwhen]

theorem setWord_eq (r : Option Recipe) : (if r.isSome then "SET" else "EMPTY") = if r = none then "EMPTY" else "SET" := by
  cases r <;> rfl

theorem wqEntry_eq (n : Nat) : s.wqEntry n =
    let e := s.watched n
    [fnat n, .word (quantityWord n), s.wqObject n, fint? e.value, fnat? e.percent, .word e.state.word, .word e.sign.word,
      s.wqLimit n, fstamp? e.stamp, .word (if recipeSlot s.parts n e.sign = none then "EMPTY" else "SET"),
      fnat? ((s.transfers.records.find? fun t => decide (t.source = .recipe n e.sign)).map fun t => t.id)] := by
  rw [State.wqEntry, setWord_eq]
  rfl

end

/-- Settles O28: the ladder of each verb rung by rung, then the leaf asked for. -/
theorem conditionAndMarginsAreReported : Obligations.ConditionAndMarginsAreReported := by
  unfold Obligations.ConditionAndMarginsAreReported
  refine ⟨fun s ps => ⟨fun htakes => ?condition, fun htakes => ?draft⟩, fun s ps htakes => ?margins⟩
  case condition =>
    rw [exec_conditionQuery, kqChecks]
    simp only [consoleRequest_cons htakes, consoleRequest_nil htakes]
    refine congrArg Host.Outcome.next ?_
    refine rung decide_eq_true_iff fun _ => ?_
    refine rung not_inRange_iff fun hrange => ?_
    refine rung inRestart_iff fun _ => ?_
    generalize par ps 1 = leaf at hrange ⊢
    obtain rfl | rfl | rfl | rfl : leaf = 0 ∨ leaf = 1 ∨ leaf = 2 ∨ leaf = 3 := by omega
    · rw [if_pos rfl, State.kqFields, if_neg (by decide), if_neg (by decide), if_neg (by decide), kqSummary_eq,
        recordField_eq, requestField_eq]
      rfl
    · rw [if_neg (by decide), if_pos rfl]
      rfl
    · rw [if_neg (by decide), if_neg (by decide), if_pos rfl, State.kqFields, if_neg (by decide), if_pos rfl, kqHolds_eq]
      rfl
    · rw [if_neg (by decide), if_neg (by decide), if_neg (by decide), State.kqFields, if_neg (by decide),
        if_neg (by decide), if_pos rfl]
      exact congrArg (s.reply .KQ) (kqInputs_eq s)
  case draft =>
    rw [exec_draftQuery, dqChecks]
    simp only [shoreRequest_cons htakes, shoreRequest_nil htakes]
    refine congrArg Host.Outcome.next ?_
    refine rung decide_eq_true_iff fun _ => ?_
    exact rung inRestart_iff fun _ => rfl
  case margins =>
    dsimp only
    rw [exec_watchedQuantityQuery, wqChecks]
    simp only [consoleRequest_cons htakes, consoleRequest_nil htakes]
    refine congrArg Host.Outcome.next ?_
    refine rung decide_eq_true_iff fun _ => ?_
    refine rung (by simp only [Bool.or_eq_true, Bool.and_eq_true, decide_eq_true_iff, not_inRange_iff]) fun _ => ?_
    refine rung inRestart_iff fun _ => ?_
    rw [State.wqFields, apply_ite (s.reply .WQ), apply_ite (s.reply .WQ), wqEntry_eq, wqObject_eq, wqLimit_eq]
    rfl

end Sys2Proof.Machine

/-! # The arithmetic of the condition (R105) -/

namespace Sys2Proof.Machine

section
variable {a b : Option Int} {v x y lo hi : Int}

/-- A value in its range, else none. -/
def inside (lo hi v : Int) : Option Int := if lo ≤ v ∧ v ≤ hi then some v else none

/-! ## The operations -/

theorem checked_eq_some : checked x = some v ↔ v = x ∧ x.natAbs ≤ 2147483647 := by
  have h : (intermediateBound.toNat) = 2147483647 := rfl
  rw [checked, h]
  split
  next hx => simp [hx, eq_comm]
  next hx => simp [hx]

theorem checked_of_le (h : x.natAbs ≤ 2147483647) : checked x = some x := checked_eq_some.2 ⟨rfl, h⟩

theorem checked_of_lt (h : ¬ x.natAbs ≤ 2147483647) : checked x = none := if_neg h

/-- A quotient is no further from 0 than its dividend. -/
theorem natAbs_tdiv_le (x y : Int) : (Int.tdiv x y).natAbs ≤ x.natAbs := by
  rw [Int.natAbs_tdiv]
  exact Nat.div_le_self _ _

/-- A range inside the bound checks the intermediate value itself. -/
theorem within_checked (hlo : -2147483647 ≤ lo) (hhi : hi ≤ 2147483647) (v : Int) :
    within lo hi (checked v) = inside lo hi v := by
  by_cases hv : v.natAbs ≤ 2147483647
  · rw [checked_of_le hv, within, inside]
    simp only [inRange_iff]
  · rw [checked_of_lt hv, within, inside, if_neg (by omega)]

theorem within_eq_some : within lo hi a = some v ↔ a = some v ∧ lo ≤ v ∧ v ≤ hi := by
  cases a with
  | none => simp [within]
  | some x =>
    simp only [within, inRange_iff]
    split
    next h => 
      simp only [Option.some.injEq]
      constructor
      · rintro rfl
        exact ⟨rfl, h⟩
      · exact fun h => h.1
    next h =>
      simp only [reduceCtorEq, Option.some.injEq, false_iff]
      rintro ⟨rfl, h'⟩
      exact h h'

theorem mulC_eq_some : mulC a b = some v ↔ ∃ x y, a = some x ∧ b = some y ∧ v = x * y ∧ (x * y).natAbs ≤ 2147483647 := by
  cases a <;> cases b <;> simp [mulC, checked_eq_some]

theorem addC_eq_some : addC a b = some v ↔ ∃ x y, a = some x ∧ b = some y ∧ v = x + y ∧ (x + y).natAbs ≤ 2147483647 := by
  cases a <;> cases b <;> simp [addC, checked_eq_some]

theorem subC_eq_some : subC a b = some v ↔ ∃ x y, a = some x ∧ b = some y ∧ v = x - y ∧ (x - y).natAbs ≤ 2147483647 := by
  cases a <;> cases b <;> simp [subC, checked_eq_some]

theorem subC_some (x y : Int) : subC (some x) (some y) = checked (x - y) := rfl

theorem subC_none_left : subC none b = none := by cases b <;> rfl

theorem subC_none_right : subC a none = none := by cases a <;> rfl

theorem divC_eq_some : divC a b = some v → ∃ x y, a = some x ∧ b = some y ∧ y ≠ 0 ∧ v = Int.tdiv x y := by
  cases a with
  | none => simp [divC]
  | some x =>
    cases b with
    | none => simp [divC]
    | some y =>
      simp only [divC]
      split
      · simp
      next hy =>
        intro h
        exact ⟨x, y, rfl, rfl, hy, (checked_eq_some.1 h).1⟩

/-- A quotient has a value when its divisor is not 0 and its dividend within the bound. -/
theorem divC_some (hx : x.natAbs ≤ 2147483647) (hy : y ≠ 0) : divC (some x) (some y) = some (Int.tdiv x y) := by
  have hq : (Int.tdiv x y).natAbs ≤ 2147483647 := (natAbs_tdiv_le x y).trans hx
  simp only [divC, if_neg hy, checked_of_le hq]

theorem divC_zero : divC a (some 0) = none := by cases a <;> simp [divC]

theorem divC_none : divC none b = none := by cases b <;> rfl

theorem mulC_of_le (h : (x * y).natAbs ≤ 2147483647) : mulC (some x) (some y) = some (x * y) := checked_of_le h

/-! ## Sums -/

theorem sumC_none (l : List (Option Int)) : sumC none l = none := by
  induction l with
  | nil => rfl
  | cons a l ih =>
    have h : addC none a = none := by cases a <;> rfl
    rw [sumC, List.foldl_cons, h]
    exact ih

theorem sumC_cons (k : Option Int) (a : Option Int) (l : List (Option Int)) : sumC k (a :: l) = sumC (addC k a) l := rfl

variable {α : Type}

/-- A sum that has a value is the sum of its terms, which all have one. -/
theorem sumC_eq_some {f : α → Option Int} {l : List α} {k : Int} (h : sumC (some k) (l.map f) = some v) :
    (∀ x ∈ l, f x ≠ none) ∧ v = k + (l.map fun x => (f x).getD 0).sum := by
  induction l generalizing k with
  | nil =>
    have hk : k = v := by simpa [sumC] using h
    simp [hk]
  | cons x l ih =>
    rw [List.map_cons, sumC_cons] at h
    cases hx : f x with
    | none =>
      have hnone : addC (some k) none = none := rfl
      rw [hx, hnone, sumC_none] at h
      cases h
    | some y =>
      cases hs : addC (some k) (f x) with
      | none =>
        rw [hs, sumC_none] at h
        cases h
      | some z =>
        rw [hs] at h
        obtain ⟨hall, hv⟩ := ih h
        obtain ⟨_, y', hk', hy', hz, _⟩ := addC_eq_some.1 hs
        cases hk'
        refine ⟨?_, ?_⟩
        · intro w hw
          rcases List.mem_cons.1 hw with rfl | hw
          · simp [hx]
          · exact hall w hw
        · rw [hv, hz, List.map_cons, List.sum_cons, hy']
          simp only [Option.getD_some]
          omega

/-- A sum of terms that all have a value has one when their magnitudes stay within the bound. -/
theorem sumC_of_small {f : α → Option Int} {g : α → Int} {l : List α} {k : Int} (hf : ∀ x ∈ l, f x = some (g x))
    (h : k.natAbs + (l.map fun x => (g x).natAbs).sum ≤ 2147483647) :
    sumC (some k) (l.map f) = some (k + (l.map g).sum) := by
  induction l generalizing k with
  | nil => simp [sumC]
  | cons x l ih =>
    rw [List.map_cons, List.sum_cons] at h
    have hx : addC (some k) (f x) = some (k + g x) := by
      rw [hf x List.mem_cons_self]
      exact checked_of_le (by omega)
    rw [List.map_cons, sumC_cons, hx, ih (fun y hy => hf y (List.mem_cons_of_mem _ hy)) (by omega), List.map_cons,
      List.sum_cons, Int.add_assoc]

/-- The magnitude of a sum is at most the sum of the magnitudes. -/
theorem natAbs_sum_le (g : α → Int) (l : List α) (k : Int) :
    (k + (l.map g).sum).natAbs ≤ k.natAbs + (l.map fun x => (g x).natAbs).sum := by
  induction l generalizing k with
  | nil => simp
  | cons x l ih =>
    rw [List.map_cons, List.sum_cons, List.map_cons, List.sum_cons, ← Int.add_assoc]
    have hk := ih (k + g x)
    omega

/-- A magnitude is at most the sum of the magnitudes. -/
theorem natAbs_le_sum (g : α → Int) {l : List α} {x : α} (hx : x ∈ l) : (g x).natAbs ≤ (l.map fun y => (g y).natAbs).sum :=
  List.le_sum_of_mem (List.mem_map_of_mem (f := fun y => (g y).natAbs) hx)

end

end Sys2Proof.Machine

/-! # The quantities of a run (R106 to R110) -/

namespace Sys2Proof.Machine

/-- The mass of a term, 0 where it is INDEFINITE. -/
def MassTerm.value (x : MassTerm) : Int := x.mass.getD 0

/-- The sum of a value over the masses of a run, from a beginning. -/
def RunInputs.total (r : RunInputs) (k : Int) (f : MassTerm → Int) : Int := k + (r.terms.map f).sum

/-- Every mass has a value, and the magnitudes of what is summed stay together within the bound. -/
def RunInputs.Small (r : RunInputs) (k : Int) (f : MassTerm → Int) : Prop :=
  (∀ x ∈ r.terms, x.mass ≠ none) ∧ k.natAbs + (r.terms.map fun x => (f x).natAbs).sum ≤ 2147483647

section
variable {r : RunInputs} {v k : Int}

theorem mass_eq_value {x : MassTerm} (h : x.mass ≠ none) : x.mass = some x.value := by
  rw [MassTerm.value]
  cases hx : x.mass with
  | none => exact absurd hx h
  | some m => rfl

/-! ## Sums over the masses -/

/-- A sum of products that has a value. -/
theorem sumC_products {c : MassTerm → Int} (h : sumC (some k) (r.terms.map fun x => mulC x.mass (some (c x))) = some v) :
    v = r.total k fun x => x.value * c x := by
  obtain ⟨hall, hv⟩ := sumC_eq_some h
  rw [hv, RunInputs.total]
  congr 2
  refine List.map_congr_left fun x hx => ?_
  obtain ⟨p, hp⟩ := Option.ne_none_iff_exists'.1 (hall x hx)
  obtain ⟨m, w, hm, hw, rfl, _⟩ := mulC_eq_some.1 hp
  cases hw
  rw [hp, MassTerm.value, hm]
  rfl

/-- A sum of products has a value while the magnitudes stay within the bound. -/
theorem sumC_products_small {c : MassTerm → Int} (h : r.Small k fun x => x.value * c x) :
    sumC (some k) (r.terms.map fun x => mulC x.mass (some (c x))) = some (r.total k fun x => x.value * c x) := by
  obtain ⟨hmass, hsum⟩ := h
  refine sumC_of_small (fun x hx => ?_) hsum
  dsimp only at hsum
  have hle := natAbs_le_sum (fun x : MassTerm => x.value * c x) hx
  rw [mass_eq_value (hmass x hx)]
  exact mulC_of_le (by omega)

/-- A thousandth of a product that has a value. -/
theorem perMille_eq_some {a : Option Int} {c : Int} (h : perMille a c = some v) : ∃ m, a = some m ∧ v = Int.tdiv (m * c) 1000 := by
  obtain ⟨p, q, hp, hq, _, rfl⟩ := divC_eq_some h
  obtain ⟨m, w, hm, hw, rfl, _⟩ := mulC_eq_some.1 hp
  cases hw
  cases hq
  exact ⟨m, hm, rfl⟩

theorem perMille_some {m c : Int} (h : (m * c).natAbs ≤ 2147483647) : perMille (some m) c = some (Int.tdiv (m * c) 1000) := by
  rw [perMille, mulC_of_le h, divC_some h (by decide)]

theorem sumC_perMille {c : MassTerm → Int} (h : sumC (some k) (r.terms.map fun x => perMille x.mass (c x)) = some v) :
    v = r.total k fun x => Int.tdiv (x.value * c x) 1000 := by
  obtain ⟨hall, hv⟩ := sumC_eq_some h
  rw [hv, RunInputs.total]
  congr 2
  refine List.map_congr_left fun x hx => ?_
  obtain ⟨p, hp⟩ := Option.ne_none_iff_exists'.1 (hall x hx)
  obtain ⟨m, hm, rfl⟩ := perMille_eq_some hp
  rw [hp, MassTerm.value, hm]
  rfl

theorem sumC_perMille_small {c : MassTerm → Int} (hproducts : ∀ x ∈ r.terms, (x.value * c x).natAbs ≤ 2147483647)
    (h : r.Small k fun x => Int.tdiv (x.value * c x) 1000) :
    sumC (some k) (r.terms.map fun x => perMille x.mass (c x)) =
      some (r.total k fun x => Int.tdiv (x.value * c x) 1000) := by
  obtain ⟨hmass, hsum⟩ := h
  refine sumC_of_small (fun x hx => ?_) hsum
  rw [mass_eq_value (hmass x hx)]
  exact perMille_some (hproducts x hx)

/-! ## Displacement, mean draft, trim and list (R107, R108) -/

theorem displacement_eq_some (h : r.displacement = some v) :
    v = r.total (pword r.particulars 6) MassTerm.value ∧ 0 ≤ v ∧ v ≤ 2147483647 := by
  obtain ⟨hsum, hrange⟩ := within_eq_some.1 h
  exact ⟨(sumC_eq_some hsum).2, hrange⟩

theorem displacement_small (h : r.Small (pword r.particulars 6) MassTerm.value)
    (h0 : 0 ≤ r.total (pword r.particulars 6) MassTerm.value) :
    r.displacement = some (r.total (pword r.particulars 6) MassTerm.value) := by
  have hsum : sumC (some (pword r.particulars 6)) (r.terms.map fun x => x.mass) =
      some (r.total (pword r.particulars 6) MassTerm.value) :=
    sumC_of_small (fun x hx => mass_eq_value (h.1 x hx)) h.2
  have hle := (natAbs_sum_le MassTerm.value r.terms (pword r.particulars 6)).trans h.2
  rw [RunInputs.displacement, hsum, within_eq_some]
  rw [RunInputs.total] at h0 ⊢
  exact ⟨rfl, h0, by omega⟩

theorem meanDraft_eq : r.meanDraft = r.displacement.bind fun d =>
    if pword r.particulars 3 = 0 then none else inside 0 9999 (Int.tdiv d (pword r.particulars 3)) := by
  rw [RunInputs.meanDraft]
  cases hd : r.displacement with
  | none => rw [divC_none]; rfl
  | some d =>
    obtain ⟨_, h0, h1⟩ := displacement_eq_some hd
    rw [Option.bind_some]
    by_cases hw : pword r.particulars 3 = 0
    · rw [if_pos hw, hw, divC_zero]; rfl
    · have hq := (natAbs_tdiv_le d (pword r.particulars 3))
      rw [if_neg hw, divC_some (by omega) hw, ← within_checked (by decide) (by decide), checked_of_le (by omega)]

theorem moment_eq_some (h : r.moment = some v) : v = r.total (pword r.particulars 7) fun x => x.value * x.longitudinal :=
  sumC_products h

theorem trim_eq_some (h : r.trim = some v) :
    v = - Int.tdiv (r.total (pword r.particulars 7) fun x => x.value * x.longitudinal) (10 * pword r.particulars 4) ∧
      pword r.particulars 4 ≠ 0 ∧ -9999 ≤ v ∧ v ≤ 9999 := by
  obtain ⟨hv, hrange⟩ := within_eq_some.1 h
  obtain ⟨q, hq, rfl⟩ := Option.map_eq_some_iff.1 hv
  obtain ⟨m, d, hm, hd, hne, rfl⟩ := divC_eq_some hq
  obtain ⟨_, _, h1, h2, rfl, _⟩ := mulC_eq_some.1 hd
  cases h1
  cases h2
  rw [moment_eq_some hm]
  exact ⟨rfl, by omega, moment_eq_some hm ▸ hrange⟩

theorem trim_small (h : r.Small (pword r.particulars 7) fun x => x.value * x.longitudinal)
    (hd : (10 * pword r.particulars 4).natAbs ≤ 2147483647) (hne : pword r.particulars 4 ≠ 0) :
    r.trim = inside (-9999) 9999
      (- Int.tdiv (r.total (pword r.particulars 7) fun x => x.value * x.longitudinal) (10 * pword r.particulars 4)) := by
  have hmoment : r.moment = some (r.total (pword r.particulars 7) fun x => x.value * x.longitudinal) := sumC_products_small h
  have hle := (natAbs_sum_le (fun x : MassTerm => x.value * x.longitudinal) r.terms (pword r.particulars 7)).trans h.2
  rw [← RunInputs.total] at hle
  have hq := (natAbs_tdiv_le (r.total (pword r.particulars 7) fun x => x.value * x.longitudinal)
    (10 * pword r.particulars 4)).trans hle
  rw [RunInputs.trim, hmoment, mulC_of_le hd, divC_some hle (by omega), Option.map_some,
    ← within_checked (by decide) (by decide), checked_of_le (by omega)]

theorem list_eq_some (h : r.list = some v) :
    v = Int.tdiv (r.total 0 fun x => x.value * x.transverse) (pword r.particulars 5) ∧ pword r.particulars 5 ≠ 0 ∧
      -900 ≤ v ∧ v ≤ 900 := by
  obtain ⟨hv, hrange⟩ := within_eq_some.1 h
  obtain ⟨m, d, hm, hd, hne, rfl⟩ := divC_eq_some hv
  cases hd
  rw [sumC_products hm] at hrange ⊢
  exact ⟨rfl, hne, hrange⟩

theorem list_small (h : r.Small 0 fun x => x.value * x.transverse) (hne : pword r.particulars 5 ≠ 0) :
    r.list = inside (-900) 900 (Int.tdiv (r.total 0 fun x => x.value * x.transverse) (pword r.particulars 5)) := by
  have hsum := sumC_products_small h
  have hle := (natAbs_sum_le (fun x : MassTerm => x.value * x.transverse) r.terms 0).trans h.2
  rw [← RunInputs.total] at hle
  have hq := (natAbs_tdiv_le (r.total 0 fun x => x.value * x.transverse) (pword r.particulars 5)).trans hle
  rw [RunInputs.list, hsum, divC_some hle hne, ← within_checked (by decide) (by decide), checked_of_le (by omega)]

/-! ## Drafts (R107) -/

theorem draftAt_eq (x : Int) : r.draftAt x =
    match r.meanDraft, r.trim with
    | some m, some t =>
      if (t * x).natAbs ≤ 2147483647 ∧ pword r.particulars 2 ≠ 0 then
        inside 0 9999 (m - Int.tdiv (t * x) (pword r.particulars 2))
      else none
    | _, _ => none := by
  rw [RunInputs.draftAt]
  cases r.meanDraft with
  | none => rw [subC_none_left]; rfl
  | some m =>
    cases r.trim with
    | none =>
      have h : mulC none (some x) = none := rfl
      rw [h, divC_none, subC_none_right]
      rfl
    | some t =>
      dsimp only
      by_cases hp : (t * x).natAbs ≤ 2147483647
      · by_cases hw : pword r.particulars 2 = 0
        · rw [hw, divC_zero, subC_none_right, if_neg (by simp)]
          rfl
        · rw [if_pos ⟨hp, hw⟩, mulC_of_le hp, divC_some hp hw, subC_some, within_checked (by decide) (by decide)]
      · have h : mulC (some t) (some x) = none := checked_of_lt hp
        rw [h, divC_none, subC_none_right, if_neg fun h => hp h.1]
        rfl

/-! ## Stations (R109) -/

theorem shearAt_eq_some {n : Nat} (h : r.shearAt n = some v) : ∃ d, r.displacement = some d ∧
    v = (r.total (pword r.particulars (stationBase n + 10)) fun x =>
      Int.tdiv (x.value * pword r.particulars (x.shearBase + (n - 1))) 1000) -
      Int.tdiv (d * pword r.particulars (stationBase n + 12)) 1000 ∧ -9999999 ≤ v ∧ v ≤ 9999999 := by
  obtain ⟨hv, hrange⟩ := within_eq_some.1 h
  obtain ⟨a, b, ha, hb, rfl, _⟩ := subC_eq_some.1 hv
  obtain ⟨d, hd, rfl⟩ := perMille_eq_some hb
  rw [sumC_perMille ha] at hrange ⊢
  exact ⟨d, hd, rfl, hrange⟩

theorem bendingAt_eq_some {n : Nat} (h : r.bendingAt n = some v) : ∃ d, r.displacement = some d ∧
    v = (r.total (pword r.particulars (stationBase n + 11)) fun x =>
      Int.tdiv (x.value * pword r.particulars (x.bendingBase + (n - 1))) 1000) -
      Int.tdiv (d * pword r.particulars (stationBase n + 13)) 1000 ∧ -99999999 ≤ v ∧ v ≤ 99999999 := by
  obtain ⟨hv, hrange⟩ := within_eq_some.1 h
  obtain ⟨a, b, ha, hb, rfl, _⟩ := subC_eq_some.1 hv
  obtain ⟨d, hd, rfl⟩ := perMille_eq_some hb
  rw [sumC_perMille ha] at hrange ⊢
  exact ⟨d, hd, rfl, hrange⟩

theorem shearAt_small {n : Nat} {d : Int} (hd : r.displacement = some d)
    (hproducts : ∀ x ∈ r.terms, (x.value * pword r.particulars (x.shearBase + (n - 1))).natAbs ≤ 2147483647)
    (h : r.Small (pword r.particulars (stationBase n + 10)) fun x =>
      Int.tdiv (x.value * pword r.particulars (x.shearBase + (n - 1))) 1000)
    (hproduct : (d * pword r.particulars (stationBase n + 12)).natAbs ≤ 2147483647) :
    r.shearAt n = inside (-9999999) 9999999 ((r.total (pword r.particulars (stationBase n + 10)) fun x =>
      Int.tdiv (x.value * pword r.particulars (x.shearBase + (n - 1))) 1000) -
      Int.tdiv (d * pword r.particulars (stationBase n + 12)) 1000) := by
  rw [RunInputs.shearAt, sumC_perMille_small hproducts h, hd, perMille_some hproduct, subC_some, within_checked (by decide) (by decide)]

theorem bendingAt_small {n : Nat} {d : Int} (hd : r.displacement = some d)
    (hproducts : ∀ x ∈ r.terms, (x.value * pword r.particulars (x.bendingBase + (n - 1))).natAbs ≤ 2147483647)
    (h : r.Small (pword r.particulars (stationBase n + 11)) fun x =>
      Int.tdiv (x.value * pword r.particulars (x.bendingBase + (n - 1))) 1000)
    (hproduct : (d * pword r.particulars (stationBase n + 13)).natAbs ≤ 2147483647) :
    r.bendingAt n = inside (-99999999) 99999999 ((r.total (pword r.particulars (stationBase n + 11)) fun x =>
      Int.tdiv (x.value * pword r.particulars (x.bendingBase + (n - 1))) 1000) -
      Int.tdiv (d * pword r.particulars (stationBase n + 13)) 1000) := by
  rw [RunInputs.bendingAt, sumC_perMille_small hproducts h, hd, perMille_some hproduct, subC_some, within_checked (by decide) (by decide)]

/-! ## Clearances (R110) -/

theorem alongside_none (h : r.berth = none ∨ r.tideState ≠ .fresh) : r.alongside = none := by
  rw [RunInputs.alongside]
  rcases h with h | h <;> simp [h]

theorem alongside_some {b : BerthRecord} (hb : r.berth = some b) (ht : r.tideState = .fresh) : r.alongside = some b := by
  rw [RunInputs.alongside, if_pos ht, hb]

theorem ukc_none (h : r.alongside = none) : r.ukc = none := by
  rw [RunInputs.ukc, h]

theorem airAt_none (h : r.alongside = none) (n : Nat) : r.airAt n = none := by
  rw [RunInputs.airAt, h]

theorem ukc_eq {b : BerthRecord} (h : r.alongside = some b) : r.ukc =
    match r.draftAt r.foreEnd, r.draftAt (-r.foreEnd) with
    | some f, some a =>
      if ((b.depth : Int) + r.tideHeight).natAbs ≤ 2147483647 then
        inside (-9999) 9999 (b.depth + r.tideHeight - max f a)
      else none
    | _, _ => none := by
  rw [RunInputs.ukc, h]
  cases r.draftAt r.foreEnd with
  | none => rfl
  | some f =>
    cases r.draftAt (-r.foreEnd) with
    | none => rfl
    | some a =>
      dsimp only
      by_cases hd : ((b.depth : Int) + r.tideHeight).natAbs ≤ 2147483647
      · have hsum : addC (some (b.depth : Int)) (some r.tideHeight) = some (b.depth + r.tideHeight) := checked_of_le hd
        rw [if_pos hd, hsum, subC_some, within_checked (by decide) (by decide)]
      · have hsum : addC (some (b.depth : Int)) (some r.tideHeight) = none := checked_of_lt hd
        rw [if_neg hd, hsum, subC_none_left]
        rfl

theorem airAt_eq_some {b : BerthRecord} (h : r.alongside = some b) {n : Nat} (hv : r.airAt n = some v) :
    ∃ d, r.holdDraft n = some d ∧ v = b.boom - r.tideHeight - (pword r.particulars (holdBase n + 2) - d) ∧
      -9999 ≤ v ∧ v ≤ 9999 := by
  rw [RunInputs.airAt, h] at hv
  obtain ⟨hv, hrange⟩ := within_eq_some.1 hv
  obtain ⟨x, y, hx, hy, rfl, _⟩ := subC_eq_some.1 hv
  obtain ⟨_, _, h1, h2, rfl, _⟩ := subC_eq_some.1 hx
  cases h1
  cases h2
  obtain ⟨_, d, h3, hd, rfl, _⟩ := subC_eq_some.1 hy
  cases h3
  exact ⟨d, hd, rfl, hrange⟩

theorem airAt_small {b : BerthRecord} (h : r.alongside = some b) {n : Nat} {d : Int} (hd : r.holdDraft n = some d)
    (h1 : ((b.boom : Int) - r.tideHeight).natAbs ≤ 2147483647)
    (h2 : (pword r.particulars (holdBase n + 2) - d).natAbs ≤ 2147483647) :
    r.airAt n = inside (-9999) 9999 (b.boom - r.tideHeight - (pword r.particulars (holdBase n + 2) - d)) := by
  rw [RunInputs.airAt, h]
  dsimp only
  rw [hd, subC_some, checked_of_le h1, subC_some, checked_of_le h2, subC_some, within_checked (by decide) (by decide)]

/-! ## The least clearance (R110) -/

/-- One clearance before others, which have a least. -/
theorem leastAir_cons (q : Option Int × Nat) {l : List (Option Int × Nat)} (hl : l ≠ []) : leastAir (q :: l) =
    match q.1, leastAir l with
    | some v, some p => some (lesser (v, q.2) p)
    | _, _ => none := by
  cases l with
  | nil => exact absurd rfl hl
  | cons p l =>
    obtain ⟨a, h⟩ := q
    cases a <;> rfl

/-- The least of clearances in the order of their holds: it is one of them, none is less, and none before it is as little. -/
theorem leastAir_eq_some {l : List (Option Int × Nat)} (hl : l.Pairwise fun x y => x.2 < y.2) {a : Int} {h : Nat}
    (hla : leastAir l = some (a, h)) : (some a, h) ∈ l ∧ ∀ q ∈ l, ∃ v, q.1 = some v ∧ a ≤ v ∧ (q.2 < h → a < v) := by
  induction l generalizing a h with
  | nil => cases hla
  | cons q l ih =>
    obtain ⟨hq, hl⟩ := List.pairwise_cons.1 hl
    by_cases hnil : l = []
    · subst hnil
      obtain ⟨v, hv, he⟩ := Option.map_eq_some_iff.1 hla
      cases he
      have hself : q = (some a, q.2) := by rw [← hv]
      refine ⟨hself ▸ List.mem_cons_self, fun p hp => ?_⟩
      cases List.mem_singleton.1 hp
      exact ⟨a, hv, Int.le_refl a, fun hlt => absurd hlt (Nat.lt_irrefl _)⟩
    · rw [leastAir_cons q hnil] at hla
      cases hv : q.1 with
      | none => simp [hv] at hla
      | some v =>
        cases hp : leastAir l with
        | none => simp [hv, hp] at hla
        | some p =>
          obtain ⟨hmem, hleast⟩ := ih hl hp
          have hqp := hq _ hmem
          have hself : q = (some v, q.2) := by rw [← hv]
          simp only [hv, hp, Option.some.injEq, lesser] at hla
          by_cases hlt : p.1 < v
          · rw [if_pos hlt] at hla
            subst hla
            refine ⟨List.mem_cons_of_mem _ hmem, fun y hy => ?_⟩
            rcases List.mem_cons.1 hy with rfl | hy
            · exact ⟨v, hv, Int.le_of_lt hlt, fun _ => hlt⟩
            · exact hleast y hy
          · rw [if_neg hlt] at hla
            cases hla
            refine ⟨hself ▸ List.mem_cons_self, fun y hy => ?_⟩
            rcases List.mem_cons.1 hy with rfl | hy
            · exact ⟨a, hv, Int.le_refl a, fun h => absurd h (Nat.lt_irrefl _)⟩
            · obtain ⟨w, hw, hle, _⟩ := hleast y hy
              exact ⟨w, hw, by omega, fun h => absurd h (Nat.lt_asymm (hq y hy))⟩

/-- There is no least clearance without a hold, or with one INDEFINITE. -/
theorem leastAir_none (l : List (Option Int × Nat)) : leastAir l = none ↔ l = [] ∨ ∃ q ∈ l, q.1 = none := by
  induction l with
  | nil => simp [leastAir]
  | cons q l ih =>
    by_cases hnil : l = []
    · subst hnil
      simp [leastAir]
    · rw [leastAir_cons q hnil]
      cases hv : q.1 with
      | none => simp [hv]
      | some v =>
        cases hp : leastAir l with
        | none => simpa [hv, hp, hnil] using ih
        | some p => simpa [hv, hp, hnil] using ih

/-- The least of a quantity over numbers in their order. -/
theorem least_map_eq_some {f : Nat → Option Int} {l : List Nat} (hl : l.Pairwise (· < ·)) {a : Int} {h : Nat}
    (hla : leastAir (l.map fun k => (f k, k)) = some (a, h)) :
    h ∈ l ∧ f h = some a ∧ ∀ k ∈ l, ∃ v, f k = some v ∧ a ≤ v ∧ (k < h → a < v) := by
  obtain ⟨hmem, hall⟩ := leastAir_eq_some (List.pairwise_map.2 hl) hla
  obtain ⟨k, hk, he⟩ := List.mem_map.1 hmem
  obtain ⟨hf, rfl⟩ := Prod.mk.inj he
  exact ⟨hk, hf, fun j hj => hall _ (List.mem_map_of_mem (f := fun k => (f k, k)) hj)⟩

theorem least_map_none {f : Nat → Option Int} {l : List Nat} :
    leastAir (l.map fun k => (f k, k)) = none ↔ l = [] ∨ ∃ k ∈ l, f k = none := by
  simp [leastAir_none]

/-- No hold has a clearance away from a berth. -/
theorem least_away (h : r.alongside = none) : leastAir (r.holds.map fun x => (r.airAt x.number, x.number)) = none := by
  rw [leastAir_none]
  cases hh : r.holds with
  | nil => exact .inl rfl
  | cons x l => exact .inr ⟨_, List.mem_cons_self, airAt_none h _⟩

/-! ## What the condition shows -/

/-- A quantity kept for each of a row of numbers from 1. -/
theorem join_ofFn {m : Nat} (f : Nat → Option Int) {n : Nat} (h1 : 1 ≤ n) (hm : n ≤ m) :
    (((Vector.ofFn fun i : Fin m => f (i.val + 1)) : Vector (Option Int) m)[n - 1]?).join = f n := by
  rw [Vector.getElem?_ofFn, dif_pos (by omega)]
  simp only [Option.join_some]
  rw [Nat.sub_add_cancel h1]

/-- A row of INDEFINITE quantities. -/
theorem join_ofFn_none {m : Nat} {f : Nat → Option Int} (hf : ∀ n, f n = none) (k : Nat) :
    (((Vector.ofFn fun i : Fin m => f (i.val + 1)) : Vector (Option Int) m)[k]?).join = none := by
  rw [Vector.getElem?_ofFn]
  split
  · simp [hf]
  · rfl

theorem whenComplete_of (h : r.state = .complete) (x : Option Int) : whenComplete r x = x := if_pos h

theorem whenComplete_none (h : r.state ≠ .complete) (x : Option Int) : whenComplete r x = none := if_neg h

theorem shear_compute {n : Nat} (h1 : 1 ≤ n) (h16 : n ≤ 16) : (r.compute.shear[n - 1]?).join =
    if stationDefined r.particulars n then whenComplete r (r.shearAt n) else none :=
  join_ofFn (fun n => if stationDefined r.particulars n then whenComplete r (r.shearAt n) else none) h1 h16

theorem bending_compute {n : Nat} (h1 : 1 ≤ n) (h16 : n ≤ 16) : (r.compute.bending[n - 1]?).join =
    if stationDefined r.particulars n then whenComplete r (r.bendingAt n) else none :=
  join_ofFn (fun n => if stationDefined r.particulars n then whenComplete r (r.bendingAt n) else none) h1 h16

theorem holdDraft_compute {n : Nat} (h1 : 1 ≤ n) (h9 : n ≤ 9) : (r.compute.holdDraft[n - 1]?).join =
    if holdDefined r.particulars n then whenComplete r (r.holdDraft n) else none :=
  join_ofFn (fun n => if holdDefined r.particulars n then whenComplete r (r.holdDraft n) else none) h1 h9

theorem holdAir_compute {n : Nat} (h1 : 1 ≤ n) (h9 : n ≤ 9) : (r.compute.holdAir[n - 1]?).join =
    if holdDefined r.particulars n then whenComplete r (r.airAt n) else none :=
  join_ofFn (fun n => if holdDefined r.particulars n then whenComplete r (r.airAt n) else none) h1 h9

theorem holdAir_away (h : r.alongside = none) (k : Nat) : (r.compute.holdAir[k]?).join = none :=
  join_ofFn_none (f := fun n => if holdDefined r.particulars n then whenComplete r (r.airAt n) else none)
    (fun n => by rw [airAt_none h, whenComplete, ite_self, ite_self]) k

/-- A condition whose inputs are not COMPLETE has no quantity (R106). -/
theorem compute_incomplete (h : r.state ≠ .complete) (k : Nat) : (r.compute.shear[k]?).join = none ∧
    (r.compute.bending[k]?).join = none ∧ (r.compute.holdDraft[k]?).join = none ∧ (r.compute.holdAir[k]?).join = none := by
  refine ⟨join_ofFn_none (f := fun n => if stationDefined r.particulars n then whenComplete r (r.shearAt n) else none) ?_ k,
    join_ofFn_none (f := fun n => if stationDefined r.particulars n then whenComplete r (r.bendingAt n) else none) ?_ k,
    join_ofFn_none (f := fun n => if holdDefined r.particulars n then whenComplete r (r.holdDraft n) else none) ?_ k,
    join_ofFn_none (f := fun n => if holdDefined r.particulars n then whenComplete r (r.airAt n) else none) ?_ k⟩ <;>
    exact fun n => by rw [whenComplete_none h, ite_self]

/-! ## The inputs (R106, R111) -/

/-- The input state is the first case that applies. -/
theorem inputState_eq (r : RunInputs) : r.state =
    if r.particulars = none then .particulars
    else
      match r.tanks.find? fun x => !x.known, r.holds.find? fun x => !x.known, r.items.find? fun x => !x.known with
      | some x, _, _ => .tank x.number
      | none, some x, _ => .hold x.number
      | none, none, some x => .item x.number
      | none, none, none => .complete := by
  rw [RunInputs.state]
  simp only [Option.isNone_iff_eq_none]
  cases r.tanks.find? fun x => !x.known with
  | some x => rfl
  | none =>
    cases r.holds.find? fun x => !x.known with
    | some x => rfl
    | none => cases r.items.find? fun x => !x.known <;> rfl

/-- The mass of a hold, a prediction's tonnes added to its own (R111). -/
theorem extraMass_eq (extra : Option (Nat × Int)) (x : MassInput) :
    (match extra with
      | some (h, tonnes) => if h = x.number then addC (some x.mass) (some tonnes) else some x.mass
      | none => some x.mass) =
    match extra with
    | none => some x.mass
    | some (h, tonnes) =>
      if h ≠ x.number then some x.mass
      else if (x.mass + tonnes).natAbs ≤ 2147483647 then some (x.mass + tonnes)
      else none := by
  cases extra with
  | none => rfl
  | some q =>
    obtain ⟨h, tonnes⟩ := q
    dsimp only
    by_cases hh : h = x.number
    · rw [if_pos hh, if_neg (not_not.2 hh)]
      rfl
    · rw [if_neg hh, if_pos hh]

theorem definedHolds_sorted (p : Option Memory) : (definedHolds p).Pairwise (· < ·) := by
  refine List.Pairwise.filter _ ?_
  rw [numbers, List.pairwise_map]
  exact List.pairwise_lt_range.imp fun h => Nat.succ_lt_succ h

theorem mem_definedHolds {p : Option Memory} {h : Nat} : h ∈ definedHolds p ↔ (1 ≤ h ∧ h ≤ 9) ∧ holdDefined p h = true := by
  simp only [definedHolds, numbers, List.mem_filter, List.mem_map, List.mem_range]
  refine and_congr_left fun _ => ⟨?_, fun hh => ⟨h - 1, by omega, by omega⟩⟩
  rintro ⟨k, hk, rfl⟩
  omega

end

/-- Settles O27: the stamp and the input state, the masses, the INDEFINITE case, then each quantity by its lemma. -/
theorem conditionIsComputed : Obligations.ConditionIsComputed := by
  unfold Obligations.ConditionIsComputed
  intro r w c bound mass sum small inside' moment heel draft fore
  refine ⟨⟨rfl, rfl, rfl, rfl, inputState_eq r⟩, ?terms, fun h => ?incomplete, fun h => ?complete⟩
  case terms =>
    intro term
    have hholds := List.map_congr_left (l := r.holds) fun x _ =>
      congrArg (term (holdBase x.number) 3 5 21) (extraMass_eq r.extra x)
    exact congrArg (fun l => r.tanks.map (fun x => term (tankBase x.number) 24 26 42 (some x.mass)) ++ l ++
      r.items.map fun x => term (itemBase x.number) 1 3 19 (some x.mass)) hholds
  case incomplete =>
    have hall (x : Option Int) : whenComplete r x = none := whenComplete_none h x
    have hrow := compute_incomplete h
    exact ⟨hall _, hall _, hall _, hall _, hall _, hall _, hall _, if_neg h, fun k => (hrow k).1, fun k => (hrow k).2.1,
      fun k => (hrow k).2.2.1, fun k => (hrow k).2.2.2⟩
  case complete =>
    have hall (x : Option Int) : whenComplete r x = x := whenComplete_of h x
    have hd : c.displacement = r.displacement := hall _
    have hm : c.mean = r.meanDraft := hall _
    have ht : c.trim = r.trim := hall _
    have hdraft (x : Int) : draft x = r.draftAt x := by
      simp only [draft]
      rw [hm, ht, draftAt_eq]
      rfl
    have hforward : c.forward = draft fore := (hall _).trans (hdraft _).symm
    have haft : c.aft = draft (-fore) := (hall _).trans (hdraft _).symm
    have hstation {n : Nat} (h1 : 1 ≤ n) (h16 : n ≤ 16) (hn : stationDefined r.particulars n = true) :
        (c.shear[n - 1]?).join = r.shearAt n ∧ (c.bending[n - 1]?).join = r.bendingAt n :=
      ⟨(shear_compute h1 h16).trans ((if_pos hn).trans (hall _)), (bending_compute h1 h16).trans ((if_pos hn).trans (hall _))⟩
    have hhold {n : Nat} (h1 : 1 ≤ n) (h9 : n ≤ 9) (hn : holdDefined r.particulars n = true) :
        (c.holdDraft[n - 1]?).join = r.holdDraft n ∧ (c.holdAir[n - 1]?).join = r.airAt n :=
      ⟨(holdDraft_compute h1 h9).trans ((if_pos hn).trans (hall _)), (holdAir_compute h1 h9).trans ((if_pos hn).trans (hall _))⟩
    refine ⟨fun d hd' => displacement_eq_some (hd ▸ hd'), fun hs h0 => hd.trans (displacement_small hs h0), ?mean,
      fun t ht' => trim_eq_some (ht ▸ ht'), fun hs hb hne => ht.trans (trim_small hs hb hne), hforward, haft,
      fun v hv => list_eq_some ((hall _).symm.trans hv), fun hs hne => (hall _).trans (list_small hs hne),
      fun n h1 h16 hn => ?station, fun n h1 h16 hn => ?noStation, fun n h1 h9 hn => ?hold, fun n h1 h9 hn => ?noHold,
      fun hout => ?away, fun b hb hfresh => ?alongside⟩
    case mean => exact hm.trans (hd ▸ meanDraft_eq)
    case station =>
      obtain ⟨hshear, hbending⟩ := hstation h1 h16 hn
      refine ⟨fun v hv => ?_, fun v hv => ?_, fun d hd' => ⟨fun hp hs hq => ?_, fun hp hs hq => ?_⟩⟩
      · rw [hd]; exact shearAt_eq_some (hshear ▸ hv)
      · rw [hd]; exact bendingAt_eq_some (hbending ▸ hv)
      · exact hshear.trans (shearAt_small (hd ▸ hd') hp hs hq)
      · exact hbending.trans (bendingAt_small (hd ▸ hd') hp hs hq)
    case noStation =>
      exact ⟨(shear_compute h1 h16).trans (by rw [hn]; rfl), (bending_compute h1 h16).trans (by rw [hn]; rfl)⟩
    case hold => exact (hhold h1 h9 hn).1.trans (hdraft _).symm
    case noHold =>
      exact ⟨(holdDraft_compute h1 h9).trans (by rw [hn]; rfl), (holdAir_compute h1 h9).trans (by rw [hn]; rfl)⟩
    case away =>
      have hnone := alongside_none hout
      exact ⟨(hall _).trans (ukc_none hnone), (if_pos h).trans (least_away hnone), holdAir_away hnone⟩
    case alongside =>
      have hb' := alongside_some hb hfresh
      refine ⟨?ukc, fun n h1 h9 hn => ?air, fun hnumbers => ?least⟩
      case ukc =>
        rw [show c.forward = r.draftAt r.foreEnd from hall _, show c.aft = r.draftAt (-r.foreEnd) from hall _]
        exact (hall _).trans (ukc_eq hb')
      case air =>
        obtain ⟨hdepth, hair⟩ := hhold h1 h9 hn
        rw [hdepth, hair]
        exact ⟨fun v hv => airAt_eq_some hb' hv, fun d hd' h1 h2 => airAt_small hb' hd' h1 h2⟩
      case least =>
        have hair {k : Nat} (hk : k ∈ definedHolds r.particulars) : (c.holdAir[k - 1]?).join = r.airAt k := by
          obtain ⟨⟨h1, h9⟩, hn⟩ := mem_definedHolds.1 hk
          exact (hhold h1 h9 hn).2
        have hleast : c.least = leastAir ((definedHolds r.particulars).map fun k => (r.airAt k, k)) := by
          rw [← hnumbers, List.map_map]
          exact if_pos h
        rw [hleast]
        refine ⟨fun a k hk => ?_, ?_⟩
        · obtain ⟨hmem, hk, hall⟩ := least_map_eq_some (definedHolds_sorted _) hk
          exact ⟨hmem, (hair hmem).trans hk, fun j hj => by rw [hair hj]; exact hall j hj⟩
        · rw [least_map_none]
          exact or_congr_right (exists_congr fun k => and_congr_right fun hk => by rw [hair hk])

end Sys2Proof.Machine

/-! # The reports: RP and RA, the composer, the lines (O29, O30, O31) -/

namespace Sys2Proof.Machine

/-- The command RP is the console request with its own checks and effect. -/
theorem exec_report (ps : List Int) (s : State) : exec (.report ps) s =
    .next (s.consoleRequest .RP ps (rpChecks s ps) fun s => s.takeRP ps) := rfl

/-- The command RA is the console request with its own checks and effect. -/
theorem exec_reportAbort (ps : List Int) (s : State) : exec (.reportAbort ps) s =
    .next (s.consoleRequest .RA ps (raChecks s ps) State.takeRA) := rfl

section
variable {s : State}

/-! ## What the composer asks of the records -/

theorem departureHolds_iff : s.departureHolds = true ↔ s.pour.steps = [] ∧ s.transfers.records = [] ∧
    s.movers.m1.phase = .idle ∧ s.movers.m2.phase = .idle ∧ s.movers.m3.phase = .idle := by
  simp only [State.departureHolds, allMovers, List.all_cons, List.all_nil, Bool.and_true, Bool.and_eq_true,
    decide_eq_true_iff, List.isEmpty_iff, and_assoc]
  rfl

theorem not_departureHolds_iff : (!s.departureHolds) = true ↔ ¬ (s.pour.steps = [] ∧ s.transfers.records = [] ∧
    s.movers.m1.phase = .idle ∧ s.movers.m2.phase = .idle ∧ s.movers.m3.phase = .idle) := by
  rw [Bool.not_eq_true', ← Bool.not_eq_true, departureHolds_iff]

/-- A kind is sent by the number that asks for it (R172). -/
theorem number_ofParam {x : Int} (h : 1 ≤ x ∧ x ≤ 4) : fnat (ReportKind.ofParam x).number = .num x := by
  obtain rfl | rfl | rfl | rfl : x = 1 ∨ x = 2 ∨ x = 3 ∨ x = 4 := by omega
  all_goals rfl

/-- DEPART joins no cause when a departure report finds its conditions broken (R174, R180). -/
theorem abortNow_eq (kind : ReportKind) (abort : Option AbortCause) : s.abortNow kind abort =
    match abort with
    | some c => some c
    | none =>
      if kind = .departure ∧ ¬ (s.pour.steps = [] ∧ s.transfers.records = [] ∧ s.movers.m1.phase = .idle ∧
        s.movers.m2.phase = .idle ∧ s.movers.m3.phase = .idle) then some .depart
      else none := by
  cases abort with
  | some c => simp [State.abortNow]
  | none =>
    refine if_congr ?_ rfl rfl
    rw [Option.isNone_none, Bool.and_true, Bool.and_eq_true, decide_eq_true_iff, not_departureHolds_iff]

/-- The footer with its outcome; that of a departure report without a cause places DR (R156, R175). -/
theorem composeFooter_eq (kind : ReportKind) (start : Stamp) (abort : Option AbortCause) :
    s.composeFooter kind start abort =
      (if kind = .departure ∧ abort = none then
        (s.setComposerState .idle).shoreSend .departure (.pour .DR (s.setComposerState .idle).drFields)
      else s.setComposerState .idle,
      .report .END [fstamp start, fstamp s.cond.stamp,
        .word (if abort ≠ none then "ABORTED" else if start = s.cond.stamp then "STEADY" else "MOVING"),
        fword? (abort.map AbortCause.word), fnat s.composer.body]) := by
  rw [State.composeFooter]
  cases abort <;> simp [reportOutcome]

theorem abortNow_setConsole (c : ConsolePort) (kind : ReportKind) (abort : Option AbortCause) :
    (s.setConsole c).abortNow kind abort = s.abortNow kind abort := rfl

/-- The records that a report reads are not the console's. -/
theorem findLine_setConsole (c : ConsolePort) (kind : ReportKind) (l : List Section) (cursor : Nat) :
    (s.setConsole c).findLine kind l cursor = s.findLine kind l cursor := by
  induction l generalizing cursor with
  | nil => rfl
  | cons sect rest ih =>
    have hline : (s.setConsole c).sectionLine kind sect cursor = s.sectionLine kind sect cursor := by
      cases sect <;> rfl
    rw [State.findLine, State.findLine, hline, ih]

/-- The place code of the header (R175, log 42). -/
theorem placeField_eq : fnat? s.placeCode =
    match s.modes.mode with
    | .berth => fnat? (s.cond.berth.map fun b => b.port)
    | .passage => fnat? s.modes.location
    | _ => .empty := by
  rw [State.placeCode]
  cases s.modes.mode <;> rfl

/-- The first section of a kind. -/
theorem firstSection_eq (kind : ReportKind) : kind.sections.headD .total =
    match kind with
    | .declaration => .tanks
    | .condition => .condition
    | .plan => .steps
    | .departure => .drafts := by
  cases kind <;> rfl

end

/-- Settles O29: the ladder of each verb rung by rung, then the state of the composer. -/
theorem reportsAreAskedAndAborted : Obligations.ReportsAreAskedAndAborted := by
  unfold Obligations.ReportsAreAskedAndAborted
  refine fun s ps => ⟨fun htakes => ?ask, fun htakes => ?abort⟩
  case ask =>
    rw [exec_report, rpChecks]
    simp only [consoleRequest_cons htakes, consoleRequest_nil htakes]
    refine congrArg Host.Outcome.next ?_
    refine rung decide_eq_true_iff fun _ => ?_
    refine rung not_inRange_iff fun hrange => ?_
    refine rung decide_eq_true_iff fun _ => ?_
    refine rung inRestart_iff fun _ => ?_
    refine rung (by rw [Bool.and_eq_true, decide_eq_true_iff, not_departureHolds_iff]) fun _ => ?_
    refine rung decide_eq_true_iff fun _ => ?_
    rw [State.takeRP, number_ofParam (not_not.1 hrange)]
    rfl
  case abort =>
    rw [exec_reportAbort, raChecks]
    simp only [consoleRequest_cons htakes, consoleRequest_nil htakes]
    refine congrArg Host.Outcome.next ?_
    refine rung decide_eq_true_iff fun _ => ?_
    refine rung inRestart_iff fun _ => ?_
    rw [State.takeRA]
    cases hc : s.composer.state with
    | idle => exact if_pos (decide_eq_true_iff.2 rfl)
    | waiting kind => exact if_neg (by simp)
    | composing kind sect cursor start abort => exact if_neg (by simp)

/-- Settles O30: the move of the buffered line, then the state of the composer. -/
theorem reportsAreComposed : Obligations.ReportsAreComposed := by
  unfold Obligations.ReportsAreComposed
  refine ⟨fun s q ht hh hb => ?_, ⟨rfl, rfl, rfl, rfl⟩, fun s kind => ⟨fun _ => rfl, fun sect rest cursor => ?_⟩⟩
  · intro u place replies shown
    have hstart : s.startConsole = u.refill q := by
      rw [State.startConsole, ht, hh, hb]
    have hreplies : u.setConsole u.console.fillFromReplies = replies := congrArg u.setConsole (fillFromReplies_eq rfl)
    have hcomposer : u.composer = s.composer := rfl
    rw [hstart, State.refill, hcomposer]
    cases hc : s.composer.state with
    | idle => exact hreplies
    | waiting kind =>
      dsimp only
      by_cases hq : q.isRp = true
      · rw [if_pos hq, if_pos hq, State.composeHeader, placeField_eq, firstSection_eq]
        rfl
      · rw [if_neg hq, if_neg hq]
        exact hreplies
    | composing kind sect cursor start abort =>
      dsimp only
      have hfooter (c : Option AbortCause) := composeFooter_eq (s := u) kind start c
      rw [State.composeBody, abortNow_setConsole, abortNow_eq, findLine_setConsole]
      cases abort with
      | some c =>
        simp only [Option.isSome_some, if_true]
        rw [hfooter]
        rfl
      | none =>
        dsimp only
        split
        next =>
          simp only [Option.isSome_some, if_true]
          rw [hfooter]
          rfl
        next =>
          rw [if_neg (by decide), hfooter]
          cases s.findLine kind (kind.sections.dropWhile fun x => decide (x ≠ sect)) cursor <;> rfl
  · cases hline : s.sectionLine kind sect cursor <;> simp only [State.findLine, hline]

section
variable (s : State)

/-! ## The lines of the sections (R175 to R179) -/

/-- The numbers of the tank summary count the tanks of each kind. -/
theorem sumFields_eq : s.sumFields =
    let tanks := (definedTanks s.parts).map s.tank
    [fnat tanks.length, fnat (tanks.map fun x => x.volume.getD 0).sum,
      fnat (tanks.filter fun x => decide (x.volume = none)).length,
      fnat (tanks.filter fun x => decide (x.origin.exchange = .exchanged)).length,
      fnat (tanks.filter fun x => x.origin.more).length] := by
  have hvolume (v : Option Nat) : v.isNone = decide (v = none) := by cases v <;> rfl
  simp only [State.sumFields, hvolume]

/-- The words of the ship quantities. -/
theorem shpFields_eq {i : Nat} (h : 32 ≤ i) : s.shpFields i =
    [fstamp? s.margins.graded, fnat i, .word (if i = 32 then "TRIM" else if i = 33 then "LIST" else if i = 34 then "UKC"
      else "AIR")] ++ (s.watched i).fields := by
  rw [State.shpFields, quantityWord, if_neg (by omega)]

theorem pairingField_eq (x : Pairing) : fnat? x.transfer? =
    match x with
    | .unpaired => .empty
    | .running k => fnat k
    | .done k => fnat k := by
  cases x <;> rfl

/-- The lowest number above a cursor is one of the numbers. -/
theorem above_map_congr {cursor : Nat} {ns : List Nat} {f g : Nat → Line} (h : ∀ n ∈ ns, f n = g n) :
    ((above cursor ns).map fun n => (n, f n)) = (ns.find? fun n => decide (cursor < n)).map fun n => (n, g n) := by
  rw [above]
  cases hn : ns.find? fun n => decide (cursor < n) with
  | none => rfl
  | some n => exact congrArg (fun l => some (n, l)) (h n (List.mem_of_find?_eq_some hn))

end

/-- Settles O31: each section by its own equation. -/
theorem reportLinesCarryTheirFields : Obligations.ReportLinesCarryTheirFields := by
  unfold Obligations.ReportLinesCarryTheirFields
  intro s kind cursor shown stamp graded least bit next once' entry tanks tide
  refine ⟨rfl, ?total, ?condition, rfl, ?ship, rfl, rfl, ?berth, ?steps, rfl⟩
  case total =>
    by_cases hk : kind = .plan
    · subst hk; rfl
    · rw [State.sectionLine]
      rw [if_neg hk, if_neg hk, sumFields_eq]
      rfl
  case condition =>
    have hrecord := recordField_eq (s.cond.published.map fun c => c.inputState)
    rw [Option.bind_map] at hrecord
    rw [State.sectionLine, State.cndFields]
    exact congrArg once' (congrArg (Line.report .CND) (congrArg (fun f => _ :: _ :: f :: _) hrecord))
  case ship =>
    exact above_map_congr fun i hi => congrArg (Line.report .SHP) (shpFields_eq s (by
      simp only [List.mem_cons, List.not_mem_nil, or_false] at hi
      omega))
  case berth =>
    rw [State.sectionLine, State.brtFields, tideFields_eq]
    cases s.cond.berth <;> rfl
  case steps =>
    refine congrArg (fun f => s.pour.steps[cursor]?.map f) (funext fun x => ?_)
    rw [PourStep.fields, pairingField_eq]
    rfl

end Sys2Proof.Machine

/-! # The attention items (O33) -/

namespace Sys2Proof.Machine

/-- The command AK is the console request with its own checks and effect. -/
theorem exec_attentionAcknowledge (ps : List Int) (s : State) : exec (.attentionAcknowledge ps) s =
    .next (s.consoleRequest .AK ps (akChecks s ps) fun s => s.takeAK ps) := rfl

/-! ## The checks of AK (R194) -/

theorem allDifferent_iff {α : Type} [DecidableEq α] (l : List α) : allDifferent l = true ↔ l.Nodup := by
  induction l with
  | nil => simp [allDifferent]
  | cons x l ih =>
    have hx : (l.any fun y => decide (y = x)) = false ↔ x ∉ l := by
      simp only [List.any_eq_false, decide_eq_true_iff]
      exact ⟨fun h hx => h x hx rfl, fun h y hy he => h (he ▸ hy)⟩
    rw [allDifferent, Bool.and_eq_true, Bool.not_eq_true', hx, ih, List.nodup_cons]

theorem akArgs_iff {n : Nat} : (decide (n = 0) || (decide (1 < n) && decide (n % 2 = 1)) || decide (16 < n)) = true ↔
    n = 0 ∨ (1 < n ∧ n % 2 = 1) ∨ 16 < n := by
  simp only [Bool.or_eq_true, Bool.and_eq_true, decide_eq_true_iff, or_assoc]

theorem akSingleGood_iff (x : Int) : akSingleGood x = true ↔ x = 0 ∨ x = 1 ∨ x = 2 ∨ x = 4 := by
  simp [akSingleGood]

theorem akValues_iff (ps : List Int) : (!akValuesGood ps) = true ↔
    (ps.length = 1 ∧ ¬ (par ps 1 = 0 ∨ par ps 1 = 1 ∨ par ps 1 = 2 ∨ par ps 1 = 4)) ∨
      (ps.length ≠ 1 ∧ ¬ ((∀ y ∈ akItems ps, y ≠ none) ∧ (akItems ps).Nodup)) := by
  rw [Bool.not_eq_true', ← Bool.not_eq_true, akValuesGood]
  by_cases h : ps.length = 1
  · simp [h, akSingleGood_iff]
  · rw [if_neg h, Bool.and_eq_true, allDifferent_iff, List.all_eq_true]
    simp only [Option.isSome_iff_ne_none, h, false_and, false_or, ne_eq, not_false_eq_true, true_and]

/-- With each pair naming an item, AK fails for an item that is not pending. -/
theorem akPending_iff {s : State} {ps : List Int} (h : ps.length ≠ 1 → ∀ y ∈ akItems ps, y ≠ none) :
    (!s.akPending ps) = true ↔ ps.length ≠ 1 ∧ ∃ y ∈ akItems ps, ∀ i ∈ s.attention.items, y ≠ some i := by
  rw [Bool.not_eq_true', ← Bool.not_eq_true, State.akPending, Bool.or_eq_true, decide_eq_true_iff, not_or]
  refine and_congr_right fun hne => ?_
  rw [List.all_eq_true]
  simp only [has_iff, List.mem_filterMap, id_eq, not_forall]
  constructor
  · rintro ⟨i, ⟨y, hy, rfl⟩, hi⟩
    exact ⟨some i, hy, fun j hj he => hi (Option.some.inj he ▸ hj)⟩
  · rintro ⟨y, hy, hall⟩
    cases y with
    | none => exact absurd rfl (h hne none hy)
    | some i => exact ⟨i, ⟨some i, hy, rfl⟩, fun hi => hall i hi rfl⟩

/-! ## Raising an item (R191) -/

section
variable {a : AttentionSet} {i : Item}

theorem weight_cases (i : Item) : i.weight = 1 ∨ i.weight = 2 ∨ i.weight = 4 := by
  cases i <;> simp [Item.weight]

theorem raise_of_pending (h : i ∈ a.items) : a.raise i = a := if_pos ((has_iff a i).2 h)

theorem raise_of_room (h : i ∉ a.items) (hl : a.items.length < 64) : a.raise i = ⟨a.items ++ [i], a.overflow⟩ := by
  rw [AttentionSet.raise, if_neg (mt (has_iff a i).1 h)]
  exact if_pos hl

/-- What an item raised into a full set does. -/
theorem raise_of_full (h : i ∉ a.items) (hl : a.items.length = 64) : a.raise i =
    ⟨match a.displaced i.weight with
      | some old => a.items.erase old ++ [i]
      | none => a.items, min 255 (a.overflow + 1)⟩ := by
  have hfull : ¬ a.items.length < Config.attentionCount := by rw [hl]; decide
  rw [AttentionSet.raise, if_neg (mt (has_iff a i).1 h), if_neg hfull]
  cases a.displaced i.weight <;> rfl

/-- Nothing is displaced by an item of the lowest weight. -/
theorem displaced_none {w : Nat} (h : ∀ x ∈ a.items, w ≤ x.weight) : a.displaced w = none := by
  have hfind (k : Nat) : (a.items.find? fun x => decide (x.weight = k) && decide (k < w)) = none := by
    rw [List.find?_eq_none]
    intro x hx he
    rw [Bool.and_eq_true, decide_eq_true_iff, decide_eq_true_iff] at he
    have hw := h x hx
    omega
  rw [AttentionSet.displaced, hfind, hfind]

/-- The first item of the lowest weight is the one displaced. -/
theorem displaced_eq {w : Nat} {before after : List Item} {old : Item} (he : a.items = before ++ old :: after)
    (hw : old.weight < w) (hw4 : w ≤ 4) (hleast : ∀ x ∈ a.items, old.weight ≤ x.weight)
    (hfirst : ∀ x ∈ before, x.weight ≠ old.weight) : a.displaced w = some old := by
  have hfind : (a.items.find? fun x => decide (x.weight = old.weight) && decide (old.weight < w)) = some old := by
    have hbefore : (before.find? fun x => decide (x.weight = old.weight) && decide (old.weight < w)) = none := by
      rw [List.find?_eq_none]
      intro x hx
      simp [hfirst x hx]
    rw [he, List.find?_append, hbefore, Option.none_or, List.find?_cons_of_pos (by simp [hw])]
  rw [AttentionSet.displaced]
  rcases weight_cases old with hold | hold | hold
  · rw [hold] at hfind
    rw [hfind]
  · have hnone : (a.items.find? fun x => decide (x.weight = 1) && decide (1 < w)) = none := by
      rw [List.find?_eq_none]
      intro x hx
      have hx := hleast x hx
      have hne : x.weight ≠ 1 := by omega
      simp [hne]
    rw [hold] at hfind
    rw [hnone, hfind]
  · omega

/-- The items that stand after a raise do not depend on the overflow count. -/
theorem raise_items {b : AttentionSet} (h : a.items = b.items) : (a.raise i).items = (b.raise i).items := by
  have hhas : a.has i = b.has i := congrArg (fun l : List Item => l.any fun x => decide (x = i)) h
  have hdisplaced : a.displaced i.weight = b.displaced i.weight := by
    rw [AttentionSet.displaced, AttentionSet.displaced, h]
  rw [AttentionSet.raise, AttentionSet.raise, hhas, hdisplaced, h]
  split
  · exact h
  · split
    · rfl
    · cases b.displaced i.weight <;> rfl

theorem weight_le (i : Item) : i.weight ≤ 4 := by
  have h := weight_cases i
  omega

/-- An item that no earlier one equals in weight goes from its own place. -/
theorem erase_split {before after : List Item} {old : Item} (he : a.items = before ++ old :: after)
    (hfirst : ∀ x ∈ before, x.weight ≠ old.weight) : a.items.erase old = before ++ after := by
  rw [he, List.erase_append_right _ fun h => hfirst old h rfl, List.erase_cons_head]

/-! ## The attention code and the lines (R192) -/

theorem hasWeight_iff {w : Nat} : a.hasWeight w = true ↔ ∃ i ∈ a.items, i.weight = w := by
  simp [AttentionSet.hasWeight]

theorem code_eq (a : AttentionSet) :
    a.code = (if ∃ i ∈ a.items, i.weight = 1 then 1 else 0) + (if ∃ i ∈ a.items, i.weight = 2 then 2 else 0) +
      (if ∃ i ∈ a.items, i.weight = 4 then 4 else 0) := by
  simp only [AttentionSet.code, hasWeight_iff]

/-- The line that the settings assign to the class of an item: ATTN-U when true. -/
def State.lineOf (s : State) (i : Item) : Bool :=
  if i.weight = 1 then s.settings.working.noticeLine
  else if i.weight = 2 then s.settings.working.moverLine
  else s.settings.working.shipLine

/-- A line is asserted by the items of the classes assigned to it. -/
theorem attnLine_iff (s : State) (urgent : Bool) :
    s.attnLine urgent = true ↔ s.modes.condition = .running ∧ ∃ i ∈ s.attention.items, s.lineOf i = urgent := by
  rw [State.attnLine, Bool.and_eq_true, State.running, decide_eq_true_iff]
  refine and_congr_right fun _ => ?_
  simp only [Bool.or_eq_true, Bool.and_eq_true, hasWeight_iff, decide_eq_true_iff]
  constructor
  · rintro ((⟨⟨i, hi, hw⟩, hline⟩ | ⟨⟨i, hi, hw⟩, hline⟩) | ⟨⟨i, hi, hw⟩, hline⟩) <;>
      exact ⟨i, hi, by simp [State.lineOf, hw, hline]⟩
  · rintro ⟨i, hi, hline⟩
    rcases weight_cases i with hw | hw | hw <;> simp only [State.lineOf, hw] at hline
    · exact .inl (.inl ⟨⟨i, hi, hw⟩, hline⟩)
    · exact .inl (.inr ⟨⟨i, hi, hw⟩, hline⟩)
    · exact .inr ⟨⟨i, hi, hw⟩, hline⟩

end

/-! ## The codes of the items (section 10.7) -/

theorem itemOf_ne_none (k o : Int) : itemOf k o ≠ none ↔
    (k = 1 ∧ 1 ≤ o ∧ o ≤ 24) ∨ ((k = 2 ∨ k = 3 ∨ k = 41) ∧ 0 ≤ o ∧ o ≤ 35) ∨ (k = 4 ∧ 0 ≤ o ∧ o ≤ 71) ∨
      (k = 5 ∧ 1 ≤ o ∧ o ≤ 255) ∨ (k = 6 ∧ 0 ≤ o ∧ o ≤ 63) ∨
      ((k = 7 ∨ k = 8 ∨ k = 9 ∨ k = 43 ∨ k = 44) ∧ o = 0) ∨ ((k = 21 ∨ k = 22) ∧ 1 ≤ o ∧ o ≤ 3) ∨
      (k = 42 ∧ 1 ≤ o ∧ o ≤ 999) := by
  by_cases hk : k ∈ [1, 2, 3, 4, 5, 6, 7, 8, 9, 21, 22, 41, 42, 43, 44]
  · simp only [List.mem_cons, List.not_mem_nil, or_false] at hk
    rcases hk with rfl | rfl | rfl | rfl | rfl | rfl | rfl | rfl | rfl | rfl | rfl | rfl | rfl | rfl | rfl <;>
      simp [itemOf, inRange_iff]
  · simp only [List.mem_cons, List.not_mem_nil, or_false, not_or] at hk
    simp [itemOf, hk]

/-- Each item of the table has its two codes. -/
theorem itemOf_codes (n : Nat) : (1 ≤ n → n ≤ 24 → itemOf 1 n = some (.gauge n)) ∧
    (n ≤ 35 → itemOf 2 n = some (.indet n) ∧ itemOf 3 n = some (.caution n) ∧ itemOf 41 n = some (.limit n) ∧
      itemOf 4 (2 * n) = some (.corrRefused n .plus) ∧ itemOf 4 (2 * n + 1) = some (.corrRefused n .minus)) ∧
    (1 ≤ n → n ≤ 255 → itemOf 5 n = some (.stripRefused n)) ∧ (n ≤ 63 → itemOf 6 n = some (.point n)) ∧
    (1 ≤ n → n ≤ 999 → itemOf 42 n = some (.stepHeld n)) := by
  have hin {lo hi : Int} {x : Int} (h1 : lo ≤ x) (h2 : x ≤ hi) : inRange lo hi x = true := inRange_iff.2 ⟨h1, h2⟩
  refine ⟨fun h1 h2 => ?_, fun h => ⟨?_, ?_, ?_, ?_, ?_⟩, fun h1 h2 => ?_, fun h => ?_, fun h1 h2 => ?_⟩
  · simp [itemOf, hin (lo := 1) (hi := 24) (x := n) (by omega) (by omega)]
  · simp [itemOf, hin (lo := 0) (hi := 35) (x := n) (by omega) (by omega)]
  · simp [itemOf, hin (lo := 0) (hi := 35) (x := n) (by omega) (by omega)]
  · simp [itemOf, hin (lo := 0) (hi := 35) (x := n) (by omega) (by omega)]
  · have hnum : ((2 * n : Int)).toNat = 2 * n := by omega
    simp [itemOf, hin (lo := 0) (hi := 71) (x := 2 * n) (by omega) (by omega), hnum]
  · have hnum : ((2 * n + 1 : Int)).toNat = 2 * n + 1 := by omega
    have hhalf : (2 * n + 1) / 2 = n := by omega
    simp [itemOf, hin (lo := 0) (hi := 71) (x := 2 * n + 1) (by omega) (by omega), hnum, hhalf]
  · simp [itemOf, hin (lo := 1) (hi := 255) (x := n) (by omega) (by omega)]
  · simp [itemOf, hin (lo := 0) (hi := 63) (x := n) (by omega) (by omega)]
  · simp [itemOf, hin (lo := 1) (hi := 999) (x := n) (by omega) (by omega)]

/-- Settles O33: the ladder of AK, the table of the items, what raising one does, and the code with its lines. -/
theorem attentionItemsComeAndGo : Obligations.AttentionItemsComeAndGo := by
  unfold Obligations.AttentionItemsComeAndGo
  refine ⟨?acknowledge, ⟨itemOf_codes, rfl, rfl, rfl, rfl, rfl, rfl, rfl, rfl, rfl, rfl, rfl, itemOf_ne_none⟩, ?raised, code_eq,
    fun i => ?weight, fun s => ⟨attnLine_iff s true, attnLine_iff s false⟩⟩
  case acknowledge =>
    intro s ps htakes
    dsimp only
    rw [exec_attentionAcknowledge, akChecks]
    simp only [consoleRequest_cons htakes, consoleRequest_nil htakes]
    refine congrArg Host.Outcome.next ?_
    refine rung akArgs_iff fun _ => ?_
    refine rung (akValues_iff ps) fun hvalues => ?_
    refine rung inRestart_iff fun _ => ?_
    refine rung (akPending_iff fun hne y hy => ?_) fun _ => rfl
    obtain ⟨hall, _⟩ := not_not.1 (not_and.1 (not_or.1 hvalues).2 hne)
    exact hall y hy
  case raised =>
    intro a i hl hn b
    obtain ⟨hlength, hnodup, _⟩ := raise_good (a := ⟨a.items, 0⟩) ⟨hl, hn, Nat.zero_le _⟩ i
    rw [raise_items (a := ⟨a.items, 0⟩) (b := a) rfl] at hlength hnodup
    refine ⟨hnodup, hlength, raise_of_pending, raise_of_room, fun hi hfull => ?_⟩
    have hb : b = _ := raise_of_full hi hfull
    rw [hb]
    refine ⟨rfl, fun hleast => ?_, fun before old after he hw hleast hfirst => ?_⟩
    · rw [displaced_none hleast]
    · rw [displaced_eq he hw (weight_le i) hleast hfirst]
      exact congrArg (· ++ [i]) (erase_split he hfirst)
  case weight => cases i <;> rfl

end Sys2Proof.Machine

/-! # The settings and the reset verbs (O35) -/

namespace Sys2Proof.Machine

/-- The command SS is the console request with its own checks and effect. -/
theorem exec_settingsSet (ps : List Int) (s : State) : exec (.settingsSet ps) s =
    .next (s.consoleRequest .SS ps (ssChecks s ps) fun s => s.takeSS ps) := rfl

/-- The command SV is the console request with its own checks and effect. -/
theorem exec_settingsSave (ps : List Int) (s : State) : exec (.settingsSave ps) s =
    .next (s.consoleRequest .SV ps (svChecks s ps) State.takeSV) := rfl

/-- The command RS is the console request with its own checks and effect. -/
theorem exec_commandResetRequest (ps : List Int) (s : State) : exec (.commandResetRequest ps) s =
    .next (s.consoleRequest .RS ps (bareChecks s ps) State.takeRS) := rfl

/-- The command RQ is the console request with its own checks and effect. -/
theorem exec_resetCauseQuery (ps : List Int) (s : State) : exec (.resetCauseQuery ps) s =
    .next (s.consoleRequest .RQ ps [(decide (ps.length ≠ 0), .args)] fun s =>
      s.reply .RQ s.modes.resetCause.fields) := rfl

/-- The command RC is the console request with its own checks and effect. -/
theorem exec_resetCauseClear (ps : List Int) (s : State) : exec (.resetCauseClear ps) s =
    .next (s.consoleRequest .RC ps (bareChecks s ps) State.takeRC) := rfl

theorem settingGood_iff {item value : Int} : settingGood item value = true ↔
    (1 ≤ item ∧ item ≤ 4 ∧ 0 ≤ value ∧ value ≤ 7) ∨ (5 ≤ item ∧ item ≤ 7 ∧ 0 ≤ value ∧ value ≤ 1) := by
  simp only [settingGood, Bool.or_eq_true, Bool.and_eq_true, inRange_iff, and_assoc]

/-- An item of the settings takes a value by its number. -/
theorem settings_set_eq (w : Settings) {x : Int} (h : 1 ≤ x ∧ x ≤ 7) (v : Nat) : w.set x.toNat v =
    { consoleRate := if x = 1 then v else w.consoleRate
      shoreRate := if x = 2 then v else w.shoreRate
      stationCaution := if x = 3 then v else w.stationCaution
      shipCaution := if x = 4 then v else w.shipCaution
      noticeLine := if x = 5 then decide (v = 1) else w.noticeLine
      moverLine := if x = 6 then decide (v = 1) else w.moverLine
      shipLine := if x = 7 then decide (v = 1) else w.shipLine } := by
  obtain rfl | rfl | rfl | rfl | rfl | rfl | rfl :
    x = 1 ∨ x = 2 ∨ x = 3 ∨ x = 4 ∨ x = 5 ∨ x = 6 ∨ x = 7 := by omega
  all_goals rfl

/-- The fields of the settings with the state of the save. -/
theorem settingsFields_eq (x : SettingsStore) : x.fields =
    let w := x.working
    let bit := fun b : Bool => Field.num (if b = true then 1 else 0)
    [fnat w.consoleRate, fnat w.shoreRate, fnat w.stationCaution, fnat w.shipCaution, bit w.noticeLine, bit w.moverLine,
      bit w.shipLine, .word (if x.saving = none then "IDLE" else "SAVING")] := by
  have hword : (if x.saving.isSome then "SAVING" else "IDLE") = if x.saving = none then "IDLE" else "SAVING" := by
    cases x.saving <;> rfl
  rw [SettingsStore.fields, hword]
  rfl

/-- Settles O35: the ladder of each verb rung by rung, then its effect. -/
theorem settingsAndResetVerbsAnswer : Obligations.SettingsAndResetVerbsAnswer := by
  unfold Obligations.SettingsAndResetVerbsAnswer
  refine ⟨fun s ps => ?settings, fun s ps => ⟨fun htakes => ?ask, fun htakes => ?query, fun htakes => ?clear⟩⟩
  case settings =>
    intro v w new bit
    refine ⟨fun htakes => ?set, fun htakes => ?save⟩
    case set =>
      rw [exec_settingsSet, ssChecks]
      simp only [consoleRequest_cons htakes, consoleRequest_nil htakes]
      refine congrArg Host.Outcome.next ?_
      refine rung (by rw [Bool.or_eq_true, decide_eq_true_iff, decide_eq_true_iff]) fun _ => ?_
      refine rung (by rw [Bool.and_eq_true, decide_eq_true_iff, Bool.not_eq_true', ← Bool.not_eq_true, settingGood_iff])
        fun hrange => ?_
      refine rung inRestart_iff fun _ => ?_
      rw [State.takeSS]
      dsimp only
      rw [settingsFields_eq]
      by_cases hl : ps.length = 2
      · have hitem := not_not.1 (not_and.1 hrange hl)
        have hset : w.set (parN ps 1) v = new := (settings_set_eq w (by omega) v).trans (if_pos hl).symm
        rw [if_pos hl, hset]
        rfl
      · have hnew : new = w := if_neg hl
        rw [if_neg hl, hnew]
        rfl
    case save =>
      rw [exec_settingsSave, svChecks]
      simp only [consoleRequest_cons htakes, consoleRequest_nil htakes]
      refine congrArg Host.Outcome.next ?_
      refine rung decide_eq_true_iff fun _ => ?_
      refine rung inRestart_iff fun _ => ?_
      exact rung Option.isSome_iff_ne_none fun _ => rfl
  case ask =>
    rw [exec_commandResetRequest, bareChecks]
    simp only [consoleRequest_cons htakes, consoleRequest_nil htakes]
    refine congrArg Host.Outcome.next ?_
    refine rung decide_eq_true_iff fun _ => ?_
    exact rung inRestart_iff fun _ => rfl
  case query =>
    rw [exec_resetCauseQuery]
    simp only [consoleRequest_cons htakes, consoleRequest_nil htakes]
    refine congrArg Host.Outcome.next ?_
    exact rung decide_eq_true_iff fun _ => rfl
  case clear =>
    rw [exec_resetCauseClear, bareChecks]
    simp only [consoleRequest_cons htakes, consoleRequest_nil htakes]
    refine congrArg Host.Outcome.next ?_
    refine rung decide_eq_true_iff fun _ => ?_
    exact rung inRestart_iff fun _ => rfl

end Sys2Proof.Machine

/-! # The mode and the location (O38) -/

namespace Sys2Proof.Machine

/-- The command MD is the console request with its own checks and effect. -/
theorem exec_mode (ps : List Int) (s : State) : exec (.mode ps) s =
    .next (s.consoleRequest .MD ps (mdChecks s ps) fun s => s.takeMD ps) := rfl

/-- The command LC is the console request with its own checks and effect. -/
theorem exec_location (ps : List Int) (s : State) : exec (.location ps) s =
    .next (s.consoleRequest .LC ps (lcChecks s ps) fun s => s.takeLC ps) := rfl

/-- A mode is sent by the number that names it (R198). -/
theorem number_mode_ofParam {x : Int} (h : 0 ≤ x ∧ x ≤ 3) : fnat (Mode.ofParam x).number = .num x := by
  obtain rfl | rfl | rfl | rfl : x = 0 ∨ x = 1 ∨ x = 2 ∨ x = 3 := by omega
  all_goals rfl

section
variable {s : State}

theorem Poured.particulars {t : State} (h : Poured s t) : t.particulars = s.particulars := by
  have e := congrArg State.particulars h
  exact e

/-- Leaving a mode keeps the particulars in use and their store. -/
theorem leaveMode_parts (s : State) (old : Mode) :
    (s.leaveMode old).particulars.store = s.particulars.store ∧ (s.leaveMode old).parts = s.parts := by
  cases old with
  | berth =>
    have hkept : (s.endClearance (refusalLine .CQ .mode)).particulars = s.particulars :=
      ((Poured.refl s).endClearance _).particulars
    exact ⟨congrArg ParticularsStore.store hkept, congrArg ParticularsStore.inUse hkept⟩
  | passage | commission | standby => exact ⟨rfl, rfl⟩

theorem moverBusy_iff : s.moverBusy = true ↔ s.movers.m1.phase ≠ .idle ∨ s.movers.m2.phase ≠ .idle ∨
    s.movers.m3.phase ≠ .idle := by
  simp only [State.moverBusy, allMovers, List.any_cons, List.any_nil, Bool.or_false, Bool.or_eq_true, decide_eq_true_iff]
  rfl

theorem mdBusy_iff : (s.moverBusy || !s.transfers.records.isEmpty || s.pourActive) = true ↔
    (s.movers.m1.phase ≠ .idle ∨ s.movers.m2.phase ≠ .idle ∨ s.movers.m3.phase ≠ .idle) ∨ s.transfers.records ≠ [] ∨
      ∃ x ∈ s.pour.steps, x.state = .granted ∨ x.state = .pouring := by
  rw [Bool.or_eq_true, Bool.or_eq_true, moverBusy_iff, pourActive_iff, or_assoc, Bool.not_eq_true', List.isEmpty_eq_false_iff]

end

/-- Settles O38: the ladder of each verb rung by rung, then what leaving and entering a mode do. -/
theorem modeAndLocationAreSet : Obligations.ModeAndLocationAreSet := by
  unfold Obligations.ModeAndLocationAreSet
  intro s ps old new u v w t
  refine ⟨fun htakes => ?mode, fun htakes => ?location⟩
  case mode =>
    have hleave : u.leaveMode old = v := by
      simp only [v]
      cases old <;> rfl
    have hparts : v.particulars.store = s.particulars.store ∧ v.parts = s.parts := by
      rw [← hleave]
      exact leaveMode_parts u old
    have henter : v.enterMode new = w := by
      simp only [w, ← hparts.1, ← hparts.2]
      cases new <;> rfl
    have hchange : s.changeMode new = t := by
      rw [State.changeMode]
      dsimp only
      rw [hleave, henter]
    rw [exec_mode, mdChecks]
    simp only [consoleRequest_cons htakes, consoleRequest_nil htakes]
    refine congrArg Host.Outcome.next ?_
    refine rung decide_eq_true_iff fun _ => ?_
    refine rung not_inRange_iff fun hrange => ?_
    refine rung inRestart_iff fun _ => ?_
    refine rung (by rw [Bool.and_eq_true, decide_eq_true_iff, Bool.not_eq_true', List.isEmpty_eq_false_iff]) fun _ => ?_
    refine rung (by rw [Bool.and_eq_true, Bool.and_eq_true, decide_eq_true_iff, decide_eq_true_iff, Option.isNone_iff_eq_none,
      and_assoc]) fun _ => ?_
    refine rung mdBusy_iff fun _ => ?_
    rw [State.takeMD, number_mode_ofParam (not_not.1 hrange)]
    exact congrArg (fun x : State => x.requestEvaluation.reply .MD [.num (par ps 1)]) hchange
  case location =>
    rw [exec_location, lcChecks]
    simp only [consoleRequest_cons htakes, consoleRequest_nil htakes]
    refine congrArg Host.Outcome.next ?_
    refine rung decide_eq_true_iff fun _ => ?_
    refine rung not_inRange_and_iff fun hrange => ?_
    refine rung decide_eq_true_iff fun _ => ?_
    refine rung inRestart_iff fun _ => ?_
    have h1 : fnat (parN ps 1) = .num (par ps 1) := congrArg Field.num (Int.toNat_of_nonneg (by omega))
    have h2 : fnat (parN ps 2) = .num (par ps 2) := congrArg Field.num (Int.toNat_of_nonneg (by omega))
    rw [State.takeLC, h1, h2]

end Sys2Proof.Machine

/-! # Writing and grading the drive image (O43) -/

namespace Sys2Proof.Machine

section
variable {s : State}

/-- A write of ON to a drive point is not taken outside NORMAL, and by the valve of an unclaimed tank. -/
theorem onRefused_iff {a : Nat} : s.onRefused (roleOf s.parts a) = true ↔ s.faults.state ≠ .normal ∨
    ∃ n ∈ List.range 25, roleOf s.parts a = .tankValve n ∧ (s.tank n).claim = none := by
  unfold State.onRefused
  rw [Bool.or_eq_true, not_isNormal_iff]
  refine or_congr_right ?_
  cases hr : roleOf s.parts a with
  | tankValve n =>
    obtain ⟨_, _, hn⟩ := tankDefined_of_role hr
    simp only [decide_eq_true_iff, Role.tankValve.injEq]
    exact ⟨fun h => ⟨n, List.mem_range.2 (by omega), rfl, h⟩, fun ⟨_, _, he, h⟩ => he ▸ h⟩
  | run | overboard | seaChest | gauge | unused => simp

end

/-- Settles O43: the branches of a write, and the table of grades. -/
theorem driveImageIsWrittenAndGraded : Obligations.DriveImageIsWrittenAndGraded := by
  unfold Obligations.DriveImageIsWrittenAndGraded
  refine ⟨fun s a on => ?write, fun s a b d ha => ?set, fun _ _ => rfl, fun expired => rfl, fun expired => ⟨rfl, rfl, rfl⟩⟩
  case write =>
    rw [State.writePoint]
    refine rung (by rw [Bool.not_eq_true']) fun _ => ?_
    refine rung (by rw [Bool.and_eq_true, onRefused_iff]) fun _ => rfl
  case set =>
    rw [drive_setDrive]
    exact if_congr ⟨fun h => h.1.symm, fun h => ⟨h.symm, ha⟩⟩ rfl rfl

end Sys2Proof.Machine

/-! # A clearance asked and the chute started (O39) -/

namespace Sys2Proof.Machine

/-- The command CQ is the shore request with its own checks and effect. -/
theorem exec_clearanceQuery (ps : List Int) (s : State) : exec (.clearanceQuery ps) s =
    .next (s.shoreRequest .CQ ps (cqChecks s ps) fun s => s.takeCQ ps) := rfl

/-- The command CS is the shore request with its own checks and effect. -/
theorem exec_chuteStart (ps : List Int) (s : State) : exec (.chuteStart ps) s =
    .next (s.shoreRequest .CS ps (csChecks s ps) fun s => s.takeCS ps) := rfl

section
variable {s : State}

/-- The blocking reading is LIMIT when an entry stands at LIMIT or BREACH, and else INDET when one is INDETERMINATE. -/
theorem blockingReading_eq : s.blockingReading =
    if ∃ i ∈ List.range 36, (s.watched i).state = .limit ∨ (s.watched i).state = .breach then some .limit
    else if ∃ i ∈ List.range 36, (s.watched i).state = .indeterminate then some .indet
    else none := by
  have hblocks (x : MarginState) : x.blocks = true ↔ x = .limit ∨ x = .breach ∨ x = .indeterminate := by
    cases x <;> simp [MarginState.blocks]
  have hhigh (x : MarginState) : x.high = true ↔ x = .limit ∨ x = .breach := by cases x <;> simp [MarginState.high]
  have hany : (s.blockingSet.any fun i => (s.watched i).state.high) = true ↔
      ∃ i ∈ List.range 36, (s.watched i).state = .limit ∨ (s.watched i).state = .breach := by
    simp only [State.blockingSet, watchedIndices, List.any_eq_true, List.mem_filter, hblocks, hhigh]
    exact exists_congr fun i => ⟨fun ⟨⟨hi, _⟩, h⟩ => ⟨hi, h⟩, fun ⟨hi, h⟩ => ⟨⟨hi, h.imp_right .inl⟩, h⟩⟩
  rw [State.blockingReading]
  refine rung hany fun hnone => ?_
  have hempty : s.blockingSet.isEmpty = true ↔ ¬ ∃ i ∈ List.range 36, (s.watched i).state = .indeterminate := by
    simp only [List.isEmpty_iff, State.blockingSet, watchedIndices, List.filter_eq_nil_iff, hblocks]
    push Not at hnone ⊢
    exact forall₂_congr fun i hi => ⟨fun h => h.2.2, fun h => ⟨(hnone i hi).1, (hnone i hi).2, h⟩⟩
  by_cases h : ∃ i ∈ List.range 36, (s.watched i).state = .indeterminate
  · rw [if_neg (mt hempty.1 (not_not.2 h)), if_pos h]
  · rw [if_pos (hempty.2 h), if_neg h]

theorem not_readyToPour_iff {id : Nat} {x : PourStep} (hx : s.step? id = some x) :
    (!s.readyToPour id) = true ↔ ¬ (x.state = .ready ∧ x.tally < x.planned) := by
  rw [Bool.not_eq_true', ← Bool.not_eq_true, State.readyToPour, hx, Bool.and_eq_true, decide_eq_true_iff,
    decide_eq_true_iff, PourStep.remaining, Nat.sub_pos_iff_lt]

/-- CQ past its first checks: the HALT place, the checks on its step, and the blocking reading. -/
theorem takeCQ_eq (ps : List Int) : s.takeCQ ps =
    let id := parN ps 1
    if s.faults.state ≠ .normal then s.shoreReply (.pour .HO [fnat id, .word "HALT"])
    else
      match s.step? id with
      | none => s.shoreRefuse .CQ .none
      | some x =>
        if ¬ (x.state = .ready ∧ x.tally < x.planned) then s.shoreRefuse .CQ .state
        else if s.isHead id = false then s.shoreRefuse .CQ .head
        else
          s.blockingReading.elim (s.startClearance ps x) fun c => s.shoreReply (.pour .HO [fnat id, .word c.word]) := by
  rw [State.takeCQ]
  refine rung not_isNormal_iff fun _ => ?_
  cases hx : s.step? (parN ps 1) with
  | none =>
    have hplan : (!s.inPlan (parN ps 1)) = true := not_inPlan_iff.2 hx
    simp only [cqStepChecks, hplan, firstRefusal, if_true]
  | some x =>
    have hplan : (!s.inPlan (parN ps 1)) = false := by rw [State.inPlan, hx]; rfl
    simp only [cqStepChecks, hplan, firstRefusal, Bool.false_eq_true, if_false]
    by_cases hready : ¬ (x.state = .ready ∧ x.tally < x.planned)
    · rw [if_pos hready, (not_readyToPour_iff hx).2 hready]
      rfl
    · have hr : (!s.readyToPour (parN ps 1)) = false := by
        rw [← Bool.not_eq_true, not_readyToPour_iff hx]
        exact hready
      rw [if_neg hready, hr]
      cases hhead : s.isHead (parN ps 1) with
      | false => rfl
      | true =>
        simp only [Bool.not_true, Bool.false_eq_true, if_false, State.judgeClearance, hx]
        cases s.blockingReading <;> rfl

theorem stepIn_iff {id : Nat} {x : PourStep} (hx : s.step? id = some x) {a b : StepState} :
    s.stepIn id a b = true ↔ x.state = a ∨ x.state = b := by
  rw [State.stepIn, hx, Bool.or_eq_true, decide_eq_true_iff, decide_eq_true_iff]

/-- The step with an id, after steps with that id changed. -/
theorem step?_updStep {id : Nat} {f : PourStep → PourStep} (hf : ∀ y, (f y).id = y.id) :
    (s.updStep id f).step? id = (s.step? id).map f := by
  have hcheck (y : PourStep) : decide ((if y.id = id then f y else y).id = id) = decide (y.id = id) := by
    by_cases hy : y.id = id
    · rw [if_pos hy, hf]
    · rw [if_neg hy]
  have hfind : (s.updStep id f).step? id = (s.step? id).map fun y => if y.id = id then f y else y := by
    simp only [State.step?, State.updStep, pour_setPour, List.find?_map, Function.comp_def, hcheck]
  rw [hfind]
  cases hx : s.step? id with
  | none => rfl
  | some x =>
    have hid : x.id = id := by simpa using List.find?_some hx
    rw [Option.map_some, if_pos hid]
    rfl

/-- CS past its checks: the granted tonnes are those of the step before it pours. -/
theorem takeCS_eq {ps : List Int} {x : PourStep} (hx : s.step? (parN ps 1) = some x) : s.takeCS ps =
    (s.setPour { s.pour with
      steps := s.pour.steps.map fun y => if y.id = parN ps 1 then { y with state := .pouring } else y
      grantTimer := none }).shoreReply (.reply .CS [fnat (parN ps 1), fnat? x.granted]) := by
  have hgranted : ((s.updStep (parN ps 1) fun y => { y with state := .pouring }).stopGrant).grantedOf (parN ps 1) =
      x.granted := by
    have hstep : ((s.updStep (parN ps 1) fun y => { y with state := .pouring }).stopGrant).step? (parN ps 1) =
        (s.step? (parN ps 1)).map fun y => { y with state := .pouring } := step?_updStep (fun _ => rfl)
    rw [State.grantedOf, hstep, hx]
    rfl
  rw [State.takeCS]
  dsimp only
  rw [hgranted]
  rfl

end

/-- Settles O39: the ladder of each verb rung by rung, down to the step that it names. -/
theorem clearanceIsAskedAndChuteStarted : Obligations.ClearanceIsAskedAndChuteStarted := by
  unfold Obligations.ClearanceIsAskedAndChuteStarted
  refine ⟨fun s ps htakes => ?ask, fun s ps htakes => ?start⟩
  case ask =>
    dsimp only
    rw [exec_clearanceQuery, cqChecks]
    simp only [shoreRequest_cons htakes, shoreRequest_nil htakes]
    refine congrArg Host.Outcome.next ?_
    refine rung decide_eq_true_iff fun _ => ?_
    refine rung not_inRange_iff fun _ => ?_
    refine rung decide_eq_true_iff fun _ => ?_
    rw [takeCQ_eq]
    dsimp only
    split
    · rfl
    · cases s.step? (parN ps 1) with
      | none => rfl
      | some x =>
        dsimp only
        rw [blockingReading_eq, apply_ite (fun c : Option HoldCause => c.elim (s.startClearance ps x) _),
          apply_ite (fun c : Option HoldCause => c.elim (s.startClearance ps x) _)]
        rfl
  case start =>
    dsimp only
    rw [exec_chuteStart, csChecks]
    simp only [shoreRequest_cons htakes, shoreRequest_nil htakes]
    refine congrArg Host.Outcome.next ?_
    refine rung decide_eq_true_iff fun _ => ?_
    refine rung not_inRange_iff fun _ => ?_
    refine rung decide_eq_true_iff fun _ => ?_
    refine rung not_isNormal_iff fun _ => ?_
    cases hx : s.step? (parN ps 1) with
    | none => exact if_pos (not_inPlan_iff.2 hx)
    | some x =>
      rw [if_neg (by rw [not_inPlan_iff, hx]; exact Option.some_ne_none x)]
      refine rung (stepIn_iff hx) fun _ => ?_
      refine rung (by rw [Bool.not_eq_true']) fun _ => ?_
      exact rung (stepIn_iff hx) fun _ => takeCS_eq hx

end Sys2Proof.Machine

/-! # Tallies (O40) -/

namespace Sys2Proof.Machine

/-- The command CT is the shore request with its own checks and effect. -/
theorem exec_chuteTally (ps : List Int) (s : State) : exec (.chuteTally ps) s =
    .next (s.shoreRequest .CT ps (tallyChecks s ps) fun s => s.takeCT ps) := rfl

/-- The command CE is the shore request with its own checks and effect. -/
theorem exec_chuteEnd (ps : List Int) (s : State) : exec (.chuteEnd ps) s =
    .next (s.shoreRequest .CE ps (tallyChecks s ps) fun s => s.takeCE ps) := rfl

section
variable {s : State} {ps : List Int}

/-- A tally is out of range by its parameters or for the step that it names. -/
theorem tallyRange_iff : (!(inRange 1 999 (par ps 1) && inRange 0 99999 (par ps 2)) || !s.tallyGood ps) = true ↔
    ¬ (1 ≤ par ps 1 ∧ par ps 1 ≤ 999 ∧ 0 ≤ par ps 2 ∧ par ps 2 ≤ 99999) ∨ ∃ x ∈ (s.step? (parN ps 1)).toList,
      par ps 2 < x.tally ∨ 999999 < ((s.holdRecord x.hold).mass : Int) + (par ps 2 - x.tally) := by
  rw [Bool.or_eq_true, not_inRange_and_iff, Bool.not_eq_true', ← Bool.not_eq_true, State.tallyGood]
  refine or_congr_right ?_
  cases s.step? (parN ps 1) with
  | none => simp
  | some x =>
    simp only [Bool.and_eq_true, decide_eq_true_iff, Option.toList_some, List.mem_singleton, exists_eq_left]
    omega

theorem overrun_iff {x : PourStep} {n : Nat} : (overrun x n && decide (x.cause ≠ some .overrun)) = true ↔
    x.cause ≠ some .overrun ∧ ∃ c ∈ x.ceiling.toList, c < n := by
  rw [Bool.and_eq_true, decide_eq_true_iff, and_comm, overrun]
  refine and_congr_right fun _ => ?_
  cases x.ceiling <;> simp

/-- The ladder of CT and CE, down to the step that they name. -/
theorem tallyLadder {v : Verb} (htakes : ShoreTakes s v ps) {take : State → State} {f : PourStep → State}
    (htake : ∀ x, s.step? (parN ps 1) = some x → take s = f x) : s.shoreRequest v ps (tallyChecks s ps) take =
      if ps.length ≠ 2 then s.shoreRefuse v .args
      else if ¬ (1 ≤ par ps 1 ∧ par ps 1 ≤ 999 ∧ 0 ≤ par ps 2 ∧ par ps 2 ≤ 99999) ∨
          ∃ x ∈ (s.step? (parN ps 1)).toList,
            par ps 2 < x.tally ∨ 999999 < ((s.holdRecord x.hold).mass : Int) + (par ps 2 - x.tally) then
        s.shoreRefuse v .range
      else if s.faults.state = .restart then s.shoreRefuse v .halt
      else
        match s.step? (parN ps 1) with
        | none => s.shoreRefuse v .none
        | some x => if x.state ≠ .pouring ∧ x.state ≠ .held then s.shoreRefuse v .state else f x := by
  rw [tallyChecks]
  simp only [shoreRequest_cons htakes, shoreRequest_nil htakes]
  refine rung decide_eq_true_iff fun _ => ?_
  refine rung tallyRange_iff fun _ => ?_
  refine rung inRestart_iff fun _ => ?_
  cases hx : s.step? (parN ps 1) with
  | none => exact if_pos (not_inPlan_iff.2 hx)
  | some x =>
    rw [if_neg (by rw [not_inPlan_iff, hx]; exact Option.some_ne_none x)]
    refine rung ?_ fun _ => htake x hx
    rw [State.notTallied, Bool.not_eq_true', ← Bool.not_eq_true, stepIn_iff hx, not_or]

end

/-- Settles O40: the ladder that both verbs share, then the effect on the step. -/
theorem talliesAreTaken : Obligations.TalliesAreTaken := by
  unfold Obligations.TalliesAreTaken
  intro s ps id tally added bad answer ladder
  refine ⟨fun htakes => ?tallied, fun htakes => ?ended⟩
  case tallied =>
    rw [exec_chuteTally]
    refine congrArg Host.Outcome.next (tallyLadder htakes fun x hx => ?_)
    rw [State.takeCT, hx]
    dsimp only
    rw [State.judgeOverrun]
    simp only [overrun_iff]
    rfl
  case ended =>
    rw [exec_chuteEnd]
    refine congrArg Host.Outcome.next (tallyLadder htakes fun x hx => ?_)
    rw [State.takeCE, hx]
    rfl

end Sys2Proof.Machine

/-! # Frames and reports (O41) -/

namespace Sys2Proof.Machine

section
variable {s : State}

/-! ## A scan that fails (R31, R38) -/

theorem failRestartScan_eq {w : ScanWindow} (hw : w.restart = true) : s.failWindow w =
    (s.setLoop { s.loop with staging := [], window := none, fullScan := true }).setFaults
      { s.faults with lastAttempt := some .failed } := by
  rw [State.failWindow, if_pos hw]
  rfl

theorem failRegularScan_eq {w : ScanWindow} (hw : w.restart = false) : s.failWindow w =
    let u := s.setLoop { s.loop with
      staging := []
      window := none
      fullScan := true
      failures := min 3 (s.loop.failures + 1)
      state := if 2 ≤ s.loop.failures then .lost else s.loop.state }
    if 2 ≤ s.loop.failures ∧ s.loop.state = .good then u.class1 .loopLost else u := by
  have hloop : (s.failWindow w) = s.failScan := by rw [State.failWindow, hw]; rfl
  rw [hloop, State.failScan]
  simp only [Bool.and_eq_true, decide_eq_true_iff]

theorem now_failWindow (w : ScanWindow) : (s.failWindow w).now = s.now := by
  cases hw : w.restart with
  | true => rw [failRestartScan_eq hw]; rfl
  | false =>
    rw [failRegularScan_eq hw]
    dsimp only
    split
    · exact ((Work.refl _).class1 .loopLost).now
    · rfl

/-! ## The frame timer (R27) -/

/-- What the frame timer finds: the clock has come to it, and a window still open has failed. -/
def State.timerFinds (s : State) (due : Nat) : State :=
  match s.loop.window with
  | none => s.setNow (max s.now due)
  | some w => (s.setNow (max s.now due)).failWindow w

theorem now_timerFinds (due : Nat) : (s.timerFinds due).now = max s.now due := by
  rw [State.timerFinds]
  cases s.loop.window with
  | none => rfl
  | some w => exact now_failWindow w

theorem frameExpiry_none (h : s.loop.frameTimer = none) : s.frameExpiry = s := by
  rw [State.frameExpiry, h]

theorem frameExpiry_some {due : Nat} (h : s.loop.frameTimer = some due) :
    let u := s.timerFinds due
    s.frameExpiry = (u.setLoop { u.loop with frameTimer := some (due + 500) }).sendFrame
      (if u.loop.fullScan = true then .full else .routine) false := by
  rw [State.frameExpiry, h]
  dsimp only
  rw [State.timerFinds]
  cases hw : s.loop.window with
  | none =>
    have hwindow : (s.reach due).loop.window = none := hw
    rw [hwindow]
    rfl
  | some w =>
    have hwindow : (s.reach due).loop.window = some w := hw
    rw [hwindow]
    rfl

/-! ## Reports (R29) -/

/-- The greatest value that a point of a role may report (R29). -/
theorem mayReport_iff {r : Role} {n : Nat} (h : n ≤ 65535) : r.mayReport n = true ↔
    n ≤ match r with
      | .run _ => 1
      | .gauge _ => 4095
      | .unused => 65535
      | _ => 2 := by
  cases r <;> simp [Role.mayReport, h]

theorem inOrder_iff {w : ScanWindow} {r : Role} {a n : Nat} : w.inOrder r a n = true ↔
    a ≤ 63 ∧ (∀ h ∈ w.highest.toList, h < a) ∧ r.mayReport n = true := by
  rw [ScanWindow.inOrder, Bool.and_eq_true, Bool.and_eq_true, decide_eq_true_iff, and_assoc]
  refine and_congr_right fun _ => and_congr_left fun _ => ?_
  cases w.highest <;> simp

end

/-- Settles O41: the frame timer by what it finds, the limit and the failures, and a report by its place in the scan. -/
theorem framesAreSentAndReportsTaken : Obligations.FramesAreSentAndReportsTaken := by
  unfold Obligations.FramesAreSentAndReportsTaken
  refine ⟨fun s h => congrArg Host.Outcome.next (frameExpiry_none h), fun s due h => ?frame, fun s h => ?noLimit,
    fun s w h => ?limit, fun s w hw => failRestartScan_eq hw, fun s w hw => failRegularScan_eq hw, fun addr value s => ?report⟩
  case frame =>
    intro u kind
    have hu : u = s.timerFinds due := rfl
    have hnow : u.now = max s.now due := now_timerFinds due
    have hsent : exec .frameTimerExpiry s =
        .next ((u.setLoop { u.loop with frameTimer := some (due + 500) }).sendFrame kind false) :=
      congrArg Host.Outcome.next (frameExpiry_some h)
    have hfacts := sendFrame_facts (u.setLoop { u.loop with frameTimer := some (due + 500) }) kind false
    generalize (u.setLoop { u.loop with frameTimer := some (due + 500) }).sendFrame kind false = t at hsent hfacts
    obtain ⟨hframe, hdrive⟩ := hfacts
    have hnow' : t.now = u.now := by
      rw [hframe]
      rfl
    refine ⟨t, hsent, hnow'.trans hnow, ?_, fun a ha => ?_⟩
    · rw [hnow']
      exact hframe
    · rw [hnow']
      exact hdrive a ha
  case noLimit =>
    refine congrArg Host.Outcome.next ?_
    rw [State.scanLimit, h]
  case limit =>
    refine congrArg Host.Outcome.next ?_
    rw [State.scanLimit, h]
    rfl
  case report =>
    intro a v r greatest
    refine ⟨fun h => congrArg Host.Outcome.next ?_, fun ha => congrArg Host.Outcome.next ?_, fun w hw ha =>
      congrArg Host.Outcome.next ?_⟩
    · rw [State.report, h]
    · have ha' : addr.toNat = 127 := ha
      rw [State.report, State.endOfScan, ha']
      cases s.loop.window <;> rfl
    · have hv : v ≤ 65535 := by have := value.isLt; omega
      rw [State.report, hw]
      dsimp only
      rw [if_neg ha]
      exact rung (inOrder_iff.trans (and_congr_right fun _ => and_congr_right fun _ => mayReport_iff hv)) fun _ => rfl

end Sys2Proof.Machine

/-! # The commit of a scan (O42) -/

namespace Sys2Proof.Machine

/-- Two folds agree when their functions agree where a property holds that the first keeps. -/
theorem foldl_congr_inv {α β : Type} {f g : β → α → β} (P : β → Prop) (l : List α) (hP : ∀ u, ∀ a ∈ l, P u → P (f u a))
    (h : ∀ u, ∀ a ∈ l, P u → f u a = g u a) {u : β} (hu : P u) : l.foldl f u = l.foldl g u := by
  induction l generalizing u with
  | nil => rfl
  | cons a l ih =>
    rw [List.foldl_cons, List.foldl_cons, ← h u a List.mem_cons_self hu]
    exact ih (fun v b hb => hP v b (List.mem_cons_of_mem _ hb)) (fun v b hb => h v b (List.mem_cons_of_mem _ hb))
      (hP u a List.mem_cons_self hu)

/-- The drive points are the addresses of drive roles, each with its role. -/
theorem drivePoints_eq (p : Option Memory) : drivePoints p =
    ((List.range 64).filter fun a => (roleOf p a).isDrive).map fun a => (a, roleOf p a) := by
  rw [drivePoints, List.filter_map]
  rfl

section
variable (s : State) (w : ScanWindow)

/-! ## The image and the readings -/

/-- The taking of a scan with its readings. -/
def State.readScan (s : State) (w : ScanWindow) : State := (s.takeScan w).takeReadings

/-- What the taking of a regular scan with its readings changes. -/
theorem readScan_eq (hw : w.restart = false) : s.readScan w = (s.setLoop { s.loop with
      scan := (s.takeScan w).loop.scan, staging := [], window := none, failures := 0, state := .good
      fullScan := if w.kind = .full then false else s.loop.fullScan
      allOff := some (s.takeScan w).allOffReading }).setMovers
    ⟨{ s.movers.m1 with quiet := some ((s.takeScan w).quietReading .m1) },
      { s.movers.m2 with quiet := some ((s.takeScan w).quietReading .m2) },
      { s.movers.m3 with quiet := some ((s.takeScan w).quietReading .m3) }⟩ := by
  obtain ⟨ms, hread, hms⟩ := takeReadings_eq (s.takeScan w)
  rw [State.readScan, hread, hms, takeScan_loop s w hw]
  have htake := takeScan_eq s w
  have hmovers : (s.takeScan w).movers = s.movers := by rw [htake]; rfl
  rw [hmovers]
  nth_rw 1 [htake]
  rfl

theorem scan_readScan : (s.readScan w).loop.scan = (s.takeScan w).loop.scan := by
  obtain ⟨ms, hread, _⟩ := takeReadings_eq (s.takeScan w)
  rw [State.readScan, hread]
  rfl

theorem scanned_readScan (a : Nat) : (s.readScan w).scanned a = (s.takeScan w).scanned a := by
  rw [State.scanned, State.scanned, scan_readScan]

/-! ## Grading every drive point (R33) -/

/-- The grade of a drive point, and whether a disagreement is handed. -/
def State.gradeOf (s : State) (a : Nat) : Agreement × Bool :=
  grade (s.drive a).agreement (s.agrees a) (s.expired a (roleOf s.parts a))

/-- A drive point that takes its grade. -/
def State.gradedPoint (s : State) (a : Nat) : DrivePoint := { s.drive a with agreement := (s.gradeOf a).1 }

/-- The disagreement of a point that is handed, with its owner. -/
def State.handedPoint (s : State) (a : Nat) : HandedPoint :=
  (⟨a, roleOf s.parts a, (s.drive a).on, (s.gradeOf a).1, decide ((s.scanned a).value = none)⟩,
    s.ownerOf (roleOf s.parts a))

/-- The drive image after the points of a list have taken their grades. -/
def State.gradedImage (s : State) (l : List Nat) : Vector DrivePoint 64 :=
  Vector.ofFn fun i : Fin 64 => if i.val ∈ l then s.gradedPoint i.val else s.drive i.val

theorem gradePoint_eq (u : State) (a : Nat) (acc : List HandedPoint) :
    State.gradePoint (u, acc) (a, roleOf u.parts a) =
      (u.setDrive a (u.gradedPoint a), acc ++ if (u.gradeOf a).2 then [u.handedPoint a] else []) := by
  have hgrade : grade (u.drive a).agreement (u.agrees a) (u.expired a (roleOf u.parts a)) = u.gradeOf a := rfl
  rw [State.gradePoint]
  dsimp only
  rw [hgrade]
  cases hg : (u.gradeOf a).2 with
  | true => rfl
  | false => rw [if_neg (by decide), if_neg (by decide), List.append_nil]; rfl

/-- A grade depends on the point, its scanned value, the clock and the role. -/
theorem gradeOf_congr {u v : State} {a : Nat} (hd : u.drive a = v.drive a) (hs : u.scanned a = v.scanned a)
    (hn : u.now = v.now) (hp : u.parts = v.parts) : u.gradeOf a = v.gradeOf a := by
  unfold State.gradeOf State.agrees State.expired
  rw [hd, hs, hn, hp]

theorem ownerOf_setLoop (l : FieldLoop) (r : Role) : (s.setLoop l).ownerOf r = s.ownerOf r := by cases r <;> rfl

/-- The grading of a point that the grading of others has left. -/
theorem gradePoint_setDrives (d : Vector DrivePoint 64) {a : Nat}
    (hd : (s.setLoop { s.loop with drive := d }).drive a = s.drive a) (acc : List HandedPoint) :
    State.gradePoint (s.setLoop { s.loop with drive := d }, acc) (a, roleOf s.parts a) =
      (s.setLoop { s.loop with drive := d.setIfInBounds a (s.gradedPoint a) },
        acc ++ if (s.gradeOf a).2 then [s.handedPoint a] else []) := by
  have hgrade : (s.setLoop { s.loop with drive := d }).gradeOf a = s.gradeOf a := gradeOf_congr hd rfl rfl rfl
  have hgraded : (s.setLoop { s.loop with drive := d }).gradedPoint a = s.gradedPoint a := by
    rw [State.gradedPoint, State.gradedPoint, hgrade, hd]
  have hhanded : (s.setLoop { s.loop with drive := d }).handedPoint a = s.handedPoint a := by
    rw [State.handedPoint, State.handedPoint, hgrade, hd, ownerOf_setLoop]
    rfl
  have hpoint := gradePoint_eq (s.setLoop { s.loop with drive := d }) a acc
  rw [hgraded, hgrade, hhanded] at hpoint
  exact hpoint

/-- The grading of some points: their agreements, and the disagreements handed. -/
theorem foldl_gradePoint {l : List Nat} (hl : l.Nodup) (h64 : ∀ a ∈ l, a < 64) (pre : List Nat)
    (hpre : ∀ a ∈ l, a ∉ pre) (acc : List HandedPoint) :
    (l.map fun a => (a, roleOf s.parts a)).foldl State.gradePoint
        (s.setLoop { s.loop with drive := s.gradedImage pre }, acc) =
      (s.setLoop { s.loop with drive := s.gradedImage (pre ++ l) },
        acc ++ (l.filter fun a => (s.gradeOf a).2).map s.handedPoint) := by
  induction l generalizing pre acc with
  | nil => simp
  | cons a l ih =>
    have ha : a < 64 := h64 a List.mem_cons_self
    have hna : a ∉ pre := hpre a List.mem_cons_self
    obtain ⟨hnl, hl⟩ := List.nodup_cons.1 hl
    have hdrive : (s.setLoop { s.loop with drive := s.gradedImage pre }).drive a = s.drive a := by
      simp only [State.drive, loop_setLoop, State.gradedImage]
      rw [ofFn_getD _ a _ ha, if_neg hna]
    have himage : (s.gradedImage pre).setIfInBounds a (s.gradedPoint a) = s.gradedImage (pre ++ [a]) := by
      ext i hi : 1
      simp only [State.gradedImage, Vector.getElem_setIfInBounds, Vector.getElem_ofFn, List.mem_append, List.mem_singleton]
      by_cases hia : a = i
      · subst hia
        simp
      · have hia' : i ≠ a := fun h => hia h.symm
        simp [hia, hia']
    have hstep : State.gradePoint (s.setLoop { s.loop with drive := s.gradedImage pre }, acc) (a, roleOf s.parts a) =
        (s.setLoop { s.loop with drive := s.gradedImage (pre ++ [a]) },
          acc ++ (if (s.gradeOf a).2 then [s.handedPoint a] else [])) := by
      rw [← himage]
      exact gradePoint_setDrives s _ hdrive acc
    rw [List.map_cons, List.foldl_cons, hstep, ih hl (fun b hb => h64 b (List.mem_cons_of_mem _ hb)) (pre ++ [a])
      (fun b hb => ?_), List.append_assoc, List.append_assoc]
    · cases hg : (s.gradeOf a).2 <;> simp [hg]
    · rw [List.mem_append, List.mem_singleton, not_or]
      exact ⟨hpre b (List.mem_cons_of_mem _ hb), fun h => hnl (h ▸ hb)⟩

/-- The addresses of the drive points, ascending. -/
def State.drives (s : State) : List Nat := (List.range 64).filter fun a => (roleOf s.parts a).isDrive

theorem mem_drives {s : State} {a : Nat} : a ∈ s.drives ↔ a < 64 ∧ (roleOf s.parts a).isDrive = true := by
  rw [State.drives, List.mem_filter, List.mem_range]

/-- The state with every drive point graded. -/
def State.allGraded (s : State) : State := s.setLoop { s.loop with drive := s.gradedImage s.drives }

theorem parts_setLoop (l : FieldLoop) : (s.setLoop l).parts = s.parts := rfl

theorem scan_setDrives (d : Vector DrivePoint 64) : (s.setLoop { s.loop with drive := d }).loop.scan = s.loop.scan := rfl

theorem scan_allGraded : s.allGraded.loop.scan = s.loop.scan := scan_setDrives s _

/-- The drive points that hand a disagreement, ascending. -/
def State.handed (s : State) : List Nat := s.drives.filter fun a => (s.gradeOf a).2

theorem gradedImage_nil : s.gradedImage [] = s.loop.drive := by
  ext i hi : 1
  simp [State.gradedImage, State.drive]

theorem gradePoints_eq : s.gradePoints = (s.allGraded, s.handed.map s.handedPoint) := by
  have hfold := foldl_gradePoint s (l := s.drives) (List.nodup_range.filter _) (fun a ha => (mem_drives.1 ha).1) []
    (fun _ _ => List.not_mem_nil) []
  rw [gradedImage_nil] at hfold
  rw [State.gradePoints, drivePoints_eq]
  exact hfold

/-- A drive point after the grading. -/
theorem drive_allGraded {a : Nat} (ha : a < 64) : s.allGraded.drive a =
    if (roleOf s.parts a).isDrive = true then s.gradedPoint a else s.drive a := by
  have h : s.allGraded.drive a = if a ∈ s.drives then s.gradedPoint a else s.drive a := ofFn_getD _ a _ ha
  rw [h]
  exact if_congr (mem_drives.trans (and_iff_right ha)) rfl rfl

/-! ## What the disagreements of a commit are handed to (R34 to R36) -/

/-- A RUN point commanded OFF that reads RUNNING. -/
def State.astray (s : State) (a : Nat) : Prop :=
  (roleOf s.parts a).isRun = true ∧ (s.drive a).on = false ∧ (s.scanned a).value = some 1

theorem astray_iff {a : Nat} : ((roleOf s.parts a).isRun && !(s.drive a).on && s.readsRunning a) = true ↔ s.astray a := by
  rw [Bool.and_eq_true, Bool.and_eq_true, Bool.not_eq_true', State.readsRunning, decide_eq_true_iff, and_assoc]
  rfl

end

section
variable {s : State}

theorem readsRunning_congr {x : State} (hx : x.loop.scan = s.loop.scan) (a : Nat) : x.readsRunning a = s.readsRunning a := by
  rw [State.readsRunning, State.readsRunning, State.scanned, State.scanned, hx]

/-- A disagreement raises POINT when it has no owner and its point is not astray. -/
theorem noticePoint_handed {x : State} (hx : x.loop.scan = s.loop.scan) {a : Nat} {P : Prop} [Decidable P]
    (hP : (s.ownerOf (roleOf s.parts a) = none ∧ ¬ s.astray a) ↔ P) :
    x.noticePoint (s.handedPoint a) = if P then x.raise (.point a) else x := by
  have hreads := readsRunning_congr hx a
  refine if_congr (Iff.trans ?_ hP) rfl rfl
  rw [Bool.and_eq_true, Option.isNone_iff_eq_none, Bool.not_eq_true', ← Bool.not_eq_true]
  simp only [State.handedPoint, hreads, astray_iff]

/-- The disagreements that a mover is handed. -/
theorem handedTo_handed {x : State} (hx : x.loop.scan = s.loop.scan) {m : MoverId} {P : Nat → Prop} [DecidablePred P]
    (hP : ∀ a, (s.ownerOf (roleOf s.parts a) = some m ∧ ¬ s.astray a) ↔ P a) (l : List Nat) :
    x.handedTo m (l.map s.handedPoint) = (l.filter fun a => decide (P a)).map fun a => (s.handedPoint a).1 := by
  have hreads := readsRunning_congr hx
  rw [State.handedTo, List.filter_map, List.map_map]
  refine congrArg (List.map _) (List.filter_congr fun a _ => ?_)
  rw [Bool.eq_iff_iff, decide_eq_true_iff, ← hP, Function.comp, Bool.and_eq_true, decide_eq_true_iff, Bool.not_eq_true',
    ← Bool.not_eq_true]
  simp only [State.handedPoint, hreads, astray_iff]

/-- The RUN points astray after their allowance, by the grades of the commit. -/
theorem astrayPumps_allGraded {P : Nat → Prop} [DecidablePred P] (hP : ∀ a, (s.astray a ∧ (s.gradeOf a).1 ≠ .awaiting) ↔ P a) :
    s.allGraded.astrayPumps = s.drives.filter fun a => decide (P a) := by
  have hparts : s.allGraded.parts = s.parts := parts_setLoop s _
  rw [State.astrayPumps, hparts, drivePoints_eq, List.filter_map, List.map_map]
  have hid (l : List Nat) : l.map (Prod.fst ∘ fun a => (a, roleOf s.parts a)) = l := List.map_id l
  rw [hid]
  refine List.filter_congr fun a ha => ?_
  obtain ⟨ha, hdrive⟩ := mem_drives.1 ha
  have hpoint : s.allGraded.drive a = s.gradedPoint a := (drive_allGraded s ha).trans (if_pos hdrive)
  have hreads : s.allGraded.readsRunning a = s.readsRunning a := readsRunning_congr (scan_allGraded s) a
  rw [Bool.eq_iff_iff, decide_eq_true_iff, ← hP]
  simp only [Function.comp, hpoint, hreads, State.gradedPoint, Bool.and_eq_true, decide_eq_true_iff]
  rw [← astray_iff]
  simp only [Bool.and_eq_true]
  exact ⟨fun ⟨⟨⟨h1, h2⟩, h3⟩, h4⟩ => ⟨⟨⟨h1, h2⟩, h4⟩, h3⟩, fun ⟨⟨⟨h1, h2⟩, h4⟩, h3⟩ => ⟨⟨⟨h1, h2⟩, h3⟩, h4⟩⟩

/-! ## The tanks (R2 to R6) -/

/-- The defined tanks, ascending, with the readings of the commit. -/
def State.converted (s : State) : State := (definedTanks s.parts).foldl State.convertTank s

theorem mem_definedTanks {p : Option Memory} {n : Nat} (h : n ∈ definedTanks p) : 1 ≤ n ∧ n ≤ 24 := by
  simp only [definedTanks, numbers, List.mem_filter, List.mem_map, List.mem_range] at h
  obtain ⟨⟨k, hk, rfl⟩, _⟩ := h
  omega

theorem nodup_definedTanks (p : Option Memory) : (definedTanks p).Nodup := by
  refine List.Nodup.filter _ ?_
  rw [numbers]
  exact List.nodup_range.map fun a b h => Nat.succ_injective h

/-- Taking the readings of some tanks changes items and the Tank Table. -/
theorem foldl_convertTank_frame {l : List Nat} (hl : ∀ n ∈ l, 1 ≤ n ∧ n ≤ 24) :
    ∃ a x, l.foldl State.convertTank s = (s.setAttention a).setTankTable x := by
  induction l generalizing s with
  | nil => exact ⟨s.attention, s.tankTable, rfl⟩
  | cons n l ih =>
    obtain ⟨h1, h24⟩ := hl n List.mem_cons_self
    obtain ⟨a, x, h⟩ := ih (s := s.convertTank n) fun k hk => hl k (List.mem_cons_of_mem _ hk)
    refine ⟨a, x, ?_⟩
    rw [List.foldl_cons, h, convertTank_frame s h1 h24]
    rfl

theorem tankRead_congr {x : State} {k : Nat} (ht : x.tank k = s.tank k) (hl : x.loop = s.loop) (hp : x.parts = s.parts) :
    x.tankRead k = s.tankRead k := by
  unfold State.tankRead State.goodReading State.scanned
  rw [ht, hl, hp]

/-- The volume and the gauge of a tank after the readings of some tanks: those of its own reading, or as they were. -/
theorem tank_foldl_convertTank {l : List Nat} (hl : ∀ n ∈ l, 1 ≤ n ∧ n ≤ 24) (hnodup : l.Nodup) {k : Nat} (hk : 1 ≤ k) :
    let x := (l.foldl State.convertTank s).tank k
    let y := if k ∈ l then s.tankRead k else s.tank k
    x.volume = y.volume ∧ x.gauge = y.gauge := by
  induction l generalizing s with
  | nil => exact ⟨rfl, rfl⟩
  | cons n l ih =>
    obtain ⟨h1, h24⟩ := hl n List.mem_cons_self
    obtain ⟨hnl, hnodup⟩ := List.nodup_cons.1 hnodup
    have hrest := ih (s := s.convertTank n) (fun k hk => hl k (List.mem_cons_of_mem _ hk)) hnodup
    dsimp only at hrest ⊢
    rw [List.foldl_cons]
    by_cases hkn : k = n
    · subst hkn
      rw [if_neg hnl, tank_convertTank_same s h1 h24] at hrest
      rw [if_pos List.mem_cons_self]
      exact hrest
    · have hother := tank_convertTank_other s h1 h24 hk hkn
      have hframe := convertTank_frame s h1 h24
      have hread : (s.convertTank n).tankRead k = s.tankRead k :=
        tankRead_congr hother (by rw [hframe]; rfl) (by rw [hframe]; rfl)
      have hmem : k ∈ n :: l ↔ k ∈ l := by rw [List.mem_cons, or_iff_right hkn]
      rw [hread, hother] at hrest
      rw [if_congr hmem rfl rfl]
      exact hrest

/-- The tanks take the commit, and the masses change when a volume did (R6). -/
theorem tanksCommit_eq : s.tanksCommit =
    if ∀ n ∈ definedTanks s.parts, (s.converted.tank n).volume = (s.tank n).volume then s.converted
    else s.converted.massChange := by
  obtain ⟨a, x, hframe⟩ := foldl_convertTank_frame (s := s) (l := definedTanks s.parts) fun n hn => mem_definedTanks hn
  have hparts : s.converted.parts = s.parts := by rw [State.converted, hframe]; rfl
  have hvolumes : s.converted.volumes = s.volumes ↔
      ∀ n ∈ definedTanks s.parts, (s.converted.tank n).volume = (s.tank n).volume := by
    rw [State.volumes, State.volumes, hparts, List.map_inj_left]
  rw [State.tanksCommit]
  exact if_congr hvolumes rfl rfl

/-- What the tanks' taking of a commit changes. -/
theorem tanksCommit_frame : ∃ a x q, s.tanksCommit = ((s.setAttention a).setTankTable x).setCond q := by
  obtain ⟨a, x, hframe⟩ := foldl_convertTank_frame (s := s) (l := definedTanks s.parts) fun n hn => mem_definedTanks hn
  obtain ⟨q, hmass, -⟩ := massChange_eq s.converted
  rw [tanksCommit_eq, hmass, State.converted, hframe]
  split
  · exact ⟨a, x, s.cond, rfl⟩
  · exact ⟨a, x, q, rfl⟩

/-- A tank after the tanks have taken a commit. -/
theorem tank_tanksCommit (k : Nat) (hk : k ∈ definedTanks s.parts) :
    (s.tanksCommit.tank k).volume = (s.tankRead k).volume ∧ (s.tanksCommit.tank k).gauge = (s.tankRead k).gauge := by
  have hread := tank_foldl_convertTank (s := s) (fun n hn => mem_definedTanks hn) (nodup_definedTanks s.parts)
    (mem_definedTanks hk).1
  rw [if_pos hk] at hread
  obtain ⟨q, hmass, -⟩ := massChange_eq s.converted
  rw [tanksCommit_eq, hmass]
  split <;> exact hread

end

end Sys2Proof.Machine

/-! # The whole commit, in its order (O42) -/

namespace Sys2Proof.Machine

section
variable (s : State) (w : ScanWindow)

/-! ## What the readings leave -/

theorem parts_readScan : (s.readScan w).parts = s.parts := by
  obtain ⟨ms, hread, -⟩ := takeReadings_eq (s.takeScan w)
  rw [State.readScan, hread]
  exact takeScan_parts s w

/-- The taking of a scan with its readings changes the field loop and the movers. -/
theorem readScan_frame : s.readScan w = (s.setLoop (s.readScan w).loop).setMovers (s.readScan w).movers := by
  obtain ⟨l, hl⟩ : ∃ l, s.takeScan w = s.setLoop l := ⟨_, takeScan_eq s w⟩
  obtain ⟨ms, hread, -⟩ := takeReadings_eq (s.setLoop l)
  rw [State.readScan, hl, hread]
  rfl

theorem loop_drive_readScan : (s.readScan w).loop.drive = s.loop.drive := by
  have htake : (s.takeScan w).loop.drive = s.loop.drive := by
    cases hw : w.restart with
    | false =>
      have h := congrArg FieldLoop.drive (takeScan_loop s w hw)
      exact h
    | true =>
      have h := congrArg FieldLoop.drive (takeScan_restart_loop s w hw)
      exact h
  obtain ⟨ms, hread, -⟩ := takeReadings_eq (s.takeScan w)
  rw [State.readScan, hread]
  exact htake

theorem drive_readScan (a : Nat) : (s.readScan w).drive a = s.drive a := by
  rw [State.drive, State.drive, loop_drive_readScan]

theorem now_readScan : (s.readScan w).now = s.now := by rw [readScan_frame]; rfl
theorem faults_readScan : (s.readScan w).faults = s.faults := by rw [readScan_frame]; rfl
theorem transfers_readScan : (s.readScan w).transfers = s.transfers := by rw [readScan_frame]; rfl
theorem tankTable_readScan : (s.readScan w).tankTable = s.tankTable := by rw [readScan_frame]; rfl

theorem mover_readScan (m : MoverId) : (s.readScan w).mover m =
    { s.mover m with quiet := some ((s.takeScan w).quietReading m) } := by
  obtain ⟨ms, hread, hms⟩ := takeReadings_eq (s.takeScan w)
  have hmovers : (s.takeScan w).movers = s.movers := by rw [takeScan_eq]; rfl
  rw [State.readScan, hread, hms, hmovers]
  cases m <;> rfl

/-! ## The commit in its order (log 9) -/

/-- The disagreements of the commit that no mover owns have raised their items. -/
def State.noticed (s : State) : State := (s.handed.map s.handedPoint).foldl State.noticePoint s.allGraded

/-- The movers have taken the commit, after the tanks. -/
def State.moved (s tanks : State) : State :=
  allMovers.foldl (fun x m => x.moverCommit m (State.gaugeLostHanded s.allGraded tanks m)
    (tanks.handedTo m (s.handed.map s.handedPoint))) tanks.clearGaugeDue

/-- The points astray have been handed. -/
def State.faulted (s tanks : State) : State := s.allGraded.astrayPumps.foldl (fun x a => x.class1 (.pumpAstray a)) (s.moved tanks)

/-- The commit of a regular scan, in its order. -/
theorem commitScan_eq : s.commitScan w =
    let u := s.readScan w
    let x := u.faulted u.noticed.tanksCommit
    (if s.faults.state = .haltStopping then x.confirmHalt else x).pourCommit := by
  rw [State.commitScan]
  have hgraded := gradePoints_eq (s.readScan w)
  rw [State.readScan] at hgraded
  dsimp only
  rw [hgraded]
  rfl

/-- The readers of the commit after the tanks do the work of the blocks. -/
theorem commitScan_work : Work (s.readScan w).noticed.tanksCommit (s.commitScan w) := by
  rw [commitScan_eq]
  dsimp only
  have hmoved : Work (s.readScan w).noticed.tanksCommit ((s.readScan w).moved (s.readScan w).noticed.tanksCommit) :=
    Work.foldl _ (fun _ _ g => g.moverCommit _ _ _) (Work.refl _).clearGaugeDue
  have hfaulted : Work (s.readScan w).noticed.tanksCommit ((s.readScan w).faulted (s.readScan w).noticed.tanksCommit) :=
    Work.foldl _ (fun _ _ g => g.class1 _) hmoved
  split
  · exact hfaulted.confirmHalt.pourCommit
  · exact hfaulted.pourCommit

theorem noticed_frame : ∃ a, s.noticed = s.allGraded.setAttention a := by
  have h (l : List HandedPoint) (x : State) : ∃ a, l.foldl State.noticePoint x = x.setAttention a := by
    induction l generalizing x with
    | nil => exact ⟨x.attention, rfl⟩
    | cons p l ih =>
      obtain ⟨a, ha⟩ := ih (x.noticePoint p)
      refine ⟨a, ?_⟩
      rw [List.foldl_cons, ha, State.noticePoint]
      split <;> rfl
  exact h _ _

/-- The tanks' part of the commit, with the readings, leaves all but the items, the Tank Table, the Condition Unit and the
drive image. -/
theorem tanksPart_frame : ∃ a x q, s.noticed.tanksCommit =
    ((s.allGraded.setAttention a).setTankTable x).setCond q := by
  obtain ⟨a, hnoticed⟩ := noticed_frame s
  obtain ⟨a', x, q, htanks⟩ := tanksCommit_frame (s := s.noticed)
  refine ⟨a', x, q, ?_⟩
  rw [htanks, hnoticed]
  generalize s.allGraded = graded
  rfl

end

section
variable {s : State} {w : ScanWindow}

/-- The field loop after a regular commit. -/
theorem loop_commitScan (hw : w.restart = false) : (s.commitScan w).loop = { s.loop with
    drive := (s.commitScan w).loop.drive, scan := (s.takeScan w).loop.scan, staging := [], window := none, failures := 0
    state := .good, fullScan := if w.kind = .full then false else s.loop.fullScan
    allOff := some (s.takeScan w).allOffReading } := by
  obtain ⟨a, x, q, hframe⟩ := tanksPart_frame (s.readScan w)
  have hwork := congrArg (fun l : FieldLoop => { l with drive := (s.commitScan w).loop.drive }) (commitScan_work s w).loop
  rw [hframe] at hwork
  have hread : (s.readScan w).loop = _ := congrArg State.loop (readScan_eq s w hw)
  refine hwork.trans ?_
  dsimp only [loop_setCond, loop_setTankTable, loop_setAttention]
  rw [State.allGraded]
  dsimp only [loop_setLoop]
  rw [hread]
  rfl

/-- The quiet reading of a mover after a regular commit. -/
theorem quiet_commitScan (m : MoverId) :
    ((s.commitScan w).mover m).quiet = some ((s.takeScan w).quietReading m) := by
  obtain ⟨a, x, q, hframe⟩ := tanksPart_frame (s.readScan w)
  rw [(commitScan_work s w).quiet m, hframe]
  have h : ((s.readScan w).mover m).quiet = some ((s.takeScan w).quietReading m) := by rw [mover_readScan]
  exact h

/-! ## The tanks after the commit -/

/-- A tank's record after a reading, by the reading. -/
theorem tankRead_volume_gauge (x : State) (n : Nat) :
    match (x.scanned (tankGauge x.parts n)).value with
    | some v =>
      if (x.scanned (tankGauge x.parts n)).fresh = true ∧ v ≤ 4000 then
        (x.tankRead n).volume = some (convertRaw x.parts n v) ∧ (x.tankRead n).gauge = .good
      else (x.tankRead n).volume = (x.tank n).volume ∧ (x.tankRead n).gauge = (x.tank n).gauge.afterBad
    | none => (x.tankRead n).volume = (x.tank n).volume ∧ (x.tankRead n).gauge = (x.tank n).gauge.afterBad := by
  have hbad (h : x.goodReading n = none) :
      (x.tankRead n).volume = (x.tank n).volume ∧ (x.tankRead n).gauge = (x.tank n).gauge.afterBad := by
    rw [tankRead_bad x h]
    exact ⟨rfl, rfl⟩
  cases hv : (x.scanned (tankGauge x.parts n)).value with
  | none =>
    refine hbad ?_
    rw [State.goodReading, hv]
  | some v =>
    dsimp only
    split
    next h =>
      have hgood : x.goodReading n = some v := by
        rw [State.goodReading, hv]
        exact if_pos (by rw [h.1, decide_eq_true h.2]; rfl)
      rw [tankRead_good x hgood]
      exact ⟨rfl, rfl⟩
    next h =>
      refine hbad ?_
      rw [State.goodReading, hv]
      exact if_neg fun hc => h (by rwa [Bool.and_eq_true, decide_eq_true_iff] at hc)

theorem parts_noticed (u : State) : u.noticed.parts = u.parts := by
  obtain ⟨a, h⟩ := noticed_frame u
  rw [State.parts, State.parts, h, particulars_setAttention, State.allGraded, particulars_setLoop]

theorem tank_noticed (u : State) (n : Nat) : u.noticed.tank n = u.tank n := by
  obtain ⟨a, h⟩ := noticed_frame u
  rw [State.tank, State.tank, h, tankTable_setAttention, State.allGraded, tankTable_setLoop]

theorem scanned_noticed (u : State) (a : Nat) : u.noticed.scanned a = u.scanned a := by
  obtain ⟨i, h⟩ := noticed_frame u
  rw [State.scanned, State.scanned, h, loop_setAttention, scan_allGraded]

theorem tank_readScan (n : Nat) : (s.readScan w).tank n = s.tank n := by rw [State.tank, State.tank, tankTable_readScan]

/-- A defined tank after a regular commit. -/
theorem tank_commitScan {n : Nat} (hn : n ∈ definedTanks s.parts) :
    let reading := (s.takeScan w).scanned (tankGauge s.parts n)
    match reading.value with
    | some v =>
      if reading.fresh = true ∧ v ≤ 4000 then
        ((s.commitScan w).tank n).volume = some (convertRaw s.parts n v) ∧ ((s.commitScan w).tank n).gauge = .good
      else ((s.commitScan w).tank n).volume = (s.tank n).volume ∧
        ((s.commitScan w).tank n).gauge = (s.tank n).gauge.afterBad
    | none => ((s.commitScan w).tank n).volume = (s.tank n).volume ∧
        ((s.commitScan w).tank n).gauge = (s.tank n).gauge.afterBad := by
  have hparts : (s.readScan w).noticed.parts = s.parts := by rw [parts_noticed, parts_readScan]
  have htank : (s.readScan w).noticed.tank n = s.tank n := by rw [tank_noticed, tank_readScan]
  have hscan (a : Nat) : (s.readScan w).noticed.scanned a = (s.takeScan w).scanned a := by
    rw [scanned_noticed, scanned_readScan]
  obtain ⟨hvolume, hgauge, -⟩ := (commitScan_work s w).tanks n
  obtain ⟨hv, hg⟩ := tank_tanksCommit (s := (s.readScan w).noticed) n (by rw [hparts]; exact hn)
  have hread := tankRead_volume_gauge (s.readScan w).noticed n
  rw [hparts, hscan, htank, ← hv, ← hg, ← hvolume, ← hgauge] at hread
  exact hread

end

/-- The tank whose entry a mover's transfer is at. -/
theorem activeTank_bind (s : State) (m : MoverId) :
    s.activeTank m = ((s.mover m).run.bind s.transfer?).bind Transfer.activeTank := by
  rw [State.activeTank, State.runTransfer]
  cases (s.mover m).run with
  | none => rfl
  | some id => cases h : s.transfer? id <;> simp [h]

/-- A lost gauge is handed to a mover when its hand-off was due or its active tank's gauge has been lost at this commit. -/
theorem gaugeLostHanded_iff (s t : State) (m : MoverId) : State.gaugeLostHanded s t m = true ↔
    (s.mover m).gaugeDue = true ∨ ∃ n ∈ (((s.mover m).run.bind s.transfer?).bind Transfer.activeTank).toList,
      (s.tank n).gauge ≠ .lost ∧ (t.tank n).gauge = .lost := by
  rw [State.gaugeLostHanded, Bool.or_eq_true, ← activeTank_bind]
  refine or_congr_right ?_
  cases s.activeTank m <;> simp

end Sys2Proof.Machine

/-! # The commit of a scan, said in full (O42) -/

namespace Sys2Proof.Machine

section
variable {s : State} {w : ScanWindow}

/-- The grade of a point at a commit, by its scanned value and its allowance. -/
theorem gradeOf_readScan (a : Nat) : (s.readScan w).gradeOf a =
    grade (s.drive a).agreement (decide (((s.readScan w).scanned a).value = some (if (s.drive a).on = true then 1 else 0)))
      (decide (∃ since ∈ (s.drive a).start.toList,
        since + (if (roleOf s.parts a).isRun = true then 20000 else 60000) ≤ s.now)) := by
  have hexpired : (s.readScan w).expired a (roleOf s.parts a) = decide (∃ since ∈ (s.drive a).start.toList,
      since + (if (roleOf s.parts a).isRun = true then 20000 else 60000) ≤ s.now) := by
    rw [State.expired, drive_readScan, now_readScan, Bool.eq_iff_iff, decide_eq_true_iff]
    cases (s.drive a).start with
    | none => simp
    | some since =>
      simp only [decide_eq_true_iff, Option.toList_some, List.mem_singleton, exists_eq_left]
      rfl
  rw [State.gradeOf, State.agrees, parts_readScan, hexpired, drive_readScan]
  rfl

/-- The owner of a drive point by its role (R34). -/
theorem ownerOf_eq (r : Role) : s.ownerOf r =
    let own := fun m : MoverId => if (s.mover m).phase = .idle ∨ (s.mover m).phase = .faulted then none else some m
    match r with
    | .run m => own m
    | .overboard m => own m
    | .seaChest m => own m
    | .tankValve n =>
      (s.tank n).claim.bind fun id => [MoverId.m1, .m2, .m3].find? fun m => decide ((s.mover m).run = some id)
    | _ => none := by
  have howns (ph : Phase) (m : MoverId) :
      (if ph.owns then some m else none) = if ph = .idle ∨ ph = .faulted then none else some m := by
    cases ph <;> simp [Phase.owns]
  cases r with
  | tankValve n =>
    rw [State.ownerOf]
    dsimp only
    cases (s.tank n).claim <;> rfl
  | run m | overboard m | seaChest m => exact howns _ m
  | gauge | unused => rfl

theorem ownerOf_readScan (r : Role) : (s.readScan w).ownerOf r = s.ownerOf r := by
  have hphase (m : MoverId) : ((s.readScan w).mover m).phase = (s.mover m).phase := by rw [mover_readScan]
  have hrun (m : MoverId) : ((s.readScan w).mover m).run = (s.mover m).run := by rw [mover_readScan]
  rw [ownerOf_eq, ownerOf_eq]
  simp only [hphase, hrun, tank_readScan]

theorem astray_readScan (a : Nat) : (s.readScan w).astray a ↔
    (roleOf s.parts a).isRun = true ∧ (s.drive a).on = false ∧ ((s.readScan w).scanned a).value = some 1 := by
  rw [State.astray, parts_readScan, drive_readScan]

end

theorem gaugeLostHanded_setLoop (s t : State) (l : FieldLoop) (m : MoverId) :
    State.gaugeLostHanded (s.setLoop l) t m = State.gaugeLostHanded s t m := by cases m <;> rfl

theorem transfer_readScan (s : State) (w : ScanWindow) : (s.readScan w).transfer? = s.transfer? := by
  funext id
  rw [State.transfer?, State.transfer?, transfers_readScan]

/-- A halt stop that stood before the commit is confirmed when the points read OFF (R162). -/
theorem confirm_eq (s x : State) : (if s.faults.state = .haltStopping then x.confirmHalt else x) =
    if s.faults.state = .haltStopping ∧ x.faults.state = .haltStopping ∧ x.loop.allOff = some true then
      x.setFaults { x.faults with state := .halt, confirmation := none }
    else x := by
  have hcheck : (decide (x.faults.state = .haltStopping) && decide (x.loop.allOff = some true)) = true ↔
      x.faults.state = .haltStopping ∧ x.loop.allOff = some true := by
    rw [Bool.and_eq_true, decide_eq_true_iff, decide_eq_true_iff]
  by_cases h : s.faults.state = .haltStopping
  · rw [if_pos h, State.confirmHalt]
    exact if_congr (hcheck.trans (and_iff_right h).symm) rfl rfl
  · rw [if_neg h, if_neg fun hc => h hc.1]

theorem allOffReading_eq (s : State) :
    s.allOffReading = decide (∀ q ∈ drivePoints s.parts, (s.scanned q.1).value = some 0) := by
  rw [Bool.eq_iff_iff, decide_eq_true_iff, State.allOffReading, List.all_eq_true]
  simp only [State.readsOff, decide_eq_true_iff]

theorem quietReading_eq (s : State) (m : MoverId) :
    s.quietReading m = decide (∀ q ∈ moverPoints s.parts m, (s.scanned q.1).value = some 0) := by
  rw [Bool.eq_iff_iff, decide_eq_true_iff, State.quietReading, List.all_eq_true]
  simp only [State.readsOff, decide_eq_true_iff]

/-- Settles O42: the loop, the readings and the tanks by what the commit leaves of them, then the commit step by step. -/
theorem scansAreCommitted : Obligations.ScansAreCommitted := by
  unfold Obligations.ScansAreCommitted
  refine ⟨fun s h => ?closed, fun s w h hw => ?taken, fun s w h hw => ?order⟩
  case closed =>
    refine congrArg Host.Outcome.next ?_
    rw [State.endOfScan, h]
  case taken =>
    have hexec : exec .endOfScanReport s = .next (s.commitScan w) := by
      refine congrArg Host.Outcome.next ?_
      rw [State.endOfScan, h]
      dsimp only
      rw [State.commitWindow, hw]
      rfl
    have hloop := loop_commitScan (s := s) hw
    have hscanned (a : Nat) : (s.commitScan w).scanned a = (s.takeScan w).scanned a := by
      rw [State.scanned, hloop, State.scanned]
    refine ⟨_, hexec, ?_, fun a ha => (hscanned a).trans (takeScan_scanned s w a ha), ?_, fun m => ?_, fun n hn => ?_⟩
    · have hscan : (s.commitScan w).loop.scan = (s.takeScan w).loop.scan := by rw [hloop]
      have hoff : (s.commitScan w).loop.allOff = some (s.takeScan w).allOffReading := by rw [hloop]
      rw [hscan, hoff]
      exact hloop
    · rw [hloop, allOffReading_eq, takeScan_parts]
      simp only [hscanned]
    · rw [quiet_commitScan, quietReading_eq, takeScan_parts]
      simp only [hscanned]
    · have htank := tank_commitScan (w := w) hn
      rw [← hscanned] at htank
      exact htank
  case order =>
    intro role points u value graded v owner astray handed noticed converted tanks lost mine moved faulted confirmed
    have hu : u = s.readScan w := rfl
    have hparts : u.parts = s.parts := parts_readScan s w
    have hdrives : u.drives = points := by rw [State.drives, hparts]
    have hgraded (a : Nat) : u.gradeOf a = graded a := gradeOf_readScan a
    have howner (a : Nat) : u.ownerOf (role a) = owner a := (ownerOf_readScan _).trans (ownerOf_eq _)
    have hastray (a : Nat) : u.astray a ↔ astray a := astray_readScan a
    have hhanded : u.handed = handed := by
      rw [State.handed, hdrives]
      exact List.filter_congr fun a _ => by rw [hgraded]
    have hv : u.allGraded = v := by
      refine congrArg (fun d => u.setLoop { u.loop with drive := d }) (congrArg Vector.ofFn (funext fun i => ?_))
      have hmem : i.val ∈ u.drives ↔ (role i.val).isDrive = true := by
        rw [mem_drives, and_iff_right i.isLt, hparts]
      have hdrive : u.drive i.val = s.drive i.val := drive_readScan s w i.val
      rw [State.gradedPoint, hgraded, hdrive]
      exact if_congr hmem rfl rfl
    have hnoticed : u.noticed = noticed := by
      rw [State.noticed, hv, hhanded, List.foldl_map]
      have hstep (x : State) (a : Nat) (hx : x.loop.scan = u.loop.scan) : x.noticePoint (u.handedPoint a) =
          if owner a = none ∧ ¬ astray a then x.raise (.point a) else x :=
        noticePoint_handed hx (by rw [hparts, howner, hastray])
      refine foldl_congr_inv (fun x => x.loop.scan = u.loop.scan) handed (fun x a _ hx => ?_) (fun x a _ hx => hstep x a hx)
        (scan_setDrives u _)
      rw [hstep x a hx]
      split <;> exact hx
    have htanks : u.noticed.tanksCommit = tanks := by
      have hnparts : u.noticed.parts = s.parts := (parts_noticed u).trans hparts
      have hvolume (n : Nat) : (u.noticed.tank n).volume = (s.tank n).volume := by rw [tank_noticed, hu, tank_readScan]
      have hconverted : u.noticed.converted = converted := by rw [State.converted, hnparts, hnoticed]
      rw [tanksCommit_eq, hnparts, hconverted]
      simp only [hvolume]
      rfl
    have hscan : tanks.loop.scan = u.loop.scan := by
      obtain ⟨a, x, q, hframe⟩ := tanksPart_frame u
      rw [← htanks, hframe]
      exact scan_setDrives u _
    have hlost (m : MoverId) : State.gaugeLostHanded u.allGraded tanks m = decide (lost m) := by
      rw [Bool.eq_iff_iff, decide_eq_true_iff, State.allGraded, gaugeLostHanded_setLoop, hu, gaugeLostHanded_iff,
        mover_readScan, transfer_readScan]
      simp only [tank_readScan]
      rfl
    have hmine (m : MoverId) : tanks.handedTo m (u.handed.map u.handedPoint) = mine m := by
      have hP (a : Nat) : (u.ownerOf (roleOf u.parts a) = some m ∧ ¬ u.astray a) ↔ (owner a = some m ∧ ¬ astray a) := by
        rw [hparts, howner, hastray]
      rw [handedTo_handed hscan hP, hhanded]
      refine List.map_congr_left fun a _ => ?_
      have hdrive : u.drive a = s.drive a := drive_readScan s w a
      rw [State.handedPoint, hgraded, hdrive, hparts]
    have hmoved : u.moved tanks = moved := by
      rw [State.moved]
      simp only [hlost, hmine]
      rfl
    have hfaulted : u.faulted tanks = faulted := by
      have hP (a : Nat) : (u.astray a ∧ (u.gradeOf a).1 ≠ .awaiting) ↔ (astray a ∧ (graded a).1 ≠ .awaiting) := by
        rw [hgraded, hastray]
      rw [State.faulted, hmoved, astrayPumps_allGraded hP, hdrives]
    refine ⟨readScan_frame s w, loop_drive_readScan s w, fun m => ?_, ?_⟩
    · rw [hu, mover_readScan]
    · refine congrArg Host.Outcome.next ?_
      rw [State.endOfScan, h]
      dsimp only
      rw [State.commitWindow, hw]
      refine (commitScan_eq s w).trans (congrArg State.pourCommit ?_)
      rw [← hu, htanks, hfaulted]
      exact confirm_eq _ _

end Sys2Proof.Machine

/-! # Store writes and timers -/

namespace Sys2Proof.Machine

/-- What the drive points are after a frame: each drive point has its allowance start. -/
def State.drivesStarted (s t : State) : Prop :=
  ∀ a < 64, t.drive a =
    if (roleOf s.parts a).isDrive = true then { s.drive a with start := some (((s.drive a).start).getD t.now) }
    else s.drive a

/-- A restart attempt begins (R166): count, attempt timer, and a FULL restart frame in a loop with nothing staged. -/
theorem beginAttempt_eq (s : State) : ∃ d : Vector DrivePoint 64,
    s.beginAttempt = ((s.setFaults { s.faults with
        attempts := min 65535 (s.faults.attempts + 1), attempt := some s.now }).setLoop { s.loop with
          drive := d, staging := [], frameTimer := none, window := some ⟨.full, none, s.now, true⟩ }).setSent
        (s.sent ++ [.frame .full (s.loop.drive.toList.map fun d => d.on)]) ∧
      s.drivesStarted s.beginAttempt := by
  obtain ⟨heq, hdrive⟩ := sendFrame_facts ((s.setFaults { s.faults with
    attempts := min 65535 (s.faults.attempts + 1), attempt := some s.now }).setLoop { s.loop with
      frameTimer := none, window := none, staging := [] }) .full true
  refine ⟨s.beginAttempt.loop.drive, heq, fun a ha => ?_⟩
  have hnow := congrArg State.now heq
  change s.beginAttempt.now = s.now at hnow
  rw [hnow]
  exact hdrive a ha

/-- The grant of every GRANTED step expires (R148): the steps of the plan as the timer found it. -/
theorem grantExpires_of_timer {s : State} {since : Nat} (h : s.pour.grantTimer = some since) : s.grantExpires =
    s.pour.steps.foldl (fun t x =>
      if x.state = .granted then
        (t.updStep x.id fun y => { y with state := .ready, granted := none }).shoreSend .state (.pour .EX [fnat x.id])
      else t)
      ((s.setNow (max s.now (since + 120000))).setPour { s.pour with grantTimer := none }) := by
  unfold State.grantExpires
  rw [h]
  rfl

/-- Settles O51: each completion and each timer is its definition, and an attempt is `beginAttempt_eq`. -/
theorem storeWritesAndTimersComplete : Obligations.StoreWritesAndTimersComplete := by
  refine ⟨fun s h => ?_, fun s copy h => ?_, fun s h => ?_, fun s record h => ?_, fun s => ?_, fun s => ?_,
    fun s h => ?_, fun s h => ?_, fun s since h hf => ?_, fun s since h hf => ?_⟩
  · refine congrArg Host.Outcome.next ?_
    rw [State.completeOriginWrite, h]
  · refine congrArg Host.Outcome.next ?_
    rw [State.completeOriginWrite, h]
  · refine congrArg Host.Outcome.next ?_
    rw [State.completeSettingsSave, h]
  · refine congrArg Host.Outcome.next ?_
    rw [State.completeSettingsSave, h]
  · refine congrArg Host.Outcome.next ?_
    simp only [State.tideExpires, State.running, Bool.and_eq_true, decide_eq_true_eq]
    rfl
  · refine congrArg Host.Outcome.next ?_
    rcases h : s.pour.grantTimer with _ | since
    · rw [State.grantExpires, h]
    · exact grantExpires_of_timer h
  · refine congrArg Host.Outcome.next ?_
    unfold State.confirmationExpires
    split
    · simp_all
    · rfl
  · refine congrArg Host.Outcome.next ?_
    unfold State.attemptExpires
    split
    · simp_all
    · rfl
  · obtain ⟨d, heq, hd⟩ := beginAttempt_eq ((s.setNow (max s.now (since + 60000))).setFaults { s.faults with
      state := .restart, attempts := 0, lastAttempt := none, confirmation := none })
    refine ⟨((s.setNow (max s.now (since + 60000))).setFaults { s.faults with
        state := .restart, attempts := 0, lastAttempt := none, confirmation := none }).beginAttempt,
      congrArg Host.Outcome.next (?_ : s.confirmationExpires = _), ?_⟩
    · rw [State.confirmationExpires, h, hf]
      rfl
    · rw [heq] at hd ⊢
      exact ⟨rfl, rfl, rfl, rfl, hd, rfl⟩
  · obtain ⟨d, heq, hd⟩ := beginAttempt_eq (s.setNow (max s.now (since + 500)))
    refine ⟨(s.setNow (max s.now (since + 500))).beginAttempt,
      congrArg Host.Outcome.next (?_ : s.attemptExpires = _), ?_⟩
    · rw [State.attemptExpires, h, hf]
      rfl
    · rw [heq] at hd ⊢
      exact ⟨rfl, rfl, rfl, rfl, hd, rfl⟩

end Sys2Proof.Machine

/-! # Evaluation runs -/

namespace Sys2Proof.Machine

/-- What the end of a run leaves: it changes the Condition Unit alone, neither its condition nor its stamp, and the next
evaluation stands exactly when one was asked for. -/
theorem nextRun_eq (s : State) : ∃ q : ConditionUnit, s.nextRun = s.setCond q ∧ q.published = s.cond.published ∧
    q.stamp = s.cond.stamp ∧ q.again = false ∧
    q.evaluation = if s.cond.again = true then some ((s.setCond q).runInputs none) else s.cond.evaluation := by
  unfold State.nextRun
  by_cases ha : s.cond.again = true
  · rw [if_pos ha]
    refine ⟨{ s.cond with again := false, evaluation := some (s.runInputs none) }, rfl, rfl, rfl, rfl, ?_⟩
    rw [if_pos ha]
    rfl
  · have hf : s.cond.again = false := Bool.eq_false_iff.2 ha
    rw [if_neg ha]
    simp only [if_neg ha]
    unfold State.beginPrediction
    cases s.cond.request with
    | none => exact ⟨s.cond, rfl, rfl, rfl, hf, rfl⟩
    | some q =>
      by_cases hq : q.running = true
      · simp only [if_pos hq]
        exact ⟨s.cond, rfl, rfl, rfl, hf, rfl⟩
      · simp only [if_neg hq]
        exact ⟨_, rfl, rfl, rfl, hf, rfl⟩

/-- The end of a run, written out: an evaluation that was asked for, else a HELD prediction. -/
theorem nextRun_cases {s : State} {asked : Bool} (h : s.cond.again = asked) : s.nextRun =
    if asked = true then s.setCond { s.cond with again := false, evaluation := some (s.runInputs none) }
    else
      match s.cond.request with
      | some q => if q.running = true then s else s.beginPrediction
      | none => s := by
  subst h
  rfl

/-- The completion of a run in progress. -/
theorem evaluationDone_of_run {s : State} {r : RunInputs} (h : s.cond.evaluation = some r) {u : State}
    (hu : (s.setCond { s.cond with published := some r.compute }).gradePublication r.compute = u) :
    s.evaluationDone = (u.setCond { u.cond with evaluation := none }).nextRun := by
  subst hu
  rw [State.evaluationDone, h]

/-- The work of the blocks leaves the evaluations, what was asked, the stamp and the condition published. -/
theorem Work.evaluations {s t : State} (h : Work s t) : t.cond.evaluation = s.cond.evaluation ∧
    t.cond.again = s.cond.again ∧ t.cond.stamp = s.cond.stamp ∧ t.cond.published = s.cond.published := by
  rw [← h.cond]
  exact ⟨rfl, rfl, rfl, rfl⟩

/-- A grading is made by the watched entries, the evaluations and the blocks' work alone. -/
theorem gradePublication_keeps (s : State) (c : Condition) :
    (s.gradePublication c).particulars = s.particulars ∧ (s.gradePublication c).modes = s.modes ∧
      (s.gradePublication c).settings = s.settings ∧ (s.gradePublication c).console = s.console ∧
      (s.gradePublication c).composer = s.composer ∧ (s.gradePublication c).pending = s.pending := by
  have work := Work.gradePublication s c
  rw [State.setGraded] at work
  simp only [work.particulars, work.modes, work.settings, work.console, work.composer, work.pending,
    particulars_setMargins, modes_setMargins, settings_setMargins, console_setMargins, composer_setMargins,
    pending_setMargins, and_self]

/-- A grading leaves the evaluations, what was asked, the stamp and the condition published. -/
theorem gradePublication_evaluations (s : State) (c : Condition) :
    (s.gradePublication c).cond.evaluation = s.cond.evaluation ∧ (s.gradePublication c).cond.again = s.cond.again ∧
      (s.gradePublication c).cond.stamp = s.cond.stamp ∧ (s.gradePublication c).cond.published = s.cond.published :=
  (Work.gradePublication s c).evaluations

/-- The grading of an entry does not read the condition published before. -/
theorem gradeEntry_setPublished (s : State) (p : Option Condition) (c : Condition) (i : Nat) :
    (s.setCond { s.cond with published := p }).gradeEntry c i = s.gradeEntry c i := rfl

/-- Settles O49: the grading is work of the blocks, which leaves the stamp and the demand, and then the unit goes on. -/
theorem evaluationsComplete : Obligations.EvaluationsComplete := by
  refine ⟨fun s h => ?_, fun s r h => ?_, fun s r h => ?_⟩
  · refine congrArg Host.Outcome.next ?_
    rw [State.evaluationDone, h]
  · have hdone := evaluationDone_of_run h rfl
    obtain ⟨-, hagain, hstamp, hpublished⟩ :=
      gradePublication_evaluations (s.setCond { s.cond with published := some r.compute }) r.compute
    obtain ⟨hgraded, hentries⟩ :=
      gradePublication_margins (s.setCond { s.cond with published := some r.compute }) r.compute
    have hkeeps := gradePublication_keeps (s.setCond { s.cond with published := some r.compute }) r.compute
    simp only [gradeEntry_setPublished] at hentries
    generalize (s.setCond { s.cond with published := some r.compute }).gradePublication r.compute = u at *
    obtain ⟨q, hq, hqp, hqs, hqa, hqe⟩ := nextRun_eq (u.setCond { u.cond with evaluation := none })
    rw [hq] at hdone
    have hevaluation := hqe.trans (if_congr (iff_of_eq (congrArg (· = true) hagain)) rfl rfl)
    exact ⟨(u.setCond { u.cond with evaluation := none }).setCond q, congrArg Host.Outcome.next hdone,
      hqp.trans hpublished, hgraded, hqs.trans hstamp, hqa, hevaluation, hentries, hkeeps⟩
  · obtain ⟨-, hagain, -, -⟩ :=
      gradePublication_evaluations (s.setCond { s.cond with published := some r.compute }) r.compute
    have hdone := evaluationDone_of_run h rfl
    generalize (s.setCond { s.cond with published := some r.compute }).gradePublication r.compute = u at *
    exact congrArg Host.Outcome.next (hdone.trans (nextRun_cases hagain))

end Sys2Proof.Machine

/-! # Prediction runs -/

namespace Sys2Proof.Machine

/-- A watched index is graded in a mode (R120). -/
theorem entryGraded_iff {p : Option Memory} {mode : Mode} {i : Nat} (hi : i < 36) : entryGraded p mode i = true ↔
    p ≠ none ∧ mode ≠ .commission ∧ (34 ≤ i → mode = .berth) ∧ (i < 32 → stationDefined p (i / 2 + 1) = true) := by
  have hsome : p.isSome = true ↔ p ≠ none := by cases p <;> simp
  have hstation : (32 ≤ i ∨ stationDefined p (i / 2 + 1) = true) ↔ (i < 32 → stationDefined p (i / 2 + 1) = true) := by
    constructor
    · rintro (h | h) h'
      · omega
      · exact h
    · intro h
      by_cases h' : i < 32
      · exact .inr (h h')
      · exact .inl (by omega)
  simp only [entryGraded, Bool.and_eq_true, Bool.or_eq_true, hsome, decide_eq_true_eq, hstation, and_assoc]
  cases mode
  all_goals simp <;> omega

/-- The first element that passes one test among those that pass another. -/
theorem find?_filter_of_iff {α : Type} {f g r : α → Bool} {l : List α}
    (h : ∀ x ∈ l, f x = true ∧ g x = true ↔ r x = true) : (l.filter f).find? g = l.find? r := by
  rw [List.find?_filter]
  refine List.find?_congr fun x hx => ?_
  simp only [Bool.decide_and, Bool.decide_eq_true]
  rw [Bool.eq_iff_iff, Bool.and_eq_true]
  exact h x hx

/-- The judgement of a prediction (R131), over what its tests say of an index. -/
theorem judgePrediction_eq (s : State) (c : Condition) (absent high : Nat → Bool)
    (ha : ∀ i < 36, entryGraded s.parts s.modes.mode i = true ∧ c.valueOf i = none ↔ absent i = true)
    (hh : ∀ i < 36, (entryGraded s.parts s.modes.mode i = true ∧ ∃ v ∈ (c.valueOf i).toList,
      100 ≤ percentOf s.parts s.modes.mode.limits s.cond.berth i v) ↔ high i = true) :
    s.judgePrediction c =
      match (List.range 36).find? absent with
      | some i => some i
      | none => (List.range 36).find? high := by
  have e1 : (watchedIndices.filter fun i => entryGraded s.parts s.modes.mode i).find? (fun i => (c.valueOf i).isNone) =
      (List.range 36).find? absent := by
    refine find?_filter_of_iff fun i hi => ?_
    rw [← ha i (List.mem_range.1 hi), Option.isNone_iff_eq_none]
  have e2 : (watchedIndices.filter fun i => entryGraded s.parts s.modes.mode i).find? (fun i =>
        match c.valueOf i with
        | some v => decide (100 ≤ percentOf s.parts s.modes.mode.limits s.cond.berth i v)
        | none => false) = (List.range 36).find? high := by
    refine find?_filter_of_iff fun i hi => ?_
    rw [← hh i (List.mem_range.1 hi)]
    cases c.valueOf i <;> simp
  simp only [State.judgePrediction]
  rw [e1]
  cases (List.range 36).find? absent with
  | some i => rfl
  | none => exact e2

/-- The end of a clearance does not change whether an evaluation was asked for. -/
theorem again_withdrawPrediction (s : State) : s.withdrawPrediction.cond.again = s.cond.again := by
  unfold State.withdrawPrediction
  cases s.cond.request <;> rfl

theorem again_endClearance (s : State) (l : Line) : (s.endClearance l).cond.again = s.cond.again := by
  rw [endClearance_eq]
  split
  · rfl
  · exact again_withdrawPrediction _

theorem again_settled (s : State) (c : Condition) : (s.settled c).cond.again = s.cond.again := by
  unfold State.settled
  split
  · rfl
  · split
    · exact again_endClearance _ _
    · split
      · exact again_endClearance _ _
      · rfl

theorem again_judgeRun (s : State) (q : PredictionRequest) (r : RunInputs) :
    (s.judgeRun q r).cond.again = s.cond.again := by
  unfold State.judgeRun
  split
  · exact again_settled _ _
  · split
    · rfl
    · unfold State.endClearanceHold
      split
      · rfl
      · exact again_endClearance _ _

/-- The judged condition reaches the Pour Plan unit (R131, R147): what becomes of the clearance. -/
theorem settled_eq (s : State) (c : Condition) : s.settled c =
    match s.pour.clearance with
    | none => s
    | some id =>
      match s.judgePrediction c, s.step? id with
      | some i, _ => s.endClearance (.pour .HO [fnat id, .word "PREDICT", fnat i])
      | none, none => s
      | none, some x => s.grant x := by
  unfold State.settled
  cases s.pour.clearance with
  | none => rfl
  | some id =>
    dsimp only
    cases s.judgePrediction c with
    | some i => rfl
    | none => cases s.step? id <;> rfl

/-- The completion of a prediction run, with what it did before the unit goes on. -/
theorem predictionDone_of_run {s : State} {run : PredictionRun} (h : s.cond.prediction = some run) {done : State}
    (hdone : done =
      if run.withdrawn = true then s.setCond { s.cond with prediction := none }
      else
        match s.cond.request with
        | none => s.setCond { s.cond with prediction := none }
        | some q => (s.setCond { s.cond with prediction := none }).judgeRun q run.inputs) :
    s.predictionDone =
      if s.cond.again = true then (done.setCond { done.cond with again := false }).beginEvaluation
      else
        match done.cond.request with
        | some q => if q.running = true then done else done.beginPrediction
        | none => done := by
  have hagain : done.cond.again = s.cond.again := by
    rw [hdone]
    split
    · rfl
    · split
      · rfl
      · exact again_judgeRun _ _ _
  have hrun : s.predictionDone = done.nextRun := by
    rw [hdone]
    unfold State.predictionDone
    rw [h]
    dsimp only
    by_cases hw : run.withdrawn = true
    · rw [if_pos hw, if_pos hw]
    · rw [if_neg hw, if_neg hw]
      change State.nextRun (match s.cond.request with | some q => _ | none => _) = _
      cases s.cond.request <;> rfl
  exact hrun.trans (nextRun_cases hagain)

/-- Settles O50: the judgement by `judgePrediction_eq`, and a completion by the comparison of the stamps. -/
theorem predictionsComplete : Obligations.PredictionsComplete := by
  refine ⟨fun s c => ?_, fun s h => ?_, fun s run h => ?_⟩
  · refine judgePrediction_eq s c _ _ (fun i hi => ?_) fun i hi => ?_
    · rw [entryGraded_iff hi, decide_eq_true_eq]
      rfl
    · rw [entryGraded_iff hi, decide_eq_true_eq]
      rfl
  · refine congrArg Host.Outcome.next ?_
    rw [State.predictionDone, h]
  · refine congrArg Host.Outcome.next (predictionDone_of_run h ?_)
    by_cases hw : run.withdrawn = true
    · rw [if_pos hw, if_pos hw]
    · rw [if_neg hw, if_neg hw]
      cases s.cond.request with
      | none => rfl
      | some q =>
        dsimp only
        unfold State.judgeRun
        rw [settled_eq]
        rfl

end Sys2Proof.Machine

/-! # Writes that a reset completes -/

namespace Sys2Proof.Machine

section
variable (s : State)

/-- The store after the write in progress, and the one that the rewrite flag calls for, have completed (R16, R17). -/
theorem completeOriginWrites_store :
    s.completeOriginWrite.completeOriginWrite.tankTable.store =
        (match s.tankTable.writing with
        | none => s.tankTable.store
        | some copy => if s.tankTable.rewrite = true then s.tankTable.origins else copy) ∧
      s.completeOriginWrite.completeOriginWrite.tankTable.storeGood =
        (s.tankTable.storeGood || s.tankTable.writing.isSome) := by
  unfold State.completeOriginWrite
  rcases h : s.tankTable.writing with _ | copy
  · simp [h]
  · rcases hr : s.tankTable.rewrite with _ | _
    · simp
    · exact ⟨rfl, (Bool.or_true _).symm⟩

/-- What the completion of every write leaves in the origin store. -/
theorem completeWrites_originStore :
    let u := s.completeParticulars
    s.completeWrites.tankTable.store =
        (match u.tankTable.writing with
        | none => u.tankTable.store
        | some copy => if u.tankTable.rewrite = true then u.tankTable.origins else copy) ∧
      s.completeWrites.tankTable.storeGood = (u.tankTable.storeGood || u.tankTable.writing.isSome) := by
  have h := completeOriginWrites_store s.completeParticulars.completeSettingsSave
  rw [completeSettingsSave_eq] at h
  rw [State.completeWrites, completeSettingsSave_eq]
  exact h

/-- What the completion of every write leaves in the settings store. -/
theorem completeWrites_settings : s.completeWrites.settings =
    match s.settings.saving with
    | none => s.settings
    | some record => { s.settings with store := record, storeGood := true, saving := none } := by
  obtain ⟨a, ea, -, -⟩ := completeOriginWrites_eq s.completeParticulars.completeSettingsSave
  have hs : s.completeParticulars.settings = s.settings := by
    unfold State.completeParticulars
    split
    · rfl
    · exact settings_commitBlock s _
  rw [State.completeWrites, ea, completeSettingsSave_eq]
  cases h : s.settings.saving <;> simp only [settings_setTankTable, settings_setSettings, hs, h]

/-- The tanks of a table rebuilt for new particulars (R19). -/
def rebuiltTanks (x : TankTable) (old new : Option Memory) : Vector TankLive 24 :=
  Vector.ofFn fun i : Fin 24 =>
    if keptNumber tankDefined old new (i.val + 1) then x.tanks[i]
    else if tankDefined old (i.val + 1) || tankDefined new (i.val + 1) then TankLive.blank
    else x.tanks[i]

/-- A number is newly defined or no longer defined by new particulars. -/
def redefined (old new : Option Memory) : Prop :=
  ∃ n ∈ List.range 25, 1 ≤ n ∧ tankDefined old n ≠ tankDefined new n

theorem redefined_iff (old new : Option Memory) : redefined old new ↔
    ((numbers 24).any fun t => decide (tankDefined old t ≠ tankDefined new t)) = true := by
  simp only [redefined, List.any_eq_true, decide_eq_true_eq, numbers, List.mem_map, List.mem_range]
  constructor
  · rintro ⟨n, hn, h1, h⟩
    exact ⟨n, ⟨n - 1, by omega, by omega⟩, h⟩
  · rintro ⟨n, ⟨i, hi, rfl⟩, h⟩
    exact ⟨i + 1, by omega, by omega, h⟩

/-- A table whose origins change is written to the store, or is so again (R16). -/
theorem originChanged_setTankTable (x : TankTable) : (s.setTankTable x).originChanged.tankTable = { x with
    writing := some (x.writing.getD x.origins), rewrite := x.writing.isSome || x.rewrite } := by
  rw [originChanged_tankTable]
  cases h : x.writing <;> simp [h]

/-- The Tank Table after a rebuild: with a number redefined, a write of the origins is called for (R16, R19). -/
theorem rebuildTanks_redefined {old new : Option Memory} (h : redefined old new) :
    (s.rebuildTanks old new).tankTable = { s.tankTable with
      tanks := rebuiltTanks s.tankTable old new
      writing := some (s.tankTable.writing.getD
        ({ s.tankTable with tanks := rebuiltTanks s.tankTable old new } : TankTable).origins)
      rewrite := s.tankTable.writing.isSome || s.tankTable.rewrite } := by
  rw [State.rebuildTanks]
  rw [redefined_iff] at h
  simp only [if_pos h]
  change (s.setTankTable { s.tankTable with
    tanks := rebuiltTanks s.tankTable old new }).originChanged.tankTable = _
  exact originChanged_setTankTable _ _

theorem rebuildTanks_not_redefined {old new : Option Memory} (h : ¬ redefined old new) :
    (s.rebuildTanks old new).tankTable = { s.tankTable with tanks := rebuiltTanks s.tankTable old new } := by
  rw [State.rebuildTanks]
  rw [redefined_iff] at h
  simp only [if_neg h]
  rfl

/-- The origin of a rebuilt number: cleared where the number is redefined (R19). -/
theorem rebuiltTanks_origin (old new : Option Memory) {n : Nat} (h1 : 1 ≤ n) (h24 : n ≤ 24) :
    (({ s.tankTable with tanks := rebuiltTanks s.tankTable old new } : TankTable).origins)[n - 1]? =
      some (if tankDefined old n ≠ tankDefined new n then OriginEntry.blank else (s.tank n).origin) := by
  have hn : n - 1 + 1 = n := by omega
  have hi : n - 1 < 24 := by omega
  have htank : s.tank n = s.tankTable.tanks[n - 1] := by
    rw [State.tank, Vector.getElem?_eq_getElem hi, Option.getD_some]
  rw [TankTable.origins, Vector.getElem?_ofFn, dif_pos hi, htank]
  simp only [rebuiltTanks, Fin.getElem_fin, Vector.getElem_ofFn, keptNumber, hn]
  cases tankDefined old n <;> cases tankDefined new n <;> simp [TankLive.blank]

/-- Where no number is redefined, the rebuild leaves every tank. -/
theorem rebuiltTanks_of_not_redefined {old new : Option Memory} (h : ¬ redefined old new) :
    rebuiltTanks s.tankTable old new = s.tankTable.tanks := by
  refine Vector.ext fun i hi => ?_
  have hsame : tankDefined old (i + 1) = tankDefined new (i + 1) := by
    by_contra hne
    exact h ⟨i + 1, List.mem_range.2 (by omega), by omega, hne⟩
  simp only [rebuiltTanks, Vector.getElem_ofFn, keptNumber, hsame, Fin.getElem_fin]
  cases tankDefined new (i + 1) <;> simp

/-- A commit of the particulars changes the Tank Table by the rebuild alone. -/
theorem tankTable_commitBlock (m : Memory) :
    (s.commitBlock m).tankTable = (s.rebuildTanks s.parts (some m)).tankTable := by
  simp only [State.commitBlock, tankTable_massChange, tankTable_rebuildMargins, tankTable_rebuildHolds,
    tankTable_rebuildItems, tankTable_rebuildRoles]
  by_cases h : redefined s.parts (some m)
  · simp only [rebuildTanks_redefined _ h, tankTable_setParticulars]
  · simp only [rebuildTanks_not_redefined _ h, tankTable_setParticulars]

/-- The origin store after a reset completes the writes: what was being written, or the origins as they stand (R17). -/
theorem completeWrites_originStore_cases (block : Option Memory) (hblock : s.particulars.writing = block) :
    ((∃ m ∈ block.toList, redefined s.parts (some m)) → s.completeWrites.tankTable.storeGood = true ∧
      ∃ m ∈ block.toList, s.completeWrites.tankTable.store =
        ({ s.tankTable with tanks := rebuiltTanks s.tankTable s.parts (some m) } : TankTable).origins) ∧
    ((¬ ∃ m ∈ block.toList, redefined s.parts (some m)) →
      s.completeWrites.tankTable.store =
          (match s.tankTable.writing with
          | none => s.tankTable.store
          | some copy => if s.tankTable.rewrite = true then s.tankTable.origins else copy) ∧
        s.completeWrites.tankTable.storeGood = (s.tankTable.storeGood || s.tankTable.writing.isSome)) := by
  obtain ⟨hstore, hgood⟩ := completeWrites_originStore s
  cases block with
  | none =>
    have hu : s.completeParticulars = s := by rw [State.completeParticulars, hblock]
    rw [hu] at hstore hgood
    exact ⟨fun ⟨m, hm, _⟩ => absurd hm List.not_mem_nil, fun _ => ⟨hstore, hgood⟩⟩
  | some m =>
    have hu : s.completeParticulars.tankTable = (s.rebuildTanks s.parts (some m)).tankTable := by
      rw [State.completeParticulars, hblock]
      exact tankTable_commitBlock s m
    rw [hu] at hstore hgood
    constructor
    · rintro ⟨m', hm', h⟩
      obtain rfl : m' = m := by simpa using hm'
      rw [rebuildTanks_redefined _ h] at hstore hgood
      refine ⟨by simpa using hgood, m', hm', hstore.trans ?_⟩
      cases s.tankTable.writing with
      | none => exact ite_id _
      | some copy => rfl
    · intro h
      have h' : ¬ redefined s.parts (some m) := fun hr => h ⟨m, by simp, hr⟩
      rw [rebuildTanks_not_redefined _ h'] at hstore hgood
      refine ⟨hstore.trans ?_, hgood⟩
      rw [rebuiltTanks_of_not_redefined _ h']

end

/-- The stores after a reset that lets the writes complete (R17, R202, R204), by what it leaves of the stores. -/
theorem writesCompleted_of {s t : State}
    (hsettings : t.settings.saving = s.completeWrites.settings.saving ∧
      t.settings.store = s.completeWrites.settings.store ∧ t.settings.storeGood = s.completeWrites.settings.storeGood)
    (hparticulars : t.particulars.writing = s.completeWrites.particulars.writing ∧
      t.particulars.store = s.completeWrites.particulars.store ∧
      t.particulars.storeChecksum = s.completeWrites.particulars.storeChecksum ∧
      t.particulars.storeBlank = s.completeWrites.particulars.storeBlank)
    (hidle : t.tankTable.writing = none ∧ t.tankTable.rewrite = false)
    (horigins : t.tankTable.store = s.completeWrites.tankTable.store ∧
      t.tankTable.storeGood = s.completeWrites.tankTable.storeGood) : WritesCompleted s t := by
  obtain ⟨hs1, hs2, hs3⟩ := hsettings
  obtain ⟨hp1, hp2, hp3, hp4⟩ := hparticulars
  obtain ⟨ho1, ho2⟩ := horigins
  obtain ⟨hsaving, hwriting, -, -, hcommit, hkeep⟩ := completeWrites_writes s
  obtain ⟨hchanged, hunchanged⟩ := completeWrites_originStore_cases s s.particulars.writing rfl
  have hset := completeWrites_settings s
  have hiff : (∃ n ∈ List.range 25, 1 ≤ n ∧ ∃ m ∈ s.particulars.writing.toList,
      tankDefined s.parts n ≠ tankDefined (some m) n) ↔
      ∃ m ∈ s.particulars.writing.toList, redefined s.parts (some m) := by
    constructor
    · rintro ⟨n, hn, h1, m, hm, h⟩
      exact ⟨m, hm, n, hn, h1, h⟩
    · rintro ⟨m, hm, n, hn, h1, h⟩
      exact ⟨n, hn, h1, m, hm, h⟩
  refine ⟨⟨hs1.trans hsaving, hp1.trans hwriting, hidle⟩, ?_, ?_, ⟨?_, ?_, ?_⟩, fun hc => ?_, fun hc hw => ?_,
    fun copy hc hw => ?_⟩
  · rw [hs2, hset]
    cases s.settings.saving <;> rfl
  · rw [hs3, hset]
    cases s.settings.saving with
    | none => exact (Bool.or_false _).symm
    | some r => exact (Bool.or_true _).symm
  · rw [hp2]
    rcases h : s.particulars.writing with _ | m
    · rw [hkeep h]
      rfl
    · rw [hcommit m h]
      rfl
  · rw [hp3]
    rcases h : s.particulars.writing with _ | m
    · rw [hkeep h]
      rfl
    · rw [hcommit m h]
      rfl
  · rw [hp4]
    rcases h : s.particulars.writing with _ | m
    · rw [hkeep h]
      exact (Bool.and_true _).symm
    · rw [hcommit m h]
      exact (Bool.and_false _).symm
  · obtain ⟨hgood, m, hm, hstore⟩ := hchanged (hiff.1 hc)
    refine ⟨ho2.trans hgood, fun n h1 h24 => ?_⟩
    rw [ho1, hstore, rebuiltTanks_origin s _ _ h1 h24]
    have hone : (∃ m' ∈ s.particulars.writing.toList, tankDefined s.parts n ≠ tankDefined (some m') n) ↔
        tankDefined s.parts n ≠ tankDefined (some m) n := by
      rw [Option.mem_toList] at hm
      simp [hm]
    simp only [hone]
  · obtain ⟨hstore, hgood⟩ := hunchanged (mt hiff.2 hc)
    rw [ho1, ho2, hstore, hgood, hw]
    exact ⟨rfl, Bool.or_false _⟩
  · obtain ⟨hstore, hgood⟩ := hunchanged (mt hiff.2 hc)
    rw [ho1, ho2, hstore, hgood, hw]
    exact ⟨Bool.or_true _, rfl⟩

/-- The mass records of a fixed number of places, those kept that both blocks define. -/
theorem keptRecord_eq {k : Nat} (records : Vector MassRecord k) (defined : Option Memory → Nat → Bool)
    (old new : Option Memory) {n : Nat} (h1 : 1 ≤ n) (hk : n ≤ k) :
    (((Vector.ofFn fun i : Fin k => if keptNumber defined old new (i.val + 1) then records[i] else ⟨0, false⟩ :
        Vector MassRecord k)[n - 1]?).getD ⟨0, false⟩ : MassRecord) =
      if defined old n = true ∧ defined new n = true then (records[n - 1]?).getD ⟨0, false⟩ else ⟨0, false⟩ := by
  have hn : n - 1 + 1 = n := by omega
  have hi : n - 1 < k := by omega
  rw [ofFn_getD _ _ _ hi, Vector.getElem?_eq_getElem hi, Option.getD_some]
  simp only [hn, keptNumber, Bool.and_eq_true, Fin.getElem_fin]

/-- The fixed items after a reset that lets the writes complete (R97). -/
theorem itemRecord_completeWrites (s : State) {n : Nat} (h1 : 1 ≤ n) (h8 : n ≤ 8) : s.completeWrites.itemRecord n =
    match s.particulars.writing with
    | none => s.itemRecord n
    | some m =>
      if itemDefined s.parts n = true ∧ itemDefined (some m) n = true then s.itemRecord n else ⟨0, false⟩ := by
  obtain ⟨a, ea, -⟩ := completeOriginWrites_eq s.completeParticulars.completeSettingsSave
  have hu : s.completeWrites.cond.items = s.completeParticulars.cond.items := by
    rw [State.completeWrites, ea, completeSettingsSave_eq]
    rfl
  unfold State.itemRecord
  rw [hu, State.completeParticulars]
  cases s.particulars.writing with
  | none => rfl
  | some m =>
    dsimp only
    rw [(cond_commitBlock s m).2.1, State.rebuildItems]
    exact keptRecord_eq _ _ _ _ h1 h8

/-- The hold masses after a reset that lets the writes complete (R137). -/
theorem holdRecord_completeWrites (s : State) {n : Nat} (h1 : 1 ≤ n) (h9 : n ≤ 9) : s.completeWrites.holdRecord n =
    match s.particulars.writing with
    | none => s.holdRecord n
    | some m =>
      if holdDefined s.parts n = true ∧ holdDefined (some m) n = true then s.holdRecord n else ⟨0, false⟩ := by
  obtain ⟨a, ea, -⟩ := completeOriginWrites_eq s.completeParticulars.completeSettingsSave
  have hu : s.completeWrites.pour.holds = s.completeParticulars.pour.holds := by
    rw [State.completeWrites, ea, completeSettingsSave_eq]
    rfl
  unfold State.holdRecord
  rw [hu, State.completeParticulars]
  cases s.particulars.writing with
  | none => rfl
  | some m =>
    dsimp only
    rw [pour_commitBlock, State.rebuildHolds]
    exact keptRecord_eq _ _ _ _ h1 h9

/-- The masses after a reset that lets the writes complete (R97, R117, R137, R157), by what it leaves of them. -/
theorem massesKept_of {s t : State} (hberth : t.cond.berth = s.cond.berth) (hlocation : t.modes.location = s.modes.location)
    (hitems : t.cond.items = s.completeWrites.cond.items) (hholds : t.pour.holds = s.completeWrites.pour.holds) :
    MassesKept s t := by
  have hrecord : ∀ n, t.itemRecord n = s.completeWrites.itemRecord n := fun n => by
    rw [State.itemRecord, hitems]
    rfl
  have hhold : ∀ n, t.holdRecord n = s.completeWrites.holdRecord n := fun n => by
    rw [State.holdRecord, hholds]
    rfl
  refine ⟨hberth, hlocation, fun n h1 h8 => ?_, fun n h1 h9 => ?_⟩
  · rw [hrecord, itemRecord_completeWrites s h1 h8]
    cases s.particulars.writing <;> simp
  · rw [hhold, holdRecord_completeWrites s h1 h9]
    cases s.particulars.writing <;> simp

end Sys2Proof.Machine

/-! # The end of a reset -/

namespace Sys2Proof.Machine

/-- What the common end of a start and of the restart sequence does (R39, R101, R117, R196): the tide is judged, the
frame timer and a FULL frame go out, an evaluation is asked for, and each link resumes. `late` says that the tide has
reached its age. -/
structure ResetEnded (s t : State) (late : Prop) [Decidable late] : Prop where
  frame : ∃ a l c o, t = ((((s.setAttention a).setLoop l).setMovers (Movers.blank s.now)).setCond c).setSent o
  attention : t.attention = if late then s.attention.raise .tideStale else s.attention
  loop : t.loop = { s.loop with
    drive := t.loop.drive, frameTimer := some (s.now + 500), window := some ⟨.full, none, s.now, false⟩ }
  drive : ∀ a < 64, t.drive a =
    if (roleOf s.parts a).isDrive = true then (s.drive a).started s.now else s.drive a
  sent : t.sent = s.sent ++
    [.frame .full (s.loop.drive.toList.map fun d => d.on), .flow .console false, .flow .shore false]
  tide : t.cond.tide = if late then { s.cond.tide with state := .stale } else s.cond.tide
  cond : t.cond = { s.cond with tide := t.cond.tide, evaluation := t.cond.evaluation, again := t.cond.again }
  evaluation : s.cond.evaluation = none → s.cond.prediction = none →
    t.cond.evaluation = some (t.runInputs none) ∧ t.cond.again = s.cond.again

/-- A frame goes out with the frame timer started (R39). -/
theorem firstFrame_eq (s : State) : ∃ d : Vector DrivePoint 64,
    (s.setLoop { s.loop with frameTimer := some (s.now + 500) }).sendFrame .full false =
      (s.setLoop { s.loop with
        drive := d, frameTimer := some (s.now + 500), window := some ⟨.full, none, s.now, false⟩ }).setSent
        (s.sent ++ [.frame .full (s.loop.drive.toList.map fun d => d.on)]) ∧
      ∀ a < 64, (d[a]?).getD ⟨false, .awaiting, none⟩ =
        if (roleOf s.parts a).isDrive = true then (s.drive a).started s.now else s.drive a := by
  obtain ⟨heq, hdrive⟩ :=
    sendFrame_facts (s.setLoop { s.loop with frameTimer := some (s.now + 500) }) .full false
  exact ⟨_, heq, hdrive⟩

/-- An evaluation begins in an idle unit and is otherwise noted (R102). -/
theorem requestEvaluation_idle (s : State) : ∃ (e : Option RunInputs) (a : Bool),
    s.requestEvaluation = s.setCond { s.cond with evaluation := e, again := a } ∧
      (s.cond.evaluation = none → s.cond.prediction = none → e = some (s.runInputs none) ∧ a = s.cond.again) := by
  unfold State.requestEvaluation
  by_cases h : s.condBusy = true
  · rw [if_pos h]
    refine ⟨s.cond.evaluation, true, rfl, fun he hp => ?_⟩
    rw [State.condBusy, he, hp] at h
    cases h
  · rw [if_neg h]
    exact ⟨some (s.runInputs none), s.cond.again, rfl, fun _ _ => ⟨rfl, rfl⟩⟩

/-- Two outputs after a last one. -/
theorem send_send {s : State} {sent : List Output} {o : Output} (h : s.sent = sent ++ [o]) (p q : Output) :
    (s.send p).send q = s.setSent (sent ++ [o, p, q]) := by
  have e : s.sent ++ [p] ++ [q] = sent ++ [o, p, q] := by simp [h]
  exact congrArg s.setSent e

/-- The frame, the request and the two resumes at the end of a reset, written out. -/
theorem endReset_eq (s : State) : ∃ (d : Vector DrivePoint 64) (e : Option RunInputs) (a : Bool),
    s.endReset = ((((s.setLoop { s.loop with
        drive := d, frameTimer := some (s.now + 500), window := some ⟨.full, none, s.now, false⟩ }).setMovers
          (Movers.blank s.now)).setCond { s.cond with evaluation := e, again := a }).setSent (s.sent ++
        [.frame .full (s.loop.drive.toList.map fun d => d.on), .flow .console false, .flow .shore false])) ∧
      (∀ a < 64, (d[a]?).getD ⟨false, .awaiting, none⟩ =
        if (roleOf s.parts a).isDrive = true then (s.drive a).started s.now else s.drive a) ∧
      (s.cond.evaluation = none → s.cond.prediction = none → e = some (s.runInputs none) ∧ a = s.cond.again) := by
  obtain ⟨d, hframe, hdrive⟩ := firstFrame_eq s
  obtain ⟨e, a, hrequest, hidle⟩ := requestEvaluation_idle
    (((s.setLoop { s.loop with
        drive := d, frameTimer := some (s.now + 500), window := some ⟨.full, none, s.now, false⟩ }).setSent
        (s.sent ++ [.frame .full (s.loop.drive.toList.map fun d => d.on)])).setMovers (Movers.blank s.now))
  refine ⟨d, e, a, ?_, hdrive, hidle⟩
  unfold State.endReset
  have hms : Config.frameMs = 500 := rfl
  simp only [hms, hframe, now_setLoop]
  rw [hrequest]
  rw [send_send (sent := s.sent) rfl]
  rfl

theorem endReset_judgeTide (s : State) (late : Prop) [Decidable late]
    (hlate : late ↔ s.cond.tide.state ≠ .unset ∧ s.cond.tide.since + 900000 ≤ s.now) :
    ResetEnded s s.judgeTide.endReset late := by
  obtain ⟨att, tide, hjudge, hatt, htide⟩ : ∃ att tide,
      s.judgeTide = (s.setCond { s.cond with tide := tide }).setAttention att ∧
        att = (if late then s.attention.raise .tideStale else s.attention) ∧
        tide = (if late then { s.cond.tide with state := .stale } else s.cond.tide) := by
    have hiff : (decide (s.cond.tide.state ≠ .unset) && decide (s.cond.tide.since + Config.tideStaleMs ≤ s.now)) = true ↔
        late := by
      rw [hlate, Bool.and_eq_true, decide_eq_true_iff, decide_eq_true_iff]
      rfl
    unfold State.judgeTide
    by_cases h : late
    · exact ⟨s.attention.raise .tideStale, { s.cond.tide with state := .stale }, if_pos (hiff.2 h), (if_pos h).symm,
        (if_pos h).symm⟩
    · exact ⟨s.attention, s.cond.tide, if_neg (mt hiff.1 h), (if_neg h).symm, (if_neg h).symm⟩
  obtain ⟨d, e, a, hend, hdrive, hidle⟩ := endReset_eq ((s.setCond { s.cond with tide := tide }).setAttention att)
  rw [hjudge, hend]
  exact ⟨⟨att, _, _, _, rfl⟩, hatt, rfl, hdrive, rfl, htide, rfl, hidle⟩

/-! ## The end of the restart sequence -/

/-- The working copy after a reload (R207). -/
theorem reloadSettings_settings (s : State) : s.reloadSettings = s.setSettings { s.settings with
    working := if s.settings.storeGood = true then s.settings.store else s.settings.working } := by
  unfold State.reloadSettings
  split <;> rfl

/-- The part as the restart sequence has cleared it, once its writes have completed (R167). -/
def State.restartCleared (u : State) (attempts : Nat) (last : Option AttemptOutcome) : State :=
  let v := u.clearVolatile
  let v := (v.setParticulars { v.particulars with edit := none }).reloadSettings
  let v := v.setModes { v.modes with
    mode := .standby, exchangeArea := false, resetCause := { v.modes.resetCause with restart := true } }
  let v := v.setFaults ⟨.halt, [.restarted], some .restarted, none, none, none, none, attempts, last, none⟩
  (v.resetMargins.raise .restarted).raise .halt

theorem endRestart_eq (s : State) : s.endRestart =
    (s.completeWrites.restartCleared s.faults.attempts s.faults.lastAttempt).judgeTide.endReset := rfl

theorem restartCleared_eq (u : State) (attempts : Nat) (last : Option AttemptOutcome) :
    u.restartCleared attempts last = { u with
      modes := { u.modes with
        mode := .standby, exchangeArea := false, resetCause := { u.modes.resetCause with restart := true } }
      particulars := { u.particulars with edit := none }
      settings := { u.settings with
        working := if u.settings.storeGood = true then u.settings.store else u.settings.working }
      attention := ⟨[.restarted, .halt], 0⟩
      loop := FieldLoop.blank
      tankTable := { u.tankTable with tanks := tanksFrom u.tankTable.store, writing := none, rewrite := false }
      transfers := ⟨[], [], 0⟩
      movers := Movers.blank u.now
      cond := { u.cond with
        stamp := 0, evaluation := none, again := false, request := none, prediction := none, published := none }
      pour := { u.pour with steps := [], clearance := none, grantTimer := none }
      margins := (u.restartCleared attempts last).margins
      faults := ⟨.halt, [.restarted], some .restarted, none, none, none, none, attempts, last, none⟩
      composer := ⟨.idle, 0⟩
      console := ConsolePort.blank u.console.rate
      shore := ShorePort.blank u.shore.rate } := by
  have hreload := reloadSettings_settings
    (u.clearVolatile.setParticulars { u.clearVolatile.particulars with edit := none })
  simp only [State.restartCleared]
  rw [hreload]
  rfl

end Sys2Proof.Machine

/-! # Resets -/

namespace Sys2Proof.Machine

/-- The tanks of a reset: each is blank but for its origin (R18, R22). -/
theorem tanksFrom_get (origins : Vector OriginEntry 24) {n : Nat} (h1 : 1 ≤ n) (h24 : n ≤ 24) :
    ∃ o, origins[n - 1]? = some o ∧
      ((tanksFrom origins)[n - 1]?).getD TankLive.blank = { TankLive.blank with origin := o } := by
  have hi : n - 1 < 24 := by omega
  refine ⟨origins[n - 1], Vector.getElem?_eq_getElem hi, ?_⟩
  rw [tanksFrom]
  exact ofFn_getD _ _ _ hi

/-- The tanks that stand as after a reset are unclaimed. -/
theorem claim_of_tanksFrom {s : State} {origins : Vector OriginEntry 24} (h : s.tankTable.tanks = tanksFrom origins)
    {n : Nat} (h1 : 1 ≤ n) (h24 : n ≤ 24) : (s.tank n).claim = none := by
  obtain ⟨o, -, ho⟩ := tanksFrom_get origins h1 h24
  rw [State.tank, h, ho]
  rfl

/-- Transfers, claims and plan as a reset leaves them. -/
def TransfersCleared (t : State) : Prop :=
  t.transfers = ⟨[], [], 0⟩ ∧ (∀ n, 1 ≤ n → n ≤ 24 → (t.tank n).claim = none) ∧ t.pour.steps = []

theorem transfersCleared_resetTo (s : State) (c : ResetCause) (k : RunCondition) : TransfersCleared (s.resetTo c k) := by
  have htanks : (s.resetTo c k).tankTable.tanks = tanksFrom s.tankTable.store := by rw [tankTable_resetTo]
  refine ⟨transfers_resetTo s c k, fun n h1 h24 => claim_of_tanksFrom htanks h1 h24, ?_⟩
  rw [pour_resetTo]

/-- A command reset that was asked for: the clock first reaches its time where the reply has not been sent (R206). -/
theorem commandResets_of_asked {s : State} {r : ResetAsked} (h : s.modes.resetAsked = some r) : s.commandResets =
    (s.setNow (if r.replySent = true then s.now else max s.now (r.since + 2000))).completeWrites.resetTo
      { s.modes.resetCause with command := true } .startChecks := by
  rw [State.commandResets, h]
  dsimp only
  split <;> rfl

/-- A quiet restart scan ends the restart sequence, and one that is not quiet ends its attempt (R38, R166, R167). -/
theorem endOfScan_restart {s : State} {w : ScanWindow} (hw : s.loop.window = some w) (hr : w.restart = true)
    (quiet : Prop) [Decidable quiet]
    (hq : quiet ↔ ∀ q ∈ drivePoints s.parts, ((s.takeScan w).scanned q.1).value = some 0) :
    s.endOfScan =
      let t := (s.takeScan w).setLoop { (s.takeScan w).loop with allOff := some (decide quiet) }
      if quiet then t.endRestart else t.setFaults { s.faults with lastAttempt := some .notQuiet } := by
  have hread : (s.takeScan w).allOffReading = decide quiet := by
    rw [allOffReading_eq, takeScan_parts]
    exact decide_eq_decide.2 hq.symm
  have hfaults : (s.takeScan w).faults = s.faults := by
    rw [takeScan_eq]
    rfl
  rw [State.endOfScan, hw]
  simp only [State.commitWindow, hr, if_true, State.commitRestartScan, hread, decide_eq_true_eq, faults_setLoop, hfaults]

/-- The scan that a restart sequence ends on changes the field loop alone. -/
theorem quietScan_eq (s : State) (w : ScanWindow) (quiet : Bool) : ∃ l,
    (s.takeScan w).setLoop { (s.takeScan w).loop with allOff := some quiet } = s.setLoop l := by
  rw [takeScan_eq]
  exact ⟨_, rfl⟩



section
variable {s t : State} {late : Prop} [Decidable late] (h : ResetEnded s t late)
include h

theorem ResetEnded.now : t.now = s.now := by
  obtain ⟨a, l, c, o, rfl⟩ := h.frame
  rfl
theorem ResetEnded.freeCount : t.freeCount = s.freeCount := by
  obtain ⟨a, l, c, o, rfl⟩ := h.frame
  rfl
theorem ResetEnded.modes : t.modes = s.modes := by
  obtain ⟨a, l, c, o, rfl⟩ := h.frame
  rfl
theorem ResetEnded.particulars : t.particulars = s.particulars := by
  obtain ⟨a, l, c, o, rfl⟩ := h.frame
  rfl
theorem ResetEnded.settings : t.settings = s.settings := by
  obtain ⟨a, l, c, o, rfl⟩ := h.frame
  rfl
theorem ResetEnded.tankTable : t.tankTable = s.tankTable := by
  obtain ⟨a, l, c, o, rfl⟩ := h.frame
  rfl
theorem ResetEnded.transfers : t.transfers = s.transfers := by
  obtain ⟨a, l, c, o, rfl⟩ := h.frame
  rfl
theorem ResetEnded.movers : t.movers = Movers.blank s.now := by
  obtain ⟨a, l, c, o, rfl⟩ := h.frame
  rfl
theorem ResetEnded.pour : t.pour = s.pour := by
  obtain ⟨a, l, c, o, rfl⟩ := h.frame
  rfl
theorem ResetEnded.margins : t.margins = s.margins := by
  obtain ⟨a, l, c, o, rfl⟩ := h.frame
  rfl
theorem ResetEnded.faults : t.faults = s.faults := by
  obtain ⟨a, l, c, o, rfl⟩ := h.frame
  rfl
theorem ResetEnded.composer : t.composer = s.composer := by
  obtain ⟨a, l, c, o, rfl⟩ := h.frame
  rfl
theorem ResetEnded.console : t.console = s.console := by
  obtain ⟨a, l, c, o, rfl⟩ := h.frame
  rfl
theorem ResetEnded.shore : t.shore = s.shore := by
  obtain ⟨a, l, c, o, rfl⟩ := h.frame
  rfl
theorem ResetEnded.pending : t.pending = s.pending := by
  obtain ⟨a, l, c, o, rfl⟩ := h.frame
  rfl

end

/-- The end of the restart sequence, from the part that it has cleared. -/
theorem endRestart_ended (s : State) (late : Prop) [Decidable late]
    (hlate : late ↔ s.cond.tide.state ≠ .unset ∧ s.cond.tide.since + 900000 ≤ s.now) :
    ResetEnded (s.completeWrites.restartCleared s.faults.attempts s.faults.lastAttempt) s.endRestart late := by
  rw [endRestart_eq]
  refine endReset_judgeTide _ late ?_
  have htide : (s.completeWrites.restartCleared s.faults.attempts s.faults.lastAttempt).cond.tide = s.cond.tide := by
    rw [restartCleared_eq]
    exact (berth_tide_completeWrites s).2
  have hnow : (s.completeWrites.restartCleared s.faults.attempts s.faults.lastAttempt).now = s.now := by
    rw [restartCleared_eq]
    exact now_completeWrites s
  rw [htide, hnow]
  exact hlate

/-- Settles O52: every reset clears the volatile records, and the end of the restart sequence enters HALT (R69, R170). -/
theorem resetsClearTransfersAndFaults : Obligations.ResetsClearTransfersAndFaults := by
  refine ⟨fun s => ?_, fun s h => ?_, fun s h => ?_, fun s w hw hr hq => ?_⟩
  · obtain ⟨h1, h2, h3⟩ := transfersCleared_resetTo s.cutWrites ⟨true, false, false, false⟩ .startChecks
    exact ⟨s.powerUp, rfl, ⟨h1, h2, h3⟩, rfl⟩
  · have hdown : s.lineDown = s.completeWrites.resetTo { s.modes.resetCause with line := true } .inReset := if_neg h
    exact ⟨_, congrArg Host.Outcome.next hdown, transfersCleared_resetTo _ _ _, rfl⟩
  · obtain ⟨r, hr⟩ := Option.ne_none_iff_exists'.1 h
    exact ⟨_, congrArg Host.Outcome.next (commandResets_of_asked hr), transfersCleared_resetTo _ _ _, rfl⟩
  · obtain ⟨l, hl⟩ := quietScan_eq s w true
    have hscan : s.endOfScan = (s.setLoop l).endRestart := by
      rw [endOfScan_restart hw hr _ Iff.rfl, if_pos hq, ← hl]
      simp only [decide_eq_true hq]
    have ended := endRestart_ended (s.setLoop l) _ Iff.rfl
    have hclear := restartCleared_eq (s.setLoop l).completeWrites (s.setLoop l).faults.attempts
      (s.setLoop l).faults.lastAttempt
    refine ⟨_, congrArg Host.Outcome.next hscan, ⟨?_, fun n h1 h24 => ?_, ?_⟩, ?_⟩
    · exact ended.transfers.trans (congrArg State.transfers hclear)
    · have htanks := (congrArg TankTable.tanks ended.tankTable).trans (congrArg (·.tankTable.tanks) hclear)
      exact claim_of_tanksFrom htanks h1 h24
    · exact (congrArg PourPlan.steps ended.pour).trans (congrArg (·.pour.steps) hclear)
    · exact ended.faults.trans (congrArg State.faults hclear)

/-- What every reset clears and what it leaves of the outside (R69, R95, R117, R134, R157, R183, R196, R207). -/
def VolatileCleared (s t : State) : Prop :=
  t.attention = ⟨[], 0⟩ ∧ t.loop = FieldLoop.blank ∧ t.movers = Movers.blank t.now ∧ t.composer = ⟨.idle, 0⟩ ∧
    t.console = ConsolePort.blank s.console.rate ∧ t.shore = ShorePort.blank s.shore.rate ∧
    t.margins = MarginMonitor.blank ∧ t.particulars.inUse = none ∧ t.particulars.edit = none ∧
    t.particulars.writing = none ∧ t.settings.saving = none ∧ t.tankTable.writing = none ∧ t.cond.published = none ∧
    t.cond.stamp = 0 ∧ t.cond.evaluation = none ∧ t.cond.again = false ∧ t.cond.request = none ∧
    t.cond.prediction = none ∧ t.modes.mode = .standby ∧ t.modes.exchangeArea = false ∧ t.modes.resetAsked = none ∧
    t.pending = s.pending ∧ t.sent = s.sent

theorem volatileCleared_resetTo {s u : State} (c : ResetCause) (k : RunCondition) (hconsole : u.console = s.console)
    (hshore : u.shore = s.shore) (hpending : u.pending = s.pending) (hsent : u.sent = s.sent)
    (hwriting : u.particulars.writing = none) (hsaving : u.settings.saving = none) :
    VolatileCleared s (u.resetTo c k) :=
  ⟨rfl, rfl, rfl, rfl, congrArg (fun x : ConsolePort => ConsolePort.blank x.rate) hconsole, congrArg (fun x : ShorePort => ShorePort.blank x.rate) hshore, rfl, rfl,
    rfl, hwriting, hsaving, rfl, rfl, rfl, rfl, rfl, rfl, rfl, rfl, rfl, rfl, hpending, hsent⟩

theorem volatileCleared_cutWrites (s : State) (c : ResetCause) (k : RunCondition) :
    VolatileCleared s (s.cutWrites.resetTo c k) := by
  obtain ⟨a, b, p, n, hcut, -, hsaving, hwriting⟩ := cutWrites_eq s
  rw [hcut]
  exact volatileCleared_resetTo c k rfl rfl rfl rfl hwriting hsaving

theorem volatileCleared_completeWrites {s u : State} (c : ResetCause) (k : RunCondition)
    (hconsole : u.console = s.console) (hshore : u.shore = s.shore) (hpending : u.pending = s.pending)
    (hsent : u.sent = s.sent) : VolatileCleared s (u.completeWrites.resetTo c k) := by
  obtain ⟨hsaving, hwriting, -⟩ := completeWrites_writes u
  exact volatileCleared_resetTo c k ((console_completeWrites u).trans hconsole) ((shore_completeWrites u).trans hshore)
    ((pending_completeWrites u).trans hpending) ((sent_completeWrites u).trans hsent) hwriting hsaving

/-- A LINE or COMMAND reset completes the writes and keeps the masses, the berth record and the tide. -/
theorem written_completeWrites (s : State) (c : ResetCause) (k : RunCondition) :
    WritesCompleted s (s.completeWrites.resetTo c k) ∧ MassesKept s (s.completeWrites.resetTo c k) ∧
      (s.completeWrites.resetTo c k).cond.tide = s.cond.tide := by
  obtain ⟨hberth, htide⟩ := berth_tide_completeWrites s
  have hlocation : s.completeWrites.modes.location = s.modes.location := by rw [modes_completeWrites]
  refine ⟨writesCompleted_of ?_ ?_ ?_ ?_, massesKept_of ?_ ?_ ?_ ?_, ?_⟩ <;>
    simp only [settings_resetTo, particulars_resetTo, tankTable_resetTo, cond_resetTo, pour_resetTo, modes_resetTo,
      hberth, htide, hlocation, and_self]

/-- The scan image that a commit takes, by the staging image (R30). -/
theorem takeImage_scan (s : State) : s.loop.takeImage.scan = Vector.ofFn fun i : Fin 64 =>
    match s.loop.staging.find? fun q => decide (q.1 = i.val) with
    | some q => ⟨some q.2, true⟩
    | none => ⟨(s.scanned i.val).value, false⟩ := by
  refine congrArg Vector.ofFn (funext fun i => ?_)
  have hscan : s.scanned i.val = s.loop.scan[i] := by
    rw [State.scanned, Vector.getElem?_eq_getElem i.isLt]
    rfl
  rw [hscan]
  unfold stagedAt
  cases s.loop.staging.find? fun q => decide (q.1 = i.val) <;> rfl

/-- The field loop and the outcome of an attempt after a restart scan that is not quiet (R30, R38, R166). -/
theorem takeScan_notQuiet (s : State) (w : ScanWindow) (h : w.restart = true) (f : FaultSupervisor) :
    ((s.takeScan w).setLoop { (s.takeScan w).loop with allOff := some false }).setFaults f =
      (s.setLoop { s.loop with
        scan := s.loop.takeImage.scan, staging := [], window := none, allOff := some false
        fullScan := if w.kind = .full then false else s.loop.fullScan }).setFaults f := by
  have hscan : (s.takeScan w).loop.scan = s.loop.takeImage.scan := by
    unfold State.takeScan
    cases w.restart <;> rfl
  have hloop := takeScan_restart_loop s w h
  rw [hscan] at hloop
  rw [takeScan_eq]
  generalize (s.takeScan w).loop = l at hloop
  generalize s.loop.takeImage.scan = v at hloop
  subst hloop
  rfl

/-- Settles O53: the clearing by `VolatileCleared`, the stores by how the writes end, and a restart scan that is not quiet
by its commit. -/
theorem resetsReturnThePartToItsStart : Obligations.ResetsReturnThePartToItsStart := by
  refine ⟨fun s => ?_, fun s h => ?_, fun s h => ?_, fun s h => ?_, fun s h => ?_, fun s r h => ?_, fun s w hw hr hq => ?_⟩
  · have hcleared := volatileCleared_cutWrites s ⟨true, false, false, false⟩ .startChecks
    refine ⟨s.powerUp, rfl, hcleared, rfl, rfl, rfl, rfl, rfl, fun n h1 h8 => ?_, fun n h1 h9 => ?_⟩
    · have hi : n - 1 < 8 := by omega
      simp [State.powerUp, State.itemRecord, hi]
    · have hi : n - 1 < 9 := by omega
      simp [State.powerUp, State.holdRecord, hi]
  · exact ⟨congrArg Host.Outcome.next (if_pos h), congrArg Host.Outcome.next (if_pos h)⟩
  · have hdown : s.lineDown = s.completeWrites.resetTo { s.modes.resetCause with line := true } .inReset := if_neg h
    exact ⟨_, congrArg Host.Outcome.next hdown, volatileCleared_completeWrites _ _ rfl rfl rfl rfl,
      written_completeWrites s _ _, rfl, rfl, now_completeWrites s⟩
  · have hdown : s.powerDown = s.cutWrites.resetTo s.modes.resetCause .unpowered := if_neg h
    exact ⟨_, congrArg Host.Outcome.next hdown, volatileCleared_cutWrites s _ _, rfl, rfl⟩
  · refine congrArg Host.Outcome.next ?_
    rw [State.commandResets, h]
  · exact ⟨_, congrArg Host.Outcome.next (commandResets_of_asked h), volatileCleared_completeWrites _ _ rfl rfl rfl rfl,
      written_completeWrites (s.setNow _) _ _, rfl, rfl, now_completeWrites _⟩
  · have hnot : ¬ ∀ q ∈ drivePoints s.parts, ((s.takeScan w).scanned q.1).value = some 0 := by
      push Not
      exact hq
    refine congrArg Host.Outcome.next ?_
    rw [endOfScan_restart hw hr _ Iff.rfl, if_neg hnot]
    simp only [decide_eq_false hnot, takeScan_notQuiet s w hr]
    exact congrArg (fun v => (s.setLoop { s.loop with
      scan := v, staging := [], window := none, allOff := some false
      fullScan := if w.kind = .full then false else s.loop.fullScan }).setFaults
        { s.faults with lastAttempt := some .notQuiet }) (takeImage_scan s)

end Sys2Proof.Machine

/-! # The end of a start and of the restart sequence -/

namespace Sys2Proof.Machine

/-! ## The watched entries -/

/-- The watched entries of a part whose reset ends, by whether it is in STANDBY with valid particulars (R134). -/
def Ungraded (t : State) (standby : Bool) : Prop := t.margins.graded = none ∧ ∀ i < 36, t.watched i =
  ⟨none, none,
    if standby = true ∧ t.parts ≠ none ∧ i < 34 ∧ (i < 32 → stationDefined t.parts (i / 2 + 1) = true) then
      .indeterminate
    else .off,
    if i < 34 then .plus else .minus, none⟩

theorem ungraded_resetMargins (s : State) {t : State} {standby : Bool} (hmargins : t.margins = s.resetMargins.margins)
    (hparts : t.parts = s.parts) (hmode : s.modes.mode = if standby = true then .standby else .commission) :
    Ungraded t standby := by
  refine ⟨congrArg MarginMonitor.graded hmargins, fun i hi => ?_⟩
  have hgraded : (decide (i < 34) && entryGraded s.parts s.modes.mode i) = true ↔
      standby = true ∧ s.parts ≠ none ∧ i < 34 ∧ (i < 32 → stationDefined s.parts (i / 2 + 1) = true) := by
    rw [Bool.and_eq_true, decide_eq_true_eq, entryGraded_iff hi, hmode]
    constructor
    · rintro ⟨h34, hp, hc, -, hst⟩
      refine ⟨?_, hp, h34, hst⟩
      by_contra h
      exact hc (if_neg h)
    · rintro ⟨hs, hp, h34, hst⟩
      rw [if_pos hs]
      exact ⟨h34, hp, by decide, fun h => absurd h (by omega), hst⟩
  have hentry : t.watched i = s.resetMargins.watched i := congrArg (fun m : MarginMonitor =>
    (m.entries[i]?).getD ⟨none, none, .off, .plus, none⟩) hmargins
  rw [hentry, hparts]
  refine (ofFn_getD _ i _ hi).trans ?_
  simp only [hgraded]

/-! ## The restart sequence -/

theorem conditionUnit_ext {a b : ConditionUnit} (h1 : a.items = b.items) (h2 : a.berth = b.berth) (h3 : a.tide = b.tide)
    (h4 : a.stamp = b.stamp) (h5 : a.evaluation = b.evaluation) (h6 : a.again = b.again) (h7 : a.request = b.request)
    (h8 : a.prediction = b.prediction) (h9 : a.published = b.published) : a = b := by
  cases a
  cases b
  simp_all

theorem restartCleared_margins (u : State) (attempts : Nat) (last : Option AttemptOutcome) :
    (u.restartCleared attempts last).margins =
      (u.setModes { u.modes with mode := .standby }).resetMargins.margins := by
  have hreload := reloadSettings_settings
    (u.clearVolatile.setParticulars { u.clearVolatile.particulars with edit := none })
  simp only [State.restartCleared]
  rw [hreload]
  rfl

section
variable (u : State) (k : Nat) (last : Option AttemptOutcome)

@[simp] theorem now_restartCleared : (u.restartCleared k last).now = u.now := by
  rw [restartCleared_eq]
@[simp] theorem freeCount_restartCleared : (u.restartCleared k last).freeCount = u.freeCount := by
  rw [restartCleared_eq]
@[simp] theorem sent_restartCleared : (u.restartCleared k last).sent = u.sent := by
  rw [restartCleared_eq]
@[simp] theorem pending_restartCleared : (u.restartCleared k last).pending = u.pending := by
  rw [restartCleared_eq]
@[simp] theorem modes_restartCleared : (u.restartCleared k last).modes = { u.modes with
    mode := .standby, exchangeArea := false, resetCause := { u.modes.resetCause with restart := true } } := by
  rw [restartCleared_eq]
@[simp] theorem particulars_restartCleared : (u.restartCleared k last).particulars = { u.particulars with edit := none } := by
  rw [restartCleared_eq]
@[simp] theorem settings_restartCleared : (u.restartCleared k last).settings = { u.settings with
    working := if u.settings.storeGood = true then u.settings.store else u.settings.working } := by
  rw [restartCleared_eq]
@[simp] theorem attention_restartCleared : (u.restartCleared k last).attention = ⟨[.restarted, .halt], 0⟩ := by
  rw [restartCleared_eq]
@[simp] theorem loop_restartCleared : (u.restartCleared k last).loop = FieldLoop.blank := by
  rw [restartCleared_eq]
@[simp] theorem tankTable_restartCleared : (u.restartCleared k last).tankTable = { u.tankTable with
    tanks := tanksFrom u.tankTable.store, writing := none, rewrite := false } := by
  rw [restartCleared_eq]
@[simp] theorem transfers_restartCleared : (u.restartCleared k last).transfers = ⟨[], [], 0⟩ := by
  rw [restartCleared_eq]
@[simp] theorem cond_restartCleared : (u.restartCleared k last).cond = { u.cond with
    stamp := 0, evaluation := none, again := false, request := none, prediction := none, published := none } := by
  rw [restartCleared_eq]
@[simp] theorem pour_restartCleared : (u.restartCleared k last).pour = { u.pour with steps := [], clearance := none, grantTimer := none } := by
  rw [restartCleared_eq]
@[simp] theorem faults_restartCleared : (u.restartCleared k last).faults = ⟨.halt, [.restarted], some .restarted, none, none, none, none, k, last, none⟩ := by
  rw [restartCleared_eq]
@[simp] theorem composer_restartCleared : (u.restartCleared k last).composer = ⟨.idle, 0⟩ := by
  rw [restartCleared_eq]
@[simp] theorem console_restartCleared : (u.restartCleared k last).console = ConsolePort.blank u.console.rate := by
  rw [restartCleared_eq]
@[simp] theorem shore_restartCleared : (u.restartCleared k last).shore = ShorePort.blank u.shore.rate := by
  rw [restartCleared_eq]

end

section
variable (s : State)

theorem parts_endRestart : s.endRestart.parts = s.completeWrites.parts := by
  have ended := endRestart_ended s _ Iff.rfl
  rw [State.parts, ended.particulars, particulars_restartCleared]
  rfl

theorem ungraded_endRestart : Ungraded s.endRestart true := by
  have ended := endRestart_ended s _ Iff.rfl
  exact ungraded_resetMargins (s.completeWrites.setModes { s.completeWrites.modes with mode := .standby })
    (ended.margins.trans (restartCleared_margins _ _ _)) (parts_endRestart s) rfl

theorem writesCompleted_endRestart : WritesCompleted s s.endRestart := by
  have ended := endRestart_ended s _ Iff.rfl
  refine writesCompleted_of ?_ ?_ ?_ ?_ <;>
    simp only [ended.settings, ended.particulars, ended.tankTable, settings_restartCleared,
      particulars_restartCleared, tankTable_restartCleared, and_self]

/-- What the end of the restart sequence leaves of the Condition Unit. -/
theorem cond_endRestart (late : Prop) [Decidable late]
    (hlate : late ↔ s.cond.tide.state ≠ .unset ∧ s.cond.tide.since + 900000 ≤ s.now) : s.endRestart.cond = { s.cond with
    items := s.completeWrites.cond.items
    tide := if late then { s.cond.tide with state := .stale } else s.cond.tide
    stamp := 0, evaluation := some (s.endRestart.runInputs none), again := false, request := none, prediction := none
    published := none } := by
  have ended := endRestart_ended s late hlate
  obtain ⟨hberth, htide⟩ := berth_tide_completeWrites s
  have hcond := ended.cond
  obtain ⟨hevaluation, hagain⟩ := ended.evaluation (by rw [cond_restartCleared]) (by rw [cond_restartCleared])
  have hlater := ended.tide
  rw [cond_restartCleared] at hcond hlater hagain
  refine conditionUnit_ext ?_ ?_ ?_ ?_ ?_ ?_ ?_ ?_ ?_
  · rw [hcond]
  · rw [hcond]
    exact hberth
  · rw [hlater]
    simp only [htide]
  · rw [hcond]
  · exact hevaluation
  · exact hagain
  · rw [hcond]
  · rw [hcond]
  · rw [hcond]

theorem massesKept_endRestart : MassesKept s s.endRestart := by
  have ended := endRestart_ended s _ Iff.rfl
  have hcond := cond_endRestart s _ Iff.rfl
  refine massesKept_of ?_ ?_ ?_ ?_
  · rw [hcond]
  · rw [ended.modes, modes_restartCleared, modes_completeWrites]
  · rw [hcond]
  · rw [ended.pour, pour_restartCleared]

/-- The working copy and the valid block after the restart sequence (R202, R207). -/
theorem stores_endRestart :
    s.endRestart.particulars.inUse = s.particulars.writing.or s.particulars.inUse ∧
      s.endRestart.particulars.edit = none ∧
      s.endRestart.settings.working =
        if s.endRestart.settings.storeGood = true then s.endRestart.settings.store else s.settings.working := by
  have ended := endRestart_ended s _ Iff.rfl
  obtain ⟨-, -, -, -, hcommit, hkeep⟩ := completeWrites_writes s
  have hworking : s.completeWrites.settings.working = s.settings.working := by
    rw [completeWrites_settings]
    cases s.settings.saving <;> rfl
  refine ⟨?_, ?_, ?_⟩
  · rw [ended.particulars, particulars_restartCleared]
    cases h : s.particulars.writing with
    | none =>
      dsimp only
      rw [hkeep h]
      rfl
    | some m =>
      dsimp only
      rw [hcommit m h]
      rfl
  · rw [ended.particulars, particulars_restartCleared]
  · rw [ended.settings, settings_restartCleared]
    simp only [hworking]

/-- The tanks, the field loop and the links after the restart sequence (R22, R39, R167). -/
theorem loop_endRestart :
    s.endRestart.loop = ⟨s.endRestart.loop.drive, Vector.replicate 64 ⟨none, false⟩, [],
        some ⟨.full, none, s.now, false⟩, true, some (s.now + 500), 0, .good, none⟩ ∧
      (∀ a < 64, s.endRestart.drive a =
        ⟨false, .awaiting, if (roleOf s.endRestart.parts a).isDrive = true then some s.now else none⟩) ∧
      s.endRestart.sent = s.sent ++
        [.frame .full (List.replicate 64 false), .flow .console false, .flow .shore false] := by
  have ended := endRestart_ended s _ Iff.rfl
  have hnow : (s.completeWrites.restartCleared s.faults.attempts s.faults.lastAttempt).now = s.now := by
    rw [now_restartCleared, now_completeWrites]
  have hparts : (s.completeWrites.restartCleared s.faults.attempts s.faults.lastAttempt).parts = s.endRestart.parts := by
    rw [parts_endRestart, State.parts, particulars_restartCleared]
    rfl
  refine ⟨?_, fun a ha => ?_, ?_⟩
  · have hloop := ended.loop
    rw [loop_restartCleared, hnow] at hloop
    exact hloop
  · have hdrive : (s.completeWrites.restartCleared s.faults.attempts s.faults.lastAttempt).drive a =
        ⟨false, .awaiting, none⟩ := by
      rw [State.drive, loop_restartCleared]
      simp [FieldLoop.blank, ha]
    rw [ended.drive a ha, hparts, hdrive, hnow]
    split <;> rfl
  · rw [ended.sent, loop_restartCleared, sent_restartCleared, sent_completeWrites]
    simp [FieldLoop.blank]

theorem tank_endRestart {n : Nat} (h1 : 1 ≤ n) (h24 : n ≤ 24) :
    ∃ o, s.endRestart.tankTable.store[n - 1]? = some o ∧ s.endRestart.tank n = { TankLive.blank with origin := o } := by
  have ended := endRestart_ended s _ Iff.rfl
  rw [State.tank, ended.tankTable, tankTable_restartCleared]
  exact tanksFrom_get s.completeWrites.tankTable.store h1 h24

/-- The attention set after the restart sequence (R167). -/
theorem attention_endRestart (late : Prop) [Decidable late]
    (hlate : late ↔ s.cond.tide.state ≠ .unset ∧ s.cond.tide.since + 900000 ≤ s.now) :
    s.endRestart.attention = ⟨[.restarted, .halt] ++ (if late then [.tideStale] else []), 0⟩ := by
  have ended := endRestart_ended s late hlate
  rw [ended.attention, attention_restartCleared]
  split <;> rfl

end

/-! ## The start -/

section
variable (s : State)

/-- The origin store as a start takes it: what it holds, or cleared where its checksum does not match (R17). -/
def TankTable.startStore (x : TankTable) : Vector OriginEntry 24 :=
  if x.storeGood = true then x.store else Vector.replicate 24 OriginEntry.blank

/-- The Tank Table after check 3 of a start (R17). -/
def TankTable.started (x : TankTable) : TankTable :=
  { x with tanks := tanksFrom x.startStore, store := x.startStore, storeGood := true }

/-- The part after the four start checks: what they take from the stores, and the mode (R205). -/
def State.storesTaken (valid : Bool) : State :=
  { s with
    modes := { s.modes with mode := if valid = true then .standby else .commission, exchangeArea := false }
    particulars := { s.particulars with
      inUse := if valid = true then some s.particulars.store else none
      edit := if valid = true then none else some s.particulars.store }
    settings := { s.settings with working := if s.settings.storeGood = true then s.settings.store else Settings.defaults }
    tankTable := s.tankTable.started
    attention :=
      let a := if s.settings.storeGood = true then s.attention else s.attention.raise .settingsDefaulted
      if s.tankTable.storeGood = true then a else a.raise .originsCleared }

/-- The part as a start leaves it, before the watched entries and the tide are judged (R205). -/
def State.startChecked (valid : Bool) : State :=
  let u := s.storesTaken valid
  let u := u.setModes { u.modes with condition := .running }
  let u := u.setConsole { u.console with rate := u.settings.working.consoleRate }
  u.setShore { u.shore with rate := u.settings.working.shoreRate }

theorem startParticulars_if (valid : Bool)
    (hvalid : valid = true ↔ s.particulars.storeBlank = false ∧ s.particulars.store.checksum = s.particulars.storeChecksum) :
    s.startParticulars = s.setParticulars { s.particulars with
      inUse := if valid = true then some s.particulars.store else none
      edit := if valid = true then none else some s.particulars.store } := by
  unfold State.startParticulars
  cases valid with
  | true =>
    obtain ⟨h1, h2⟩ := hvalid.1 rfl
    simp [h1, h2]
  | false =>
    have h : ¬ (s.particulars.storeBlank = false ∧ s.particulars.store.checksum = s.particulars.storeChecksum) :=
      fun h => Bool.false_ne_true (hvalid.2 h)
    exact if_neg (by simpa using h)

theorem startSettings_if : s.startSettings = (s.setSettings { s.settings with
    working := if s.settings.storeGood = true then s.settings.store else Settings.defaults }).setAttention
      (if s.settings.storeGood = true then s.attention else s.attention.raise .settingsDefaulted) := by
  unfold State.startSettings
  split <;> rfl

theorem startOrigins_if : s.startOrigins = (s.setTankTable s.tankTable.started).setAttention
    (if s.tankTable.storeGood = true then s.attention else s.attention.raise .originsCleared) := by
  unfold State.startOrigins TankTable.started TankTable.startStore
  cases h : s.tankTable.storeGood with
  | false => rfl
  | true =>
    simp only [if_true]
    generalize tanksFrom s.tankTable.store = v
    have same : ({ s.tankTable with tanks := v } : TankTable) =
        { s.tankTable with tanks := v, store := s.tankTable.store, storeGood := true } := by rw [← h]
    rw [same]
    rfl

theorem endStart_eq (valid : Bool)
    (hvalid : valid = true ↔ s.particulars.storeBlank = false ∧ s.particulars.store.checksum = s.particulars.storeChecksum) :
    s.endStart = (s.startChecked valid).resetMargins.judgeTide.endReset := by
  have hchecked : s.startParticulars.startSettings.startOrigins.startMode = s.storesTaken valid := by
    rw [startParticulars_if s valid hvalid, startSettings_if, startOrigins_if, State.startMode]
    cases valid <;> rfl
  unfold State.endStart
  rw [hchecked]
  rfl

/-- The watched entries after the start checks (R134). -/
theorem ungraded_endStart (valid : Bool) (h : s.endStart = (s.startChecked valid).resetMargins.judgeTide.endReset) :
    Ungraded s.endStart valid := by
  have ended := endReset_judgeTide (s.startChecked valid).resetMargins _ Iff.rfl
  rw [h]
  exact ungraded_resetMargins _ ended.margins (congrArg ParticularsStore.inUse ended.particulars) rfl

/-- The attention items of a start in a part without any (R17, R117, R204). -/
theorem attention_startChecked (valid : Bool) (h : s.attention = ⟨[], 0⟩) : (s.startChecked valid).attention =
    ⟨(if s.settings.storeGood = true then [] else [.settingsDefaulted]) ++
      (if s.tankTable.storeGood = true then [] else [.originsCleared]), 0⟩ := by
  unfold State.startChecked State.storesTaken
  dsimp only [attention_setShore, attention_setConsole, attention_setModes]
  rw [h]
  cases s.settings.storeGood <;> cases s.tankTable.storeGood <;> rfl

theorem raise_tideStale_start (good stored : Bool) :
    (⟨(if good = true then [] else [.settingsDefaulted]) ++ (if stored = true then [] else [.originsCleared]), 0⟩ :
      AttentionSet).raise .tideStale =
    ⟨(if good = true then [] else [.settingsDefaulted]) ++ (if stored = true then [] else [.originsCleared]) ++
      [.tideStale], 0⟩ := by
  cases good <;> cases stored <;> rfl

/-- The tanks after the start checks (R17, R18, R22). -/
theorem tank_startChecked (valid : Bool) {n : Nat} (h1 : 1 ≤ n) (h24 : n ≤ 24) :
    ∃ o, s.tankTable.startStore[n - 1]? = some o ∧ (s.startChecked valid).tank n = { TankLive.blank with origin := o } :=
  tanksFrom_get s.tankTable.startStore h1 h24

end

theorem tank_congr {s t : State} (h : t.tankTable = s.tankTable) (n : Nat) : t.tank n = s.tank n := by
  unfold State.tank
  rw [h]

/-- The end of a start, from the part that has taken its stores and stands with its entries ungraded. -/
theorem endStart_ended (s : State) (valid : Bool)
    (h : s.endStart = (s.startChecked valid).resetMargins.judgeTide.endReset) (late : Prop) [Decidable late]
    (hlate : late ↔ s.cond.tide.state ≠ .unset ∧ s.cond.tide.since + 900000 ≤ s.now) :
    ∃ m, ResetEnded ((s.startChecked valid).setMargins m) s.endStart late := by
  obtain ⟨m, hm⟩ : ∃ m, (s.startChecked valid).resetMargins = (s.startChecked valid).setMargins m := ⟨_, rfl⟩
  rw [h, hm]
  exact ⟨m, endReset_judgeTide _ late hlate⟩

section
variable (s : State) (valid : Bool)

/-- What a start takes from the particulars store (R202, R205). -/
theorem particulars_startChecked : (s.startChecked valid).particulars =
    if valid = true then { s.particulars with inUse := some s.particulars.store, edit := none }
    else { s.particulars with inUse := none, edit := some s.particulars.store } := by
  cases valid <;> rfl

/-- The fields of a tank after a start (R17, R22). -/
theorem tank_started {n : Nat} (h1 : 1 ≤ n) (h24 : n ≤ 24) : ((s.startChecked valid).tank n).volume = none ∧
    ((s.startChecked valid).tank n).gauge = .unread ∧ ((s.startChecked valid).tank n).claim = none ∧
    ((s.startChecked valid).tank n).lock = .free ∧
    (s.tankTable.storeGood = false → ((s.startChecked valid).tank n).origin = OriginEntry.blank) ∧
    (s.tankTable.storeGood = true → some ((s.startChecked valid).tank n).origin = s.tankTable.store[n - 1]?) := by
  obtain ⟨o, ho, htank⟩ := tank_startChecked s valid h1 h24
  rw [htank]
  refine ⟨rfl, rfl, rfl, rfl, fun hg => ?_, fun hg => ?_⟩
  · have hi : n - 1 < 24 := by omega
    rw [TankTable.startStore, hg] at ho
    simp [hi] at ho
    exact ho.symm
  · rw [TankTable.startStore, if_pos hg] at ho
    exact ho.symm

end

/-- Settles O54: the release, a start in another part, the end of the restart sequence and the end of a start. -/
theorem startChecksEnd : Obligations.StartChecksEnd := by
  refine ⟨fun s => rfl, fun s h => congrArg Host.Outcome.next (if_neg h), fun s w hw hr hq => ?_, fun s hc => ?_⟩
  · obtain ⟨l, hl⟩ := quietScan_eq s w true
    have hscan : s.endOfScan = (s.setLoop l).endRestart := by
      rw [endOfScan_restart hw hr _ Iff.rfl, if_pos hq, ← hl]
      simp only [decide_eq_true hq]
    have ended := endRestart_ended (s.setLoop l) _ Iff.rfl
    obtain ⟨hloop, hdrive, hsent⟩ := loop_endRestart (s.setLoop l)
    obtain ⟨huse, hedit, hworking⟩ := stores_endRestart (s.setLoop l)
    have hcond := cond_endRestart (s.setLoop l) _ Iff.rfl
    refine ⟨_, congrArg Host.Outcome.next hscan, ungraded_endRestart _, writesCompleted_endRestart (s.setLoop l),
      massesKept_endRestart (s.setLoop l), ?_, ?_, attention_endRestart (s.setLoop l) _ Iff.rfl, hloop, hdrive, hsent,
      ?_, ?_, ?_, ?_, ?_, fun n h1 h24 => tank_endRestart _ h1 h24, ?_, ?_, huse, hedit, hworking, ?_, ?_, ?_⟩
    · rw [ended.modes, modes_restartCleared, modes_completeWrites, modes_setLoop]
    · rw [ended.faults, faults_restartCleared, faults_setLoop]
    · rw [ended.console, console_restartCleared, console_completeWrites, console_setLoop]
    · rw [ended.shore, shore_restartCleared, shore_completeWrites, shore_setLoop]
    · rw [ended.composer, composer_restartCleared]
    · rw [ended.transfers, transfers_restartCleared]
    · rw [ended.movers, now_restartCleared, now_completeWrites, now_setLoop]
    · rw [hcond]
      rfl
    · rw [ended.pour, pour_restartCleared]
    · rw [ended.now, now_restartCleared, now_completeWrites, now_setLoop]
    · rw [ended.freeCount, freeCount_restartCleared, freeCount_completeWrites, freeCount_setLoop]
    · rw [ended.pending, pending_restartCleared, pending_completeWrites, pending_setLoop]
  · have heq := endStart_eq s (decide (s.particulars.storeBlank = false ∧
      s.particulars.store.checksum = s.particulars.storeChecksum)) decide_eq_true_iff
    have hungraded := ungraded_endStart s _ heq
    obtain ⟨m, ended⟩ := endStart_ended s _ heq _ Iff.rfl
    refine ⟨s.endStart, congrArg Host.Outcome.next (if_pos hc), ?_, ?_, ?_, ?_, ?_, ?_, ?_, ?_, ?_, ?_,
      fun n h1 h24 => ?_, fun ha => ?_, ended.tide, ?_, ?_, ended.sent, fun he hp => ?_, hungraded, ended.now,
      ended.transfers, ended.faults, ended.pending⟩
    · rw [ended.modes]
      rfl
    · refine ended.particulars.trans ((particulars_startChecked s _).trans ?_)
      simp only [decide_eq_true_eq]
    · rw [ended.modes]
      exact if_congr decide_eq_true_iff rfl rfl
    · rw [ended.modes]
      rfl
    · rw [ended.modes]
      rfl
    · rw [ended.modes]
      rfl
    · rw [ended.settings]
      rfl
    · rw [ended.console, ended.settings]
      rfl
    · rw [ended.shore, ended.settings]
      rfl
    · rw [ended.tankTable]
      rfl
    · rw [tank_congr (ended.tankTable.trans (tankTable_setMargins _ _))]
      exact tank_started s _ h1 h24
    · rw [ended.attention, attention_setMargins, attention_startChecked s _ ha, raise_tideStale_start]
      split
      · rfl
      · rw [List.append_nil]
    · rw [ended.loop]
      rfl
    · rw [ended.loop]
      rfl
    · exact (ended.evaluation he hp).1

end Sys2Proof.Machine

/-! # The grading of a watched entry -/

namespace Sys2Proof.Machine

theorem raised_iff (x : MarginState) : x.raised = true ↔ x = .caution ∨ x = .limit ∨ x = .breach := by
  cases x <;> simp [MarginState.raised]

theorem raised_eq_decide (x : MarginState) : x.raised = decide (x = .caution ∨ x = .limit ∨ x = .breach) := by
  rw [Bool.eq_iff_iff, decide_eq_true_iff]
  exact raised_iff x

/-- The base state of a grading (R124). -/
theorem baseState_eq (old : WatchedEntry) (sign : Sign) : baseState old sign =
    if old.sign = sign ∧ (old.state = .caution ∨ old.state = .limit ∨ old.state = .breach) then old.state else .clear := by
  unfold baseState
  by_cases h : old.sign = sign
  · rw [if_pos h]
    cases hs : old.state <;> simp [h]
  · rw [if_neg h, if_neg fun g => h g.1]

/-- The base state is an ordered state. -/
theorem baseState_ordered (old : WatchedEntry) (sign : Sign) : baseState old sign ≠ .off ∧
    baseState old sign ≠ .indeterminate := by
  rw [baseState_eq]
  split
  · rename_i h
    obtain ⟨-, h | h | h⟩ := h <;> rw [h] <;> decide
  · decide

/-- The thresholds of the three raised states, with their release points (R123, R124). -/
theorem newState_eq {base : MarginState} (hoff : base ≠ .off) (hindet : base ≠ .indeterminate) (caution p : Nat) :
    newState base caution p =
      if 115 ≤ p ∨ (base = .breach ∧ 112 < p) then .breach
      else if 100 ≤ p ∨ ((base = .limit ∨ base = .breach) ∧ 97 < p) then .limit
      else if caution ≤ p ∨ (base ≠ .clear ∧ caution - 3 < p) then .caution
      else .clear := by
  unfold newState qualifies
  cases base <;> simp_all [MarginState.level]

/-- The sign of a value at a watched index (section 6.1). -/
theorem signOf_eq (i : Nat) (v : Int) : signOf i v = if 34 ≤ i ∨ v < 0 then .minus else .plus := by
  unfold signOf
  by_cases h : 34 ≤ i ∨ v < 0
  · rw [if_pos h, if_neg (by omega)]
  · rw [if_neg h, if_pos (by omega)]

/-- The caution thresholds by their code (R123). -/
theorem cautionThreshold_eq (code : Nat) :
    cautionThreshold code = (([75, 80, 85, 88, 90, 92, 95, 97] : List Nat)[code]?).getD 97 := by
  rcases code with _ | _ | _ | _ | _ | _ | _ | _ | code <;> rfl

/-- A stamp stays where the state does, unless the grading turned the sign of a raised entry (R125). -/
theorem stamp_eq (old : WatchedEntry) (sign : Sign) (state : MarginState) (stamp : Stamp) :
    (if (decide (old.state = state) && !(reversed old sign && state.raised)) = true then old.stamp else some stamp) =
      if old.state = state ∧ ¬ (old.sign ≠ sign ∧
          (old.state = .caution ∨ old.state = .limit ∨ old.state = .breach) ∧
          (state = .caution ∨ state = .limit ∨ state = .breach)) then old.stamp else some stamp := by
  refine if_congr ?_ rfl rfl
  rw [Bool.and_eq_true, decide_eq_true_eq, Bool.not_eq_true', Bool.and_eq_false_iff, reversed, Bool.and_eq_false_iff,
    raised_eq_decide, raised_eq_decide]
  simp only [decide_eq_false_iff_not]
  tauto

/-- An entry graded with a value (R121 to R125). -/
theorem gradeEntry_value {s : State} {c : Condition} {i : Nat} {v : Int}
    (hg : entryGraded s.parts s.modes.mode i = true) (hv : c.valueOf i = some v) : s.gradeEntry c i =
      gradeWith i (s.watched i) v (percentOf s.parts s.modes.mode.limits s.cond.berth i v)
        (cautionThreshold (if i < 32 then s.settings.working.stationCaution else s.settings.working.shipCaution))
        c.stamp := by
  unfold State.gradeEntry
  rw [if_pos hg, hv]

theorem gradeEntry_absent {s : State} {c : Condition} {i : Nat} (hg : entryGraded s.parts s.modes.mode i = true)
    (hv : c.valueOf i = none) : s.gradeEntry c i = gradeWithout i (s.watched i) .indeterminate c.stamp := by
  unfold State.gradeEntry
  rw [if_pos hg, hv]

theorem gradeEntry_off {s : State} {c : Condition} {i : Nat} (hg : entryGraded s.parts s.modes.mode i ≠ true) :
    s.gradeEntry c i = gradeWithout i (s.watched i) .off c.stamp := if_neg hg

/-- Settles O47: an entry that is not graded or has no value takes OFF or INDETERMINATE, and the others their threshold. -/
theorem entriesAreGraded : Obligations.EntriesAreGraded := by
  intro s c i hi
  refine ⟨fun h => ?_, fun h hv => ?_, fun v h hv => ?_⟩
  · rw [gradeEntry_off (mt (entryGraded_iff hi).1 h)]
    rfl
  · rw [gradeEntry_absent ((entryGraded_iff hi).2 h) hv]
    rfl
  · obtain ⟨hoff, hindet⟩ := baseState_ordered (s.watched i) (signOf i v)
    rw [gradeEntry_value ((entryGraded_iff hi).2 h) hv, gradeWith]
    dsimp only
    rw [stamp_eq, newState_eq hoff hindet, baseState_eq, cautionThreshold_eq, signOf_eq, raised_eq_decide]
    simp only [decide_eq_true_eq]

end Sys2Proof.Machine

/-! # What follows a grading -/

namespace Sys2Proof.Machine

/-! ## The correction request (R47) -/

/-- A tank of a recipe with the target of its step. -/
def State.correctionStep (s : State) (r : Recipe) (k : Nat) : Nat × Nat :=
  (k, correctionTarget s.parts r k (((s.tank k).volume).getD 0))

/-- A list maps through a partial function where every element has an image. -/
theorem mapM_option {α β : Type} (f : α → Option β) (g : α → β) (l : List α) (h : ∀ x ∈ l, f x = some (g x)) :
    l.mapM f = some (l.map g) := by
  induction l with
  | nil => rfl
  | cons x l ih =>
    rw [List.mapM_cons, h x List.mem_cons_self, ih fun y hy => h y (List.mem_cons_of_mem x hy)]
    rfl

theorem mapM_none {α β : Type} (f : α → Option β) (l : List α) (h : ∃ x ∈ l, f x = none) : l.mapM f = none := by
  induction l with
  | nil =>
    obtain ⟨x, hx, -⟩ := h
    cases hx
  | cons x l ih =>
    rw [List.mapM_cons]
    cases hf : f x with
    | none => rfl
    | some y =>
      obtain ⟨z, hz, hfz⟩ := h
      have hmem : z ∈ l := by
        rcases List.mem_cons.1 hz with rfl | hz
        · rw [hf] at hfz
          cases hfz
        · exact hz
      rw [ih ⟨z, hmem, hfz⟩]
      rfl

/-- The entries of a correction: none where a tank is not defined or has no volume (R47). -/
theorem correctionEntries_eq (s : State) (r : Recipe) : s.correctionEntries r =
    if ∃ k ∈ r.tanks, tankDefined s.parts k = false ∨ (s.tank k).volume = none then none
    else some (r.tanks.map (s.correctionStep r)) := by
  unfold State.correctionEntries
  by_cases h : ∃ k ∈ r.tanks, tankDefined s.parts k = false ∨ (s.tank k).volume = none
  · rw [if_pos h]
    obtain ⟨k, hk, hbad⟩ := h
    refine mapM_none _ _ ⟨k, hk, ?_⟩
    rcases hbad with hd | hv
    · simp [hd]
    · simp [hv]
  · rw [if_neg h]
    refine mapM_option _ _ _ fun k hk => ?_
    have hd : tankDefined s.parts k = true := by
      by_contra hd
      exact h ⟨k, hk, .inl (Bool.eq_false_iff.2 hd)⟩
    obtain ⟨v, hv⟩ : ∃ v, (s.tank k).volume = some v :=
      Option.ne_none_iff_exists'.1 fun hv => h ⟨k, hk, .inr hv⟩
    simp [hd, hv, State.correctionStep]

/-- A recipe in use (R47). -/
theorem recipeTransfer_isSome (s : State) (i : Nat) (sign : Sign) : (s.recipeTransfer i sign).isSome = true ↔
    ∃ t ∈ s.transfers.records, t.source = .recipe i sign := by
  rw [State.recipeTransfer, List.find?_isSome]
  simp only [decide_eq_true_eq]

/-- The request for a correction (R47). -/
theorem askCorrection_eq (s : State) (i : Nat) (sign : Sign) : s.askCorrection i sign =
    if ∃ t ∈ s.transfers.records, t.source = .recipe i sign then s
    else
      match recipeSlot s.parts i sign with
      | none => s.raise (.corrRefused i sign)
      | some r =>
        if ∃ k ∈ r.tanks, tankDefined s.parts k = false ∨ (s.tank k).volume = none then s.raise (.corrRefused i sign)
        else if s.faults.state ≠ .normal then s
        else if ¬ (s.modes.mode = .berth ∨ s.modes.mode = .passage) ∨ 16 ≤ s.transfers.records.length then
          s.raise (.corrRefused i sign)
        else
          (s.enrol ⟨.correction, .pump, r.direction, r.tanks.map (s.correctionStep r), .recipe i sign, some i, true⟩).scan := by
  unfold State.askCorrection
  refine if_congr (recipeTransfer_isSome s i sign) rfl ?_
  cases recipeSlot s.parts i sign with
  | none => rfl
  | some r =>
    dsimp only
    rw [correctionEntries_eq]
    by_cases h : ∃ k ∈ r.tanks, tankDefined s.parts k = false ∨ (s.tank k).volume = none
    · rw [if_pos h, if_pos h]
    · rw [if_neg h, if_neg h]
      refine if_congr not_isNormal_iff rfl ?_
      by_cases hm : ¬ (s.modes.mode = .berth ∨ s.modes.mode = .passage)
      · rw [if_pos (not_modeAdmits_iff.2 hm), if_pos (.inl hm)]
      · rw [if_neg (mt not_modeAdmits_iff.1 hm)]
        by_cases hf : 16 ≤ s.transfers.records.length
        · rw [if_pos (tableFull_iff.2 hf), if_pos (.inr hf)]
        · rw [if_neg (mt tableFull_iff.1 hf), if_neg (not_or.2 ⟨hm, hf⟩)]
          rfl

/-! ## The moves of a grading (R125 to R127) -/

/-- The states LIMIT and BREACH. -/
theorem high_iff (x : MarginState) : x.high = true ↔ x = .limit ∨ x = .breach := by
  cases x <;> simp [MarginState.high]

/-- The states of the blocking set. -/
theorem blocks_iff (x : MarginState) : x.blocks = true ↔ (x = .limit ∨ x = .breach) ∨ x = .indeterminate := by
  cases x <;> simp [MarginState.blocks]

/-- An entry that stays raised with its sign reversed enters its state afresh (R124). -/
def AfreshEntry (old new : WatchedEntry) : Prop :=
  (old.state = .caution ∨ old.state = .limit ∨ old.state = .breach) ∧
    (new.state = .caution ∨ new.state = .limit ∨ new.state = .breach) ∧ old.sign ≠ new.sign

section
variable (s : State) (c : Condition) (i : Nat)

theorem gradeEntry_index_before : (s.gradeEntry c i).index = i ∧ (s.gradeEntry c i).before = (s.watched i).state := by
  unfold State.gradeEntry
  split
  · cases c.valueOf i <;> exact ⟨rfl, rfl⟩
  · exact ⟨rfl, rfl⟩

theorem afresh_gradeEntry : (s.gradeEntry c i).afresh = true ↔ AfreshEntry (s.watched i) (s.gradeEntry c i).after := by
  have without : ∀ st : MarginState, (gradeWithout i (s.watched i) st c.stamp).afresh = true ↔
      AfreshEntry (s.watched i) (gradeWithout i (s.watched i) st c.stamp).after := fun st =>
    ⟨fun h => absurd h Bool.false_ne_true, fun h => absurd rfl h.2.2⟩
  unfold State.gradeEntry
  split
  · cases c.valueOf i with
    | none => exact without _
    | some v =>
      dsimp only
      generalize percentOf _ _ _ _ v = p
      generalize cautionThreshold _ = caution
      unfold gradeWith AfreshEntry
      dsimp only
      generalize newState _ _ _ = state
      rw [Bool.and_eq_true, reversed, Bool.and_eq_true, decide_eq_true_eq, raised_iff]
      by_cases h : state.raised = true
      · rw [if_pos h, ← raised_iff state]
        tauto
      · rw [← raised_iff state]
        tauto
  · exact without _

/-- An entry entered its state (R125). -/
theorem entered_gradeEntry : (s.gradeEntry c i).entered = true ↔
    (s.watched i).state ≠ (s.gradeEntry c i).after.state ∨ AfreshEntry (s.watched i) (s.gradeEntry c i).after := by
  obtain ⟨-, hbefore⟩ := gradeEntry_index_before s c i
  rw [Graded.entered, Bool.or_eq_true, decide_eq_true_eq, hbefore, afresh_gradeEntry]

/-- An entry entered LIMIT, or BREACH without LIMIT between (R126, log 13). -/
theorem enteredLimit_gradeEntry : (s.gradeEntry c i).enteredLimit = true ↔
    ((s.gradeEntry c i).after.state = .limit ∧
      ((s.watched i).state ≠ (s.gradeEntry c i).after.state ∨ AfreshEntry (s.watched i) (s.gradeEntry c i).after)) ∨
    ((s.gradeEntry c i).after.state = .breach ∧
      (¬ ((s.watched i).state = .limit ∨ (s.watched i).state = .breach) ∨
        AfreshEntry (s.watched i) (s.gradeEntry c i).after)) := by
  obtain ⟨-, hbefore⟩ := gradeEntry_index_before s c i
  rw [Graded.enteredLimit, Bool.and_eq_true, entered_gradeEntry]
  cases hs : (s.gradeEntry c i).after.state <;>
    simp only [hbefore, afresh_gradeEntry, Bool.or_eq_true, decide_eq_true_eq, reduceCtorEq] <;> tauto

/-- An entry came into the blocking set, or entered LIMIT or BREACH afresh (R127). -/
theorem cameIn_gradeEntry : (s.gradeEntry c i).cameIn = true ↔
    (s.gradeEntry c i).after.state.blocks = true ∧ (¬ (s.watched i).state.blocks = true ∨
      (AfreshEntry (s.watched i) (s.gradeEntry c i).after ∧ (s.gradeEntry c i).after.state.high = true)) := by
  obtain ⟨-, hbefore⟩ := gradeEntry_index_before s c i
  rw [Graded.cameIn, Bool.and_eq_true, Bool.or_eq_true, Bool.and_eq_true, afresh_gradeEntry, hbefore, Bool.not_eq_true',
    Bool.not_eq_true]

end

/-! ## The consequences, one by one -/

/-- Folds with steps that agree, over a list and its image. -/
theorem foldl_map_congr {α β γ : Type} {h : α → β} {f : γ → β → γ} {g : γ → α → γ} {u v : γ} {l : List α}
    (hf : ∀ x i, f x (h i) = g x i) (huv : u = v) : (l.map h).foldl f u = l.foldl g v := by
  subst huv
  rw [List.foldl_map]
  exact congrArg (fun step => l.foldl step u) (funext₂ hf)

theorem foldl_congr_step {α γ : Type} {f g : γ → α → γ} {u v : γ} {l : List α} (hf : ∀ x i, f x i = g x i)
    (huv : u = v) : l.foldl f u = l.foldl g v := by
  subst huv
  exact congrArg (fun step => l.foldl step u) (funext₂ hf)

/-- The graded entries of a publication, in the order of their indices. -/
theorem gradedList_eq (s : State) (c : Condition) :
    (Vector.ofFn fun i : Fin 36 => s.gradeEntry c i.val).toList = (List.range 36).map (s.gradeEntry c) := by
  refine List.ext_getElem (by simp) fun i h1 h2 => ?_
  simp

theorem setGraded_eq (s : State) (c : Condition) :
    s.setGraded (Vector.ofFn fun i : Fin 36 => s.gradeEntry c i.val) c.stamp =
      s.setMargins ⟨Vector.ofFn fun i : Fin 36 => (s.gradeEntry c i.val).after, some c.stamp⟩ := by
  have h : (Vector.ofFn fun i : Fin 36 => ((Vector.ofFn fun j : Fin 36 => s.gradeEntry c j.val)[i]).after) =
      Vector.ofFn fun i : Fin 36 => (s.gradeEntry c i.val).after := by
    refine congrArg Vector.ofFn (funext fun i => ?_)
    simp
  rw [State.setGraded, h]

section
variable (s : State) (c : Condition) (i : Nat) (v : State)

/-- The item of an entry that entered LIMIT, CAUTION or INDETERMINATE (R126). -/
theorem raiseGraded_gradeEntry : v.raiseGraded (s.gradeEntry c i) =
    if (s.gradeEntry c i).enteredLimit = true then v.raise (.limit i)
    else if (s.gradeEntry c i).after.state = .caution ∧ (s.gradeEntry c i).entered = true then v.raise (.caution i)
    else if (s.gradeEntry c i).after.state = .indeterminate ∧ (s.gradeEntry c i).entered = true then v.raise (.indet i)
    else v := by
  obtain ⟨hindex, -⟩ := gradeEntry_index_before s c i
  rw [State.raiseGraded, hindex]
  by_cases hl : (s.gradeEntry c i).enteredLimit = true
  · rw [if_pos hl, if_pos hl]
  · rw [if_neg hl, if_neg hl]
    by_cases he : (s.gradeEntry c i).entered = true
    · rw [if_pos he]
      cases (s.gradeEntry c i).after.state <;> simp [he]
    · rw [if_neg he, if_neg fun h => he h.2, if_neg fun h => he h.2]

/-- What the Pour Plan unit is told of a grading (R127). -/
theorem tellBlocking_gradeEntry : v.tellBlocking ((List.range 36).map (s.gradeEntry c)) =
    if ∃ i ∈ List.range 36, (s.gradeEntry c i).cameIn = true ∧ (s.gradeEntry c i).after.state.high = true then
      v.block .limit
    else if ∃ i ∈ List.range 36, (s.gradeEntry c i).cameIn = true then v.block .indet
    else if (∃ i ∈ List.range 36, (s.watched i).state.blocks = true) ∧
        ∀ i ∈ List.range 36, ¬ (s.gradeEntry c i).after.state.blocks = true then v.judgeRelease
    else v := by
  have hhigh : ((((List.range 36).map (s.gradeEntry c)).filter Graded.cameIn).any fun g => g.after.state.high) = true ↔
      ∃ i ∈ List.range 36, (s.gradeEntry c i).cameIn = true ∧ (s.gradeEntry c i).after.state.high = true := by
    simp only [List.any_eq_true, List.mem_filter, List.mem_map, and_assoc, exists_exists_and_eq_and]
  have hnone : (((List.range 36).map (s.gradeEntry c)).filter Graded.cameIn).isEmpty = true ↔
      ¬ ∃ i ∈ List.range 36, (s.gradeEntry c i).cameIn = true := by
    simp only [List.isEmpty_iff, List.filter_eq_nil_iff, List.mem_map, forall_exists_index, and_imp,
      forall_apply_eq_imp_iff₂, not_exists, not_and]
  have hbefore : ((((List.range 36).map (s.gradeEntry c)).any fun g => g.before.blocks) &&
      !(((List.range 36).map (s.gradeEntry c)).any fun g => g.after.state.blocks)) = true ↔
      (∃ i ∈ List.range 36, (s.watched i).state.blocks = true) ∧
        ∀ i ∈ List.range 36, ¬ (s.gradeEntry c i).after.state.blocks = true := by
    simp only [Bool.and_eq_true, Bool.not_eq_true', List.any_eq_true, List.any_eq_false, List.mem_map,
      exists_exists_and_eq_and, forall_exists_index, and_imp, forall_apply_eq_imp_iff₂,
      (gradeEntry_index_before s c _).2]
  simp only [State.tellBlocking]
  by_cases hc : ∃ i ∈ List.range 36, (s.gradeEntry c i).cameIn = true
  · rw [if_neg (mt hnone.1 (not_not.2 hc)), if_pos hc]
    exact if_congr hhigh rfl rfl
  · have hno : ¬ ∃ i ∈ List.range 36, (s.gradeEntry c i).cameIn = true ∧ (s.gradeEntry c i).after.state.high = true :=
      fun ⟨i, hi, hcame, _⟩ => hc ⟨i, hi, hcame⟩
    rw [if_pos (hnone.2 hc), if_neg hno, if_neg hc]
    exact if_congr hbefore rfl rfl

theorem tellBlocking_of_iff {u w : State} (hu : u = w) {came high released : Prop} [Decidable came] [Decidable high]
    [Decidable released]
    (hhigh : high ↔ ∃ i ∈ List.range 36,
      (s.gradeEntry c i).cameIn = true ∧ (s.gradeEntry c i).after.state.high = true)
    (hcame : came ↔ ∃ i ∈ List.range 36, (s.gradeEntry c i).cameIn = true)
    (hreleased : released ↔ (∃ i ∈ List.range 36, (s.watched i).state.blocks = true) ∧
      ∀ i ∈ List.range 36, ¬ (s.gradeEntry c i).after.state.blocks = true) :
    u.tellBlocking ((List.range 36).map (s.gradeEntry c)) =
      if high then w.block .limit else if came then w.block .indet else if released then w.judgeRelease else w := by
  subst hu
  rw [tellBlocking_gradeEntry]
  exact if_congr hhigh.symm rfl (if_congr hcame.symm rfl (if_congr hreleased.symm rfl rfl))

/-- The recipe that a grading asks for (R129). -/
theorem askGraded_gradeEntry : v.askGraded (s.gradeEntry c i) =
    if (s.gradeEntry c i).enteredLimit = true then v.askCorrection i (s.gradeEntry c i).after.sign else v := by
  rw [State.askGraded, (gradeEntry_index_before s c i).1]

/-- The breach that a grading hands to the Fault Supervisor (R130). -/
theorem handBreach_gradeEntry : v.handBreach (s.gradeEntry c i) =
    if (s.gradeEntry c i).after.state = .breach ∧ (s.gradeEntry c i).entered = true then v.class1 (.breach i) else v := by
  rw [State.handBreach, (gradeEntry_index_before s c i).1]
  refine if_congr ?_ rfl rfl
  rw [Bool.and_eq_true, decide_eq_true_eq, and_comm]

end

/-- The stop index of a CORRECTION is CLEAR (R64, R85). -/
def State.Cleared (v : State) (t : Transfer) : Prop :=
  t.cls = .correction ∧ ∃ i ∈ t.stopIndex.toList, (v.watched i).state = .clear

theorem cleared_iff (v : State) (t : Transfer) : (decide (t.cls = .correction) && (match t.stopIndex with
    | some i => decide ((v.watched i).state = .clear)
    | none => false)) = true ↔ v.Cleared t := by
  rw [Bool.and_eq_true, decide_eq_true_eq, State.Cleared]
  cases t.stopIndex <;> simp

/-- A pending CORRECTION whose stop index is CLEAR ends (R64). -/
theorem relievePending_of_iff (v : State) (id : Nat) (p : Prop) [Decidable p]
    (hp : p ↔ ∃ t ∈ (v.transfer? id).toList, id ∈ v.transfers.queue ∧ v.Cleared t) :
    v.relievePending id = if p then v.freeAndTell id .relieved else v := by
  unfold State.relievePending
  cases ht : v.transfer? id with
  | none =>
    have hnot : ¬ p := by
      rw [hp, ht]
      simp
    rw [if_neg hnot]
  | some t =>
    refine if_congr ?_ rfl rfl
    rw [hp, ht, Bool.and_assoc, Bool.and_eq_true]
    refine (and_congr_right' (cleared_iff v t)).trans ?_
    rw [List.any_eq_true]
    constructor
    · rintro ⟨⟨x, hx, he⟩, hc⟩
      rw [decide_eq_true_eq] at he
      exact ⟨t, Option.mem_toList.2 rfl, he ▸ hx, hc⟩
    · rintro ⟨u, hu, hid, hc⟩
      obtain rfl : u = t := by simpa using hu
      exact ⟨⟨id, hid, decide_eq_true rfl⟩, hc⟩

/-- A mover that runs a CORRECTION whose stop index is CLEAR stops (R85). -/
theorem relieveActive_of_iff (v : State) (m : MoverId) (p : Prop) [Decidable p]
    (hp : p ↔ (∃ t ∈ ((v.mover m).run.bind v.transfer?).toList, v.Cleared t) ∧ (v.mover m).phase ≠ .idle ∧
      (v.mover m).phase ≠ .faulted ∧ (match (v.mover m).phase with | .stopping _ _ _ => false | _ => true) = true) :
    v.relieveActive m = if p then v.enterStop m .ended (some .relieved) else v := by
  unfold State.relieveActive
  rw [runTransfer_eq_bind]
  cases ht : (v.mover m).run.bind v.transfer? with
  | none =>
    have hnot : ¬ p := by
      rw [hp, ht]
      simp
    rw [if_neg hnot]
  | some t =>
    dsimp only
    by_cases hc : v.Cleared t
    · refine (if_pos ((cleared_iff v t).2 hc)).trans ?_
      rw [ht] at hp
      cases hphase : (v.mover m).phase <;> simp_all
    · have hnot : ¬ p := by
        rw [hp, ht]
        simp [hc]
      exact (if_neg (mt (cleared_iff v t).1 hc)).trans (if_neg hnot).symm

/-- Settles O48: the fold over the graded entries and the folds after it, each step by its own condition. -/
theorem gradingsActOnTheRest : Obligations.GradingsActOnTheRest := by
  refine ⟨fun s c => ?_, fun s i sign => askCorrection_eq s i sign⟩
  unfold State.gradePublication
  dsimp only
  rw [gradedList_eq, setGraded_eq]
  refine foldl_congr_step (fun v m => relieveActive_of_iff v m _ Iff.rfl) ?_
  refine (congrArg (fun u : State => u.transfers.queue.foldl State.relievePending u) ?_).trans
    (foldl_congr_step (fun v id => relievePending_of_iff v id _ Iff.rfl) rfl)
  refine foldl_map_congr (fun v i => (handBreach_gradeEntry s c i v).trans (if_congr ?_ rfl rfl)) ?_
  · rw [entered_gradeEntry]
    rfl
  refine foldl_map_congr (fun v i => (askGraded_gradeEntry s c i v).trans (if_congr ?_ rfl rfl)) ?_
  · rw [enteredLimit_gradeEntry]
    rfl
  refine tellBlocking_of_iff s c ?_ ?_ ?_ ?_
  · refine foldl_map_congr (fun v i => (raiseGraded_gradeEntry s c i v).trans ?_) rfl
    refine if_congr ?_ rfl (if_congr (and_congr_right' ?_) rfl (if_congr (and_congr_right' ?_) rfl rfl))
    · rw [enteredLimit_gradeEntry]
      rfl
    · rw [entered_gradeEntry]
      rfl
    · rw [entered_gradeEntry]
      rfl
  · simp only [cameIn_gradeEntry, blocks_iff, high_iff]
    rfl
  · simp only [cameIn_gradeEntry, blocks_iff, high_iff]
    rfl
  · simp only [blocks_iff]

end Sys2Proof.Machine

/-! # The particulars commit -/

namespace Sys2Proof.Machine

/-- The command PK is the console request with its own checks and effect. -/
theorem exec_particularsCommit (ps : List Int) (s : State) : exec (.particularsCommit ps) s =
    .next (s.consoleRequest .PK ps (pkChecks s ps) State.takePK) := rfl

section
variable (s : State) (m : Memory)

/-- A mass change (R100, R102): the stamp, and an evaluation at once or later. -/
theorem cond_massChange : s.massChange.cond = { s.cond with
    stamp := s.cond.stamp + 1
    evaluation := if s.cond.evaluation ≠ none ∨ s.cond.prediction ≠ none then s.cond.evaluation
      else some (s.massChange.runInputs none)
    again := if s.cond.evaluation ≠ none ∨ s.cond.prediction ≠ none then true else s.cond.again } := by
  by_cases h : s.cond.evaluation ≠ none ∨ s.cond.prediction ≠ none
  · have hb : (s.setCond { s.cond with stamp := s.cond.stamp + 1 }).condBusy = true := condBusy_iff.2 h
    simp only [if_pos h, State.massChange, State.requestEvaluation, hb, if_true, cond_setCond]
  · have hb : ¬ (s.setCond { s.cond with stamp := s.cond.stamp + 1 }).condBusy = true := mt condBusy_iff.1 h
    simp only [if_neg h, State.massChange, State.requestEvaluation, if_neg hb, State.beginEvaluation, cond_setCond]
    rfl

/-- The Condition Unit after a commit (R97, R202). -/
theorem cond_commitBlock_eq : (s.commitBlock m).cond = { s.cond with
    items := (s.commitBlock m).cond.items
    stamp := s.cond.stamp + 1
    evaluation := if s.cond.evaluation ≠ none ∨ s.cond.prediction ≠ none then s.cond.evaluation
      else some ((s.commitBlock m).runInputs none)
    again := if s.cond.evaluation ≠ none ∨ s.cond.prediction ≠ none then true else s.cond.again } := by
  obtain ⟨u, hu, hcond⟩ : ∃ u : State, s.commitBlock m = u.massChange ∧
      u.cond = { s.cond with items := u.cond.items } := by
    refine ⟨_, rfl, ?_⟩
    simp only [cond_rebuildMargins, cond_rebuildHolds, State.rebuildItems, cond_setCond, cond_rebuildRoles,
      cond_rebuildTanks, cond_setParticulars]
  have hmass := cond_massChange u
  have hevaluation : u.cond.evaluation = s.cond.evaluation := by rw [hcond]
  have hprediction : u.cond.prediction = s.cond.prediction := by rw [hcond]
  have hstamp : u.cond.stamp = s.cond.stamp := by rw [hcond]
  have hagain : u.cond.again = s.cond.again := by rw [hcond]
  rw [hevaluation, hprediction, hstamp, hagain] at hmass
  rw [hu]
  refine conditionUnit_ext rfl ?_ ?_ ?_ ?_ ?_ ?_ ?_ ?_
  · rw [hmass]
    exact (by rw [hcond] : u.cond.berth = s.cond.berth)
  · rw [hmass]
    exact (by rw [hcond] : u.cond.tide = s.cond.tide)
  · rw [hmass]
  · rw [hmass]
  · rw [hmass]
  · rw [hmass]
    exact (by rw [hcond] : u.cond.request = s.cond.request)
  · rw [hmass]
    exact hprediction
  · rw [hmass]
    exact (by rw [hcond] : u.cond.published = s.cond.published)

/-- The watched entries after a commit (R118, log 22). -/
theorem margins_commitBlock : (s.commitBlock m).margins = (s.rebuildMargins (some m)).margins := by
  simp only [State.commitBlock, margins_massChange, State.rebuildMargins, margins_setMargins, margins_rebuildHolds,
    margins_rebuildItems, margins_rebuildRoles, margins_rebuildTanks, margins_setParticulars]

/-- The tanks after a commit (R19). -/
theorem tank_commitBlock {n : Nat} (h1 : 1 ≤ n) (h24 : n ≤ 24) : (s.commitBlock m).tank n =
    if tankDefined s.parts n = tankDefined (some m) n then s.tank n else TankLive.blank := by
  have hn : n - 1 + 1 = n := by omega
  have hi : n - 1 < 24 := by omega
  have htank : s.tank n = s.tankTable.tanks[n - 1] := by
    rw [State.tank, Vector.getElem?_eq_getElem hi, Option.getD_some]
  rw [State.tank, tanks_commitBlock, ofFn_getD _ _ _ hi, htank]
  simp only [hn, keptNumber, Fin.getElem_fin]
  cases tankDefined s.parts n <;> cases tankDefined (some m) n <;> rfl

/-- The write of the origin store that a commit calls for (R16, R19). -/
theorem writing_commitBlock :
    (s.commitBlock m).tankTable.writing =
        (if (∃ n ∈ List.range 25, 1 ≤ n ∧ tankDefined s.parts n ≠ tankDefined (some m) n) ∧ s.tankTable.writing = none then
          some (s.commitBlock m).tankTable.origins
        else s.tankTable.writing) ∧
      (s.commitBlock m).tankTable.rewrite =
        (if (∃ n ∈ List.range 25, 1 ≤ n ∧ tankDefined s.parts n ≠ tankDefined (some m) n) ∧ s.tankTable.writing ≠ none then
          true
        else s.tankTable.rewrite) := by
  rw [tankTable_commitBlock]
  by_cases hc : redefined s.parts (some m)
  · rw [rebuildTanks_redefined _ hc]
    cases hw : s.tankTable.writing with
    | none => exact ⟨(if_pos ⟨hc, rfl⟩).symm, (if_neg fun h => h.2 rfl).symm⟩
    | some copy => exact ⟨(if_neg fun h => nomatch h.2).symm, (if_pos ⟨hc, fun h => nomatch h⟩).symm⟩
  · rw [rebuildTanks_not_redefined _ hc]
    exact ⟨(if_neg fun h => hc h.1).symm, (if_neg fun h => hc h.1).symm⟩

/-- The field loop after a commit: the points whose role changed start again (R23). -/
theorem points_commitBlock {a : Nat} (ha : a < 64) :
    (roleOf s.parts a = roleOf (some m) a →
      (s.commitBlock m).drive a = s.drive a ∧ (s.commitBlock m).scanned a = s.scanned a) ∧
    (roleOf s.parts a ≠ roleOf (some m) a →
      (s.commitBlock m).drive a = ⟨false, .awaiting, none⟩ ∧ (s.commitBlock m).scanned a = ⟨none, false⟩) := by
  have hdrive : s.drive a = s.loop.drive[a] := by
    rw [State.drive, Vector.getElem?_eq_getElem ha, Option.getD_some]
  have hscan : s.scanned a = s.loop.scan[a] := by
    rw [State.scanned, Vector.getElem?_eq_getElem ha, Option.getD_some]
  have hd : (s.commitBlock m).drive a =
      if roleOf s.parts a = roleOf (some m) a then s.drive a else ⟨false, .awaiting, none⟩ := by
    rw [State.drive, loop_commitBlock, State.rebuildRoles]
    refine (ofFn_getD _ _ _ ha).trans ?_
    simp only [decide_eq_true_eq, hdrive, Fin.getElem_fin]
  have hs : (s.commitBlock m).scanned a =
      if roleOf s.parts a = roleOf (some m) a then s.scanned a else ⟨none, false⟩ := by
    rw [State.scanned, loop_commitBlock, State.rebuildRoles]
    refine (ofFn_getD _ _ _ ha).trans ?_
    simp only [decide_eq_true_eq, hscan, Fin.getElem_fin]
  constructor
  · intro h
    rw [hd, hs, if_pos h, if_pos h]
    exact ⟨rfl, rfl⟩
  · intro h
    rw [hd, hs, if_neg h, if_neg h]
    exact ⟨rfl, rfl⟩

/-- A full scan is due after a commit that changes a role (R23). -/
theorem loop_commitBlock_eq : (s.commitBlock m).loop = { s.loop with
    drive := (s.commitBlock m).loop.drive, scan := (s.commitBlock m).loop.scan
    fullScan := s.loop.fullScan || decide (∃ a ∈ List.range 64, roleOf s.parts a ≠ roleOf (some m) a) } := by
  have hflag : (!((List.range 64).all fun a => decide (roleOf s.parts a = roleOf (some m) a))) =
      decide (∃ a ∈ List.range 64, roleOf s.parts a ≠ roleOf (some m) a) := by
    rw [Bool.eq_iff_iff, Bool.not_eq_true', List.all_eq_false, decide_eq_true_iff]
    simp only [decide_eq_true_eq, ne_eq]
  rw [← hflag, loop_commitBlock]
  rfl

theorem watched_commitBlock {i : Nat} (hi : i < 36) : (s.commitBlock m).watched i =
    if i < 32 ∧ stationDefined (some m) (i / 2 + 1) = false then
      { s.watched i with value := none, percent := none, state := .off }
    else s.watched i := by
  have hentry : s.watched i = s.margins.entries[i] := by
    rw [State.watched, Vector.getElem?_eq_getElem hi, Option.getD_some]
  rw [State.watched, margins_commitBlock, State.rebuildMargins, hentry]
  exact ofFn_getD _ _ _ hi

end

/-- Settles O37: PK by its ladder, and the commit unit by unit. -/
theorem particularsAreCommitted : Obligations.ParticularsAreCommitted := by
  refine ⟨fun s ps htakes => ?_, fun s h => ?_, fun s m h => ?_⟩
  · rw [exec_particularsCommit, pkChecks]
    simp only [consoleRequest_cons htakes, consoleRequest_nil htakes]
    refine congrArg Host.Outcome.next ?_
    refine rung decide_eq_true_iff fun _ => ?_
    refine rung inRestart_iff fun _ => ?_
    refine rung decide_eq_true_iff fun _ => ?_
    unfold State.takePK State.editCopy
    cases firstBadWord (s.particulars.edit.getD []) <;> rfl
  · refine congrArg Host.Outcome.next ?_
    rw [State.commitEffect, h]
  · have hcond := cond_commitBlock_eq s m
    refine ⟨s.commitBlock m, congrArg Host.Outcome.next ?_, particulars_commitBlock s m, (cond_commitBlock s m).1,
      modes_commitBlock s m, faults_commitBlock s m, attention_commitBlock s m, transfers_commitBlock s m,
      movers_commitBlock s m, console_commitBlock s m, shore_commitBlock s m, settings_commitBlock s m,
      composer_commitBlock s m, pending_commitBlock s m, fun n h1 h24 => tank_commitBlock s m h1 h24, ?_, ?_, ?_,
      fun a ha => points_commitBlock s m ha, loop_commitBlock_eq s m, ?_, fun i hi => watched_commitBlock s m hi, ?_, ?_,
      fun n h1 h8 => ?_, fun n h1 h9 => ?_⟩
    · rw [State.commitEffect, h]
    · rw [tankTable_commitBlock]
      by_cases hc : redefined s.parts (some m)
      · rw [rebuildTanks_redefined _ hc]
      · rw [rebuildTanks_not_redefined _ hc]
    · exact writing_commitBlock s m
    · exact ⟨congrArg ConditionUnit.evaluation hcond, congrArg ConditionUnit.again hcond⟩
    · rw [margins_commitBlock]
      rfl
    · rw [pour_commitBlock]
      rfl
    · refine conditionUnit_ext rfl ?_ ?_ rfl rfl rfl ?_ ?_ ?_ <;> rw [hcond]
    · unfold State.itemRecord
      rw [(cond_commitBlock s m).2.1, State.rebuildItems]
      exact keptRecord_eq _ _ _ _ h1 h8
    · unfold State.holdRecord
      rw [pour_commitBlock, State.rebuildHolds]
      exact keptRecord_eq _ _ _ _ h1 h9

end Sys2Proof.Machine

/-! # Where the transfers stand, and what the plan's safety rests on -/

namespace Sys2Proof.Machine

/-- Where each record stands: the ids with their reservations, the queue, and the run slots and stacks. -/
def State.placing (s : State) : List (Nat × Option MoverId) × List Nat × List (Option Nat × List Nat) :=
  (s.transfers.records.map fun t => (t.id, t.reservation), s.transfers.queue,
    allMovers.map fun m => ((s.mover m).run, (s.mover m).stack))

/-- What the plan's safety rests on: the steps with their states, the clearance, the fault state, the watched entries, the
mode and the run condition. -/
def State.planning (s : State) :
    List (Nat × StepState) × Option Nat × FaultState × MarginMonitor × Mode × RunCondition :=
  (s.pour.steps.map fun x => (x.id, x.state), s.pour.clearance, s.faults.state, s.margins, s.modes.mode,
    s.modes.condition)

/-- No record changes its place, and nothing that the plan's safety rests on changes. -/
structure Steady (s t : State) : Prop where
  placing : t.placing = s.placing
  planning : t.planning = s.planning

theorem Steady.refl (s : State) : Steady s s := ⟨rfl, rfl⟩

theorem Steady.trans {s t u : State} (h : Steady s t) (g : Steady t u) : Steady s u :=
  ⟨g.placing.trans h.placing, g.planning.trans h.planning⟩

section
variable {s t : State} (h : Steady s t)
include h

theorem Steady.foldl {α : Type} {f : State → α → State} (l : List α) (hf : ∀ u a, Steady s u → Steady s (f u a)) :
    Steady s (l.foldl f t) := by
  induction l generalizing t with
  | nil => exact h
  | cons a l ih => exact ih (hf t a h)

theorem Steady.setAttention (x : AttentionSet) : Steady s (t.setAttention x) := h.trans ⟨rfl, rfl⟩
theorem Steady.raise (i : Item) : Steady s (t.raise i) := h.setAttention _
theorem Steady.setLoop (x : FieldLoop) : Steady s (t.setLoop x) := h.trans ⟨rfl, rfl⟩
theorem Steady.setTankTable (x : TankTable) : Steady s (t.setTankTable x) := h.trans ⟨rfl, rfl⟩
theorem Steady.setTank (n : Nat) (x : TankLive) : Steady s (t.setTank n x) := h.setTankTable _
theorem Steady.setCond (x : ConditionUnit) : Steady s (t.setCond x) := h.trans ⟨rfl, rfl⟩
theorem Steady.setShore (x : ShorePort) : Steady s (t.setShore x) := h.trans ⟨rfl, rfl⟩
theorem Steady.setConsole (x : ConsolePort) : Steady s (t.setConsole x) := h.trans ⟨rfl, rfl⟩
theorem Steady.setComposer (x : Composer) : Steady s (t.setComposer x) := h.trans ⟨rfl, rfl⟩
theorem Steady.setSettings (x : SettingsStore) : Steady s (t.setSettings x) := h.trans ⟨rfl, rfl⟩
theorem Steady.setParticulars (x : ParticularsStore) : Steady s (t.setParticulars x) := h.trans ⟨rfl, rfl⟩
theorem Steady.setNow (x : Nat) : Steady s (t.setNow x) := h.trans ⟨rfl, rfl⟩
theorem Steady.setFreeCount (x : Nat) : Steady s (t.setFreeCount x) := h.trans ⟨rfl, rfl⟩
theorem Steady.setSent (x : List Output) : Steady s (t.setSent x) := h.trans ⟨rfl, rfl⟩

theorem Steady.setMover (m : MoverId) (x : Mover) (hrun : x.run = (t.mover m).run) (hstack : x.stack = (t.mover m).stack) :
    Steady s (t.setMover m x) := by
  refine h.trans ⟨?_, by cases m <;> rfl⟩
  cases m <;> simp_all [State.placing, allMovers, State.setMover, State.mover]

theorem Steady.setMoverCause (m : MoverId) (c : Option MoverCause) : Steady s (t.setMoverCause m c) :=
  h.trans (by cases m <;> exact ⟨rfl, rfl⟩)

theorem Steady.setFaults (x : FaultSupervisor) (hx : x.state = t.faults.state) : Steady s (t.setFaults x) :=
  h.trans ⟨rfl, by simp only [State.planning, faults_setFaults, hx]; rfl⟩

theorem Steady.updTransfer (id : Nat) (f : Transfer → Transfer) (hid : ∀ x ∈ t.transfers.records, x.id = id →
    (f x).id = x.id ∧ (f x).reservation = x.reservation) : Steady s (t.updTransfer id f) := by
  refine h.trans ⟨?_, rfl⟩
  have hrecords : (t.updTransfer id f).transfers.records.map (fun x => (x.id, x.reservation)) =
      t.transfers.records.map fun x => (x.id, x.reservation) := by
    simp only [State.updTransfer, transfers_setTransfers, List.map_map]
    refine List.map_congr_left fun x hx => ?_
    by_cases hxid : x.id = id
    · obtain ⟨h1, h2⟩ := hid x hx hxid
      simp [hxid, h1, h2]
    · simp [hxid]
  exact congrArg (fun l => (l, _)) hrecords

theorem Steady.setPour (x : PourPlan) (hsteps : x.steps.map (fun y => (y.id, y.state)) = t.pour.steps.map fun y => (y.id, y.state))
    (hclearance : x.clearance = t.pour.clearance) : Steady s (t.setPour x) :=
  h.trans ⟨rfl, by simp only [State.planning, pour_setPour, hsteps, hclearance]; rfl⟩

theorem Steady.updStep (id : Nat) (f : PourStep → PourStep) (hf : ∀ x, (f x).id = x.id ∧ (f x).state = x.state) :
    Steady s (t.updStep id f) := by
  refine h.setPour _ ?_ rfl
  rw [List.map_map]
  refine List.map_congr_left fun x _ => ?_
  by_cases hx : x.id = id <;> simp [hx, hf]

/-! ## The operations below the arbiter -/

theorem Steady.writePoint (a : Nat) (on : Bool) : Steady s (t.writePoint a on) := by
  unfold State.writePoint
  dsimp only
  split
  · exact h
  · split
    · exact h
    · split
      · exact h
      · exact h.setLoop _

theorem Steady.writePoints (points : List Nat) (on : Bool) : Steady s (t.writePoints points on) :=
  h.foldl points fun _ a g => g.writePoint a on

theorem Steady.originChanged : Steady s t.originChanged := by
  unfold State.originChanged
  split <;> exact h.setTankTable _

theorem Steady.setOrigin (n : Nat) (o : OriginEntry) : Steady s (t.setOrigin n o) := by
  unfold State.setOrigin
  split
  · exact h
  · exact (h.setTank _ _).originChanged

theorem Steady.claimTanks (tanks : List Nat) (id : Nat) : Steady s (t.claimTanks tanks id) :=
  h.foldl tanks fun _ _ g => g.setTank _ _

theorem Steady.releaseTank (n : Nat) : Steady s (t.releaseTank n) := (h.setTank _ _).writePoint _ _

theorem Steady.releaseClaims (id : Nat) : Steady s (t.releaseClaims id) := h.foldl _ fun _ n g => g.releaseTank n

theorem Steady.enterPhase (m : MoverId) (ph : Phase) : Steady s (t.enterPhase m ph) := h.setMover m _ rfl rfl

theorem Steady.enterStop (m : MoverId) (r : StopReason) (o : Option TransferOutcome) : Steady s (t.enterStop m r o) := by
  unfold State.enterStop
  split
  · exact h.setMover m _ rfl rfl
  · split
    · exact (h.enterPhase m _).writePoints _ _
    · exact (h.enterPhase m _).writePoint _ _

theorem Steady.markGaugeDue (m : MoverId) : Steady s (t.markGaugeDue m) := by
  unfold State.markGaugeDue
  split
  · split
    · exact h.setMover m _ rfl rfl
    · exact h
  · exact h

theorem Steady.startFill (m : MoverId) : Steady s (t.startFill m) := by
  unfold State.startFill
  split
  · exact h
  · split
    · exact h.setOrigin _ _
    · exact h
    · exact h

theorem Steady.takeFlow (m : MoverId) : Steady s (t.takeFlow m) := h.setMover m _ rfl rfl

theorem Steady.enterStarting (m : MoverId) : Steady s (t.enterStarting m) := ((h.enterPhase m _).writePoint _ _).startFill m

theorem Steady.enterRunning (m : MoverId) : Steady s (t.enterRunning m) := (h.enterPhase m _).takeFlow m

theorem Steady.resumeRunning (m : MoverId) (n : Nat) : Steady s (t.resumeRunning m n) :=
  ((h.setMover m { t.mover m with phase := .running, gaugeDue := false } rfl rfl).writePoint _ _).takeFlow m

theorem Steady.enterSwitching (m : MoverId) (x : Transfer) (n : Nat) : Steady s (t.enterSwitching m x n) := by
  unfold State.enterSwitching
  have g := (h.updTransfer x.id (fun y => { y with active := n }) fun _ _ _ => ⟨rfl, rfl⟩).setMover m
    { (t.updTransfer x.id fun y => { y with active := n }).mover m with
      phase := .switching (x.activeTank.getD 0), flow := none, gaugeDue := false } rfl rfl
  dsimp only
  split
  · exact ((g.writePoint _ _).startFill m).markGaugeDue m
  · exact (g.startFill m).markGaugeDue m

theorem Steady.recordOutcome (m : MoverId) (id : Nat) (o : TransferOutcome) : Steady s (t.recordOutcome m id o) :=
  h.setMover m _ rfl rfl

theorem Steady.noticeFreed (id : Nat) (o : TransferOutcome) : Steady s (t.noticeFreed id o) := by
  refine h.setPour _ ?_ rfl
  rw [List.map_map]
  rfl

theorem Steady.commitVolumes : Steady s t.commitVolumes := by
  refine h.setPour _ ?_ rfl
  rw [List.map_map]
  rfl

theorem Steady.withdrawPrediction : Steady s t.withdrawPrediction := by
  unfold State.withdrawPrediction
  split
  · exact h
  · exact h.setCond _

theorem Steady.shoreSend (k : ShoreSlot) (l : Line) : Steady s (t.shoreSend k l) := h.setShore _

theorem Steady.pourMessage (m : PourMessage) (fields : List Field) : Steady s (t.pourMessage m fields) := h.shoreSend _ _

theorem Steady.shoreReply (l : Line) : Steady s (t.shoreReply l) := (h.setShore _).setShore _

end

/-- An examination keeps the id and the reservation (R71). -/
theorem examine_keeps (s : State) (x : Transfer) : (s.examine x).id = x.id ∧ (s.examine x).reservation = x.reservation := by
  unfold State.examine
  dsimp only
  split <;> exact ⟨rfl, rfl⟩

end Sys2Proof.Machine

/-! # Every record in one place -/

namespace Sys2Proof.Machine

/-- The ids of the records in use. -/
def State.ids (s : State) : List Nat := s.transfers.records.map Transfer.id

/-- The ids in the run slot and on the stack of a mover. -/
def Mover.holds (x : Mover) : List Nat := x.run.toList ++ x.stack

/-- Every record in use stands in one place, the ids `out` being on their way from one place to another: the queue, a run
slot or a stack, or one of `out` (section 3.1). -/
structure Arranged (out : List Nat) (s : State) : Prop where
  nodup : s.ids.Nodup
  count : ∀ a, out.count a + s.transfers.queue.count a + s.placed.count a = s.ids.count a
  reserved : ∀ t ∈ s.transfers.records, t.reservation ≠ none → t.id ∈ s.transfers.queue
  length : s.transfers.records.length ≤ 16
  range : ∀ t ∈ s.transfers.records, 1 ≤ t.id ∧ t.id ≤ 255

theorem transfersPlaced_iff (s : State) : TransfersPlaced s ↔
    Arranged [] s ∧ (s.modes.condition ≠ .running → s.transfers.records = []) := by
  constructor
  · rintro ⟨hnodup, hperm, hlength, hrecords, hrest⟩
    refine ⟨⟨hnodup, fun a => ?_, fun t ht => (hrecords t ht).2.2, hlength, fun t ht => ?_⟩, hrest⟩
    · have h := hperm.count_eq a
      rw [List.count_append] at h
      simpa [State.ids] using h
    · obtain ⟨h1, h2, -⟩ := hrecords t ht
      exact ⟨h1, h2⟩
  · rintro ⟨⟨hnodup, hcount, hreserved, hlength, hrange⟩, hrest⟩
    refine ⟨hnodup, List.perm_iff_count.2 fun a => ?_, hlength, fun t ht => ?_, hrest⟩
    · rw [List.count_append]
      simpa [State.ids] using hcount a
    · obtain ⟨h1, h2⟩ := hrange t ht
      exact ⟨h1, h2, hreserved t ht⟩

section
variable {s t : State} {out : List Nat} {id : Nat}

theorem placed_congr (h : t.placing = s.placing) : t.placed = s.placed := by
  have e := congrArg (fun x => x.2.2.flatMap fun q : Option Nat × List Nat => q.1.toList ++ q.2) h
  exact e

theorem ids_congr (h : t.placing = s.placing) : t.ids = s.ids := by
  have e := congrArg (fun x => x.1.map Prod.fst) h
  simpa [State.placing, State.ids, Function.comp_def] using e

/-- The arrangement rests on the places alone. -/
theorem Arranged.congr (g : Arranged out s) (h : t.placing = s.placing) : Arranged out t := by
  have hids := ids_congr h
  have hqueue : t.transfers.queue = s.transfers.queue := by have e := congrArg (fun x => x.2.1) h; exact e
  have hrecords : t.transfers.records.map (fun x => (x.id, x.reservation)) =
      s.transfers.records.map fun x => (x.id, x.reservation) := by have e := congrArg Prod.fst h; exact e
  have hmem : ∀ x ∈ t.transfers.records, ∃ y ∈ s.transfers.records, y.id = x.id ∧ y.reservation = x.reservation := by
    intro x hx
    have hx' : (x.id, x.reservation) ∈ s.transfers.records.map fun x => (x.id, x.reservation) := by
      rw [← hrecords]
      exact List.mem_map_of_mem hx
    obtain ⟨y, hy, e⟩ := List.mem_map.1 hx'
    exact ⟨y, hy, congrArg Prod.fst e, congrArg Prod.snd e⟩
  refine ⟨by rw [hids]; exact g.nodup, fun a => ?_, fun x hx hr => ?_, ?_, fun x hx => ?_⟩
  · rw [hqueue, placed_congr h, hids]
    exact g.count a
  · obtain ⟨y, hy, h1, h2⟩ := hmem x hx
    rw [hqueue, ← h1]
    exact g.reserved y hy (by rwa [h2])
  · have e := congrArg List.length hrecords
    rw [List.length_map, List.length_map] at e
    rw [e]
    exact g.length
  · obtain ⟨y, hy, h1, -⟩ := hmem x hx
    rw [← h1]
    exact g.range y hy

theorem Steady.arranged (h : Steady s t) (g : Arranged out s) : Arranged out t := g.congr h.placing

/-! ## What stands where -/

theorem count_placed (s : State) (a : Nat) : s.placed.count a =
    (s.mover .m1).holds.count a + (s.mover .m2).holds.count a + (s.mover .m3).holds.count a := by
  simp [State.placed, allMovers, Mover.holds, List.count_append, Nat.add_assoc]

theorem count_placed_setMover (s : State) (m : MoverId) (x : Mover) (a : Nat) :
    (s.setMover m x).placed.count a + (s.mover m).holds.count a = s.placed.count a + x.holds.count a := by
  rw [count_placed, count_placed]
  cases m <;> simp only [State.setMover, State.mover, movers_setMovers] <;> omega

theorem Arranged.queue_nodup (g : Arranged out s) : s.transfers.queue.Nodup := by
  refine List.nodup_iff_count_le_one.2 fun a => ?_
  have h := g.count a
  have h1 := List.nodup_iff_count_le_one.1 g.nodup a
  omega

/-- An id in the queue stands there once and nowhere else. -/
theorem Arranged.of_mem_queue (g : Arranged out s) {id : Nat} (h : id ∈ s.transfers.queue) :
    s.transfers.queue.count id = 1 ∧ out.count id = 0 ∧ s.placed.count id = 0 ∧ s.ids.count id = 1 := by
  have hcount := g.count id
  have h1 := List.nodup_iff_count_le_one.1 g.nodup id
  have h2 := List.count_pos_iff.2 h
  omega

/-- The one record with an id. -/
theorem Arranged.unique (g : Arranged out s) {x y : Transfer} (hx : x ∈ s.transfers.records)
    (hy : y ∈ s.transfers.records) (h : x.id = y.id) : x = y := List.inj_on_of_nodup_map g.nodup hx hy h

/-! ## The moves between the places -/

/-- A mover takes a value: what its run slot and stack gain or lose goes the other way in `out`. -/
theorem Arranged.setMover (g : Arranged out s) (m : MoverId) (x : Mover) {out' : List Nat}
    (h : ∀ a, out'.count a + x.holds.count a = out.count a + (s.mover m).holds.count a) :
    Arranged out' (s.setMover m x) := by
  have htransfers : (s.setMover m x).transfers = s.transfers := by cases m <;> rfl
  refine ⟨?_, fun a => ?_, ?_, ?_, ?_⟩
  · rw [State.ids, htransfers]
    exact g.nodup
  · have hplaced := count_placed_setMover s m x a
    have hcount := g.count a
    have hx := h a
    rw [State.ids, htransfers]
    change _ = s.ids.count a
    omega
  · rw [htransfers]
    exact g.reserved
  · rw [htransfers]
    exact g.length
  · rw [htransfers]
    exact g.range

/-- The Transfer Table takes a value with the same records, the queue gaining or losing what leaves or joins `out`. -/
theorem Arranged.setQueue (g : Arranged out s) (queue : List Nat) (counter : Nat) {out' : List Nat}
    (h : ∀ a, out'.count a + queue.count a = out.count a + s.transfers.queue.count a)
    (hreserved : ∀ t ∈ s.transfers.records, t.reservation ≠ none → t.id ∈ queue) :
    Arranged out' (s.setTransfers ⟨s.transfers.records, queue, counter⟩) := by
  refine ⟨g.nodup, fun a => ?_, hreserved, g.length, g.range⟩
  have hcount := g.count a
  have hx := h a
  change _ + queue.count a + s.placed.count a = s.ids.count a
  omega

/-- An id that joins the queue, wherever it goes. -/
theorem Arranged.enqueue (g : Arranged (id :: out) s) (ahead : Nat → Bool) : Arranged out (s.setTransfers { s.transfers with
    queue := s.transfers.queue.takeWhile ahead ++ id :: s.transfers.queue.dropWhile ahead }) := by
  have hperm : (s.transfers.queue.takeWhile ahead ++ id :: s.transfers.queue.dropWhile ahead).Perm
      (id :: s.transfers.queue) := by
    have h := List.perm_middle (a := id) (l₁ := s.transfers.queue.takeWhile ahead)
      (l₂ := s.transfers.queue.dropWhile ahead)
    rwa [List.takeWhile_append_dropWhile] at h
  refine g.setQueue _ _ (fun a => ?_) fun t ht hr => hperm.mem_iff.2 (List.mem_cons_of_mem _ (g.reserved t ht hr))
  rw [hperm.count_eq, List.count_cons, List.count_cons]
  omega

theorem Arranged.enqueueNew (g : Arranged (id :: out) s) : Arranged out (s.enqueueNew id) := g.enqueue _

theorem Arranged.enqueueReturned (g : Arranged (id :: out) s) : Arranged out (s.enqueueReturned id) := g.enqueue _

/-- Ids that join the queue one by one. -/
theorem Arranged.enqueueAll (l : List Nat) (g : Arranged (l ++ out) s) : Arranged out (l.foldl State.enqueueReturned s) := by
  induction l generalizing s with
  | nil => exact g
  | cons id l ih => exact ih g.enqueueReturned

/-- Records that keep their ids, a reservation staying only with a record that had one or is pending. -/
theorem Arranged.updRecords (g : Arranged out s) (f : Transfer → Transfer)
    (hid : ∀ x ∈ s.transfers.records, (f x).id = x.id)
    (hres : ∀ x ∈ s.transfers.records, (f x).reservation ≠ none → x.reservation ≠ none ∨ x.id ∈ s.transfers.queue) :
    Arranged out (s.setTransfers { s.transfers with records := s.transfers.records.map f }) := by
  have hids : (s.setTransfers { s.transfers with records := s.transfers.records.map f }).ids = s.ids := by
    simp only [State.ids, transfers_setTransfers, List.map_map]
    exact List.map_congr_left hid
  refine ⟨by rw [hids]; exact g.nodup, fun a => by rw [hids]; exact g.count a, fun t ht hr => ?_, ?_, fun t ht => ?_⟩
  · obtain ⟨x, hx, rfl⟩ := List.mem_map.1 ht
    rw [hid x hx]
    rcases hres x hx hr with h | h
    · exact g.reserved x hx h
    · exact h
  · rw [transfers_setTransfers, List.length_map]
    exact g.length
  · obtain ⟨x, hx, rfl⟩ := List.mem_map.1 ht
    rw [hid x hx]
    exact g.range x hx

theorem Arranged.dropReservation (g : Arranged out s) (m : MoverId) : Arranged out (s.dropReservation m) := by
  refine g.updRecords _ (fun x _ => ?_) fun x _ h => ?_
  · split <;> rfl
  · split at h
    · exact absurd rfl h
    · exact .inl h

/-- A record takes a value with the id and the reservation it had. -/
theorem Arranged.setRecord (g : Arranged out s) {x y : Transfer} (hx : x ∈ s.transfers.records) (hid : y.id = x.id)
    (hres : y.reservation = x.reservation) : Arranged out (s.updTransfer x.id fun _ => y) := by
  refine g.updRecords _ (fun z hz => ?_) fun z hz h => ?_
  · split
    · rename_i he
      exact hid.trans he.symm
    · rfl
  · split at h
    · rename_i he
      rw [g.unique hz hx he, ← hres]
      exact .inl h
    · exact .inl h

/-- A record leaves the queue, its reservation gone. -/
theorem Arranged.withdraw (g : Arranged out s) {id : Nat} (h : id ∈ s.transfers.queue) : Arranged (id :: out)
    ((s.dequeue id).updTransfer id fun t => { t with reservation := none, assigned := true }) := by
  obtain ⟨hq, -, -, -⟩ := g.of_mem_queue h
  have hclear := g.updRecords (fun x => if x.id = id then { x with reservation := none, assigned := true } else x)
    (fun x _ => by split <;> rfl) fun x _ hr => by
      split at hr
      · exact absurd rfl hr
      · exact .inl hr
  refine (hclear.setQueue (s.transfers.queue.filter fun x => decide (x ≠ id)) s.transfers.counter (fun a => ?_)
    fun t ht hr => ?_)
  · rw [List.count_cons]
    by_cases ha : a = id
    · subst ha
      have hnot : (s.transfers.queue.filter fun x => decide (x ≠ a)).count a = 0 :=
        List.count_eq_zero.2 (by simp)
      rw [hnot]
      simp only [transfers_setTransfers, beq_self_eq_true, if_true]
      omega
    · have hkeep : (s.transfers.queue.filter fun x => decide (x ≠ id)).count a = s.transfers.queue.count a :=
        List.count_filter (by simpa using ha)
      rw [hkeep]
      have hne : ¬ (id == a) = true := by simpa using fun e : id = a => ha e.symm
      simp only [transfers_setTransfers, if_neg hne]
      omega
  · have hmem := hclear.reserved t ht hr
    refine List.mem_filter.2 ⟨hmem, decide_eq_true fun he => ?_⟩
    obtain ⟨x, hx, rfl⟩ := List.mem_map.1 ht
    by_cases hxid : x.id = id
    · rw [if_pos hxid] at hr
      exact hr rfl
    · rw [if_neg hxid] at he
      exact hxid he

end

end Sys2Proof.Machine

/-! # The arbiter keeps every record in one place -/

namespace Sys2Proof.Machine

section
variable {s t : State} {out : List Nat} {id : Nat} {m : MoverId}

theorem mem_of_transfer {x : Transfer} (h : s.transfer? id = some x) : x ∈ s.transfers.records ∧ x.id = id := by
  refine ⟨List.mem_of_find?_eq_some h, ?_⟩
  simpa using List.find?_some h

theorem Steady.queue (h : Steady s t) : t.transfers.queue = s.transfers.queue := by
  have e := congrArg (fun x => x.2.1) h.placing
  exact e

theorem Steady.slots (h : Steady s t) (m : MoverId) : (t.mover m).run = (s.mover m).run ∧
    (t.mover m).stack = (s.mover m).stack := by
  have e := congrArg (fun x => x.2.2) h.placing
  simp only [State.placing, allMovers, List.map_cons, List.map_nil, List.cons.injEq, Prod.mk.injEq] at e
  obtain ⟨h1, h2, h3, -⟩ := e
  cases m
  · exact h1
  · exact h2
  · exact h3

/-- Entering LINING examines the record of the run slot at most, and changes no place (R71). -/
theorem enterLining_steady (s : State) (m : MoverId) : s.enterLining m = s ∨
    ∃ x ∈ s.transfers.records, ∃ y : Transfer, y.id = x.id ∧ y.reservation = x.reservation ∧
      Steady (s.updTransfer x.id fun _ => y) (s.enterLining m) := by
  unfold State.enterLining
  cases hx : s.runTransfer m with
  | none => exact .inl rfl
  | some x =>
    right
    have hmem : x ∈ s.transfers.records := by
      rw [runTransfer_eq] at hx
      obtain ⟨id, -, hid⟩ := Option.bind_eq_some_iff.1 hx
      exact (mem_of_transfer hid).1
    obtain ⟨hid, hres⟩ := examine_keeps s x
    refine ⟨x, hmem, if x.reverify then s.examine x else x, ?_, ?_, ?_⟩
    · split
      · exact hid
      · rfl
    · split
      · exact hres
      · rfl
    · dsimp only
      generalize (if x.reverify = true then s.examine x else x) = y
      have g := (Steady.refl (s.updTransfer x.id fun _ => y)).enterPhase m .lining
      split
      · exact g.enterStop m _ _
      · exact (g.writePoints _ _).markGaugeDue m

theorem Arranged.enterLining (g : Arranged out s) (m : MoverId) : Arranged out (s.enterLining m) := by
  rcases enterLining_steady s m with h | ⟨x, hx, y, hid, hres, h⟩
  · rw [h]
    exact g
  · exact h.arranged (g.setRecord hx hid hres)

theorem queue_enterLining (s : State) (m : MoverId) : (s.enterLining m).transfers.queue = s.transfers.queue := by
  rcases enterLining_steady s m with h | ⟨x, -, y, -, -, h⟩
  · rw [h]
  · exact h.queue

/-! ## Assignment and reservation -/

/-- A transfer takes the empty run slot of a mover (R53, R84). -/
theorem Arranged.takeSlot (g : Arranged (id :: out) s) (h : (s.mover m).run = none) : Arranged out (s.takeSlot m id) := by
  have hslot := g.setMover (out' := out) m { s.mover m with run := some id, popping := false } fun a => by
    simp only [Mover.holds, h, Option.toList_some, Option.toList_none, List.nil_append, List.singleton_append,
      List.count_cons]
    omega
  exact ((Steady.refl _).claimTanks _ id).arranged hslot

theorem queue_takeSlot (s : State) (m : MoverId) (id : Nat) : (s.takeSlot m id).transfers.queue = s.transfers.queue := by
  have h := ((Steady.refl (s.setMover m { s.mover m with run := some id, popping := false })).claimTanks
    (match s.transfer? id with
    | some t => t.remaining
    | none => []) id).queue
  have hset : (s.setMover m { s.mover m with run := some id, popping := false }).transfers = s.transfers := by
    cases m <;> rfl
  rw [hset] at h
  exact h

/-- A pending transfer takes the empty run slot of a mover and enters LINING (R53). -/
theorem Arranged.assign (g : Arranged out s) (hq : id ∈ s.transfers.queue) (h : (s.mover m).run = none) :
    Arranged out (s.assign m id) := by
  have hrun : (((s.dequeue id).updTransfer id fun t => { t with reservation := none, assigned := true }).mover m).run =
      none := by
    rw [← h]
    cases m <;> rfl
  exact ((g.withdraw hq).takeSlot hrun).enterLining m

theorem queue_assign (s : State) (m : MoverId) (id : Nat) :
    (s.assign m id).transfers.queue = s.transfers.queue.filter fun x => decide (x ≠ id) := by
  rw [State.assign, queue_enterLining, queue_takeSlot]
  rfl

/-- A pending transfer reserves a mover, which stops (R54). -/
theorem Arranged.reserve (g : Arranged out s) (hq : id ∈ s.transfers.queue) (m : MoverId) :
    Arranged out (s.reserve id m) := by
  refine ((Steady.refl _).enterStop m _ _).arranged (g.updRecords _ (fun x _ => ?_) fun x _ hr => ?_)
  · split <;> rfl
  · split at hr
    · rename_i h
      exact .inr (h ▸ hq)
    · exact .inl hr

theorem queue_reserve (s : State) (id : Nat) (m : MoverId) : (s.reserve id m).transfers.queue = s.transfers.queue :=
  ((Steady.refl (s.updTransfer id fun t => { t with reservation := some m })).enterStop m _ _).queue

/-- A mover found free has an empty run slot (R52). -/
theorem run_of_freeMover {k : MoverKind} (h : s.freeMover k = some m) : (s.mover m).run = none := by
  have hfree := List.find?_some h
  rw [Bool.and_eq_true] at hfree
  obtain ⟨-, hrun, -, -⟩ := (free_iff _).1 hfree.2
  exact hrun

/-- One pending transfer judged: it keeps its place or takes a run slot, and the others stay pending (R51). -/
theorem Arranged.judgePending (g : Arranged out s) (hq : id ∈ s.transfers.queue) : Arranged out (s.judgePending id) ∧
    ∀ a ∈ s.transfers.queue, a ≠ id → a ∈ (s.judgePending id).transfers.queue := by
  unfold State.judgePending
  have still : Arranged out s ∧ ∀ a ∈ s.transfers.queue, a ≠ id → a ∈ s.transfers.queue := ⟨g, fun _ ha _ => ha⟩
  split
  · exact still
  · split
    · exact still
    · split
      · rename_i m hm
        split
        · refine ⟨g.assign hq (run_of_freeMover hm), fun a ha hne => ?_⟩
          rw [queue_assign]
          exact List.mem_filter.2 ⟨ha, decide_eq_true hne⟩
        · exact still
      · split
        · rename_i m _
          refine ⟨g.reserve hq m, fun a ha _ => ?_⟩
          rw [queue_reserve]
          exact ha
        · exact still

/-- The scan judges each pending transfer once (R51). -/
theorem Arranged.judgeAll (l : List Nat) (g : Arranged out s) (hl : l.Nodup) (hq : ∀ a ∈ l, a ∈ s.transfers.queue) :
    Arranged out (l.foldl State.judgePending s) := by
  induction l generalizing s with
  | nil => exact g
  | cons id l ih =>
    rw [List.nodup_cons] at hl
    obtain ⟨hid, hl⟩ := hl
    obtain ⟨g', hkeep⟩ := g.judgePending (hq id List.mem_cons_self)
    exact ih g' hl fun a ha => hkeep a (hq a (List.mem_cons_of_mem _ ha)) fun e => hid (e ▸ ha)

theorem Arranged.scan (g : Arranged out s) : Arranged out s.scan := g.judgeAll _ g.queue_nodup fun _ ha => ha

/-! ## Admission and the end of a record -/

/-- A new record takes a free id and joins the queue (R42, R44). -/
theorem Arranged.enrol (g : Arranged out s) (a : Admission) (h : s.transfers.records.length < 16) :
    Arranged out (s.enrol a) := by
  obtain ⟨h1, h255⟩ := nextId_range (s := s) (by omega)
  obtain ⟨k, -, -, hfree, -⟩ := nextId_spec (s := s) (by omega)
  have hnew : s.nextId ∉ s.ids := by
    intro hin
    obtain ⟨x, hx, hid⟩ := List.mem_map.1 hin
    rw [State.transfer?, Option.isNone_iff_eq_none, List.find?_eq_none] at hfree
    exact hfree x hx (decide_eq_true hid)
  refine Arranged.enqueueNew (id := s.nextId) ?_
  have hids : (s.setTransfers { s.transfers with
      records := s.transfers.records ++ [a.record s.nextId], counter := s.nextId }).ids = s.ids ++ [s.nextId] := by
    simp [State.ids, Admission.record]
  refine ⟨?_, fun b => ?_, fun t ht hr => ?_, ?_, fun t ht => ?_⟩
  · rw [hids]
    refine List.Nodup.append g.nodup (List.nodup_singleton _) ?_
    simpa using hnew
  · have hcount := g.count b
    rw [hids, List.count_append, List.count_cons, List.count_singleton]
    change _ + s.transfers.queue.count b + s.placed.count b = _
    omega
  · rcases List.mem_append.1 ht with ht | ht
    · exact g.reserved t ht hr
    · rw [List.mem_singleton.1 ht] at hr
      exact absurd rfl hr
  · rw [transfers_setTransfers, List.length_append, List.length_singleton]
    omega
  · rcases List.mem_append.1 ht with ht | ht
    · exact g.range t ht
    · rw [List.mem_singleton.1 ht]
      exact ⟨h1, h255⟩

theorem Arranged.admitTransfer (g : Arranged out s) (a : Admission) (scans : Bool) (h : s.transfers.records.length < 16) :
    Arranged out (s.admitTransfer a scans) := by
  unfold State.admitTransfer
  split
  · exact (g.enrol a h).scan
  · exact g.enrol a h

/-- A record is freed: the one place that its id has outside the queue must be given up with it (R41). -/
theorem Arranged.freeRecord (g : Arranged (id :: out) s) : Arranged out (s.freeRecord id) := by
  have hcount := g.count id
  have h1 := List.nodup_iff_count_le_one.1 g.nodup id
  rw [List.count_cons_self] at hcount
  have hids : (s.freeRecord id).ids = s.ids.filter fun a => decide (a ≠ id) := by
    simp only [State.freeRecord, State.dequeue, State.ids, transfers_setTransfers, List.filter_map]
    rfl
  have hqueue : (s.freeRecord id).transfers.queue = s.transfers.queue.filter fun a => decide (a ≠ id) := rfl
  refine ⟨?_, fun a => ?_, fun t ht hr => ?_, ?_, fun t ht => ?_⟩
  · rw [hids]
    exact g.nodup.filter _
  · rw [hids, hqueue]
    change out.count a + _ + s.placed.count a = _
    by_cases ha : a = id
    · subst ha
      have hnot : ∀ l : List Nat, (l.filter fun x => decide (x ≠ a)).count a = 0 := fun l =>
        List.count_eq_zero.2 (by simp)
      rw [hnot, hnot]
      omega
    · have hkeep : ∀ l : List Nat, (l.filter fun x => decide (x ≠ id)).count a = l.count a := fun l =>
        List.count_filter (by simpa using ha)
      have hne : ¬ (id == a) = true := by simpa using fun e : id = a => ha e.symm
      have h := g.count a
      rw [List.count_cons, if_neg hne] at h
      rw [hkeep, hkeep]
      omega
  · obtain ⟨ht, hne⟩ := List.mem_filter.1 ht
    exact List.mem_filter.2 ⟨g.reserved t ht hr, hne⟩
  · exact (List.length_filter_le _ _).trans g.length
  · exact g.range t (List.mem_filter.1 ht).1

end

end Sys2Proof.Machine

/-! # The movers keep every record in one place -/

namespace Sys2Proof.Machine

section
variable {s t : State} {out : List Nat} {id : Nat} {m : MoverId}

/-! ## A record that is freed where it stands -/

/-- A pending record is freed (R63). -/
theorem Arranged.freeQueued (g : Arranged out s) (h : id ∈ s.transfers.queue) : Arranged out (s.freeRecord id) := by
  have e : ((s.dequeue id).updTransfer id fun t => { t with reservation := none, assigned := true }).freeRecord id =
      s.freeRecord id := by
    have hrecords : (s.transfers.records.map fun x : Transfer => if x.id = id then
        { x with reservation := none, assigned := true } else x).filter (fun x => decide (x.id ≠ id)) =
        s.transfers.records.filter fun x => decide (x.id ≠ id) := by
      induction s.transfers.records with
      | nil => rfl
      | cons x l ih => by_cases hx : x.id = id <;> simp_all
    have hqueue : ((s.transfers.queue.filter fun a => decide (a ≠ id)).filter fun a => decide (a ≠ id)) =
        s.transfers.queue.filter fun a => decide (a ≠ id) := by simp
    change s.setTransfers ⟨_, _, _⟩ = s.setTransfers ⟨_, _, _⟩
    rw [← hrecords]
    exact congrArg (fun q => s.setTransfers ⟨_, q, _⟩) hqueue
  rw [← e]
  exact (g.withdraw h).freeRecord

theorem mover_freeRecord (s : State) (id : Nat) (m : MoverId) : (s.freeRecord id).mover m = s.mover m := by cases m <;> rfl

theorem freeRecord_setMover (s : State) (m : MoverId) (x : Mover) (id : Nat) :
    (s.freeRecord id).setMover m x = (s.setMover m x).freeRecord id := by cases m <;> rfl

/-- The transfer of a run slot leaves it (R57). -/
theorem Arranged.leaveSlot (g : Arranged out s) (h : (s.mover m).run = some id) :
    Arranged (id :: out) (s.leaveSlot m id) := by
  have hslot := g.setMover (out' := id :: out) m { s.mover m with run := none } fun a => by
    simp only [Mover.holds, h, Option.toList_some, Option.toList_none, List.nil_append, List.singleton_append,
      List.count_cons]
    omega
  exact ((Steady.refl _).releaseClaims id).arranged hslot

/-- The transfer of a run slot is freed with its slot (R81, R88). -/
theorem Arranged.freeRunning (g : Arranged out s) (h : (s.mover m).run = some id) :
    Arranged out ((s.freeRecord id).leaveSlot m id) := by
  have hslot := g.setMover (out' := id :: out) m { s.mover m with run := none } fun a => by
    simp only [Mover.holds, h, Option.toList_some, Option.toList_none, List.nil_append, List.singleton_append,
      List.count_cons]
    omega
  have hfree := hslot.freeRecord
  rw [← freeRecord_setMover, ← mover_freeRecord s id] at hfree
  exact ((Steady.refl _).releaseClaims id).arranged hfree

/-- A stacked transfer leaves the stack (R61). -/
theorem Arranged.unstack (g : Arranged out s) (h : id ∈ (s.mover m).stack) : Arranged (id :: out) (s.unstack m id) := by
  have hcount := g.count id
  have h1 := List.nodup_iff_count_le_one.1 g.nodup id
  have hin := List.count_pos_iff.2 h
  have hplaced : (s.mover m).holds.count id ≤ s.placed.count id := by
    rw [count_placed]
    cases m <;> omega
  rw [Mover.holds, List.count_append] at hplaced
  refine g.setMover m _ fun a => ?_
  simp only [Mover.holds, List.count_append, List.count_cons]
  by_cases ha : a = id
  · subst ha
    have hnot : ((s.mover m).stack.filter fun x => decide (x ≠ a)).count a = 0 := List.count_eq_zero.2 (by simp)
    rw [hnot]
    simp only [beq_self_eq_true, if_true]
    omega
  · have hkeep : ((s.mover m).stack.filter fun x => decide (x ≠ id)).count a = (s.mover m).stack.count a :=
      List.count_filter (by simpa using ha)
    have hne : ¬ (id == a) = true := by simpa using fun e : id = a => ha e.symm
    rw [hkeep, if_neg hne]
    omega

/-! ## Pops and reservations (R56, R83) -/

theorem Arranged.ite {a b : State} (c : Prop) [Decidable c] (ha : Arranged out a) (hb : Arranged out b) :
    Arranged out (if c then a else b) := by
  split
  · exact ha
  · exact hb

theorem Arranged.resume (g : Arranged (id :: out) s) (h : (s.mover m).run = none) : Arranged out (s.resume m id) :=
  (g.takeSlot h).enterLining m

/-- What a mover with an empty run slot pops goes back to pending, but one transfer that it may resume (R83). -/
theorem Arranged.popTimes (n : Nat) (g : Arranged out s) (h : (s.mover m).run = none) :
    Arranged out (State.popTimes n s m) := by
  induction n generalizing s with
  | zero =>
    unfold State.popTimes
    split
    · exact (((Steady.refl s).enterPhase m .idle).setMover m _ (by rfl) (by rfl)).arranged g
    · exact g
    · rename_i h0 _; exact absurd h0 (by simp)
  | succ n ih =>
    unfold State.popTimes
    split
    · exact (((Steady.refl s).enterPhase m .idle).setMover m _ (by rfl) (by rfl)).arranged g
    · rename_i h0 _; exact absurd h0 (by simp)
    · rename_i n' id rest hn hstack
      obtain rfl := Nat.succ.inj hn
      have hpop : (s.mover m).stack = rest.reverse ++ [id] := by
        rw [← List.reverse_reverse (s.mover m).stack, hstack, List.reverse_cons]
      have gpop : Arranged (id :: out) (s.setMover m { s.mover m with stack := rest.reverse }) := g.setMover m _ fun a => by
        simp only [Mover.holds, hpop, List.count_append, List.count_cons, List.count_nil]
        omega
      have hrun : ((s.setMover m { s.mover m with stack := rest.reverse }).mover m).run = none := by
        rw [mover_setMover_self]
        exact h
      refine Arranged.ite _ (gpop.resume hrun) (ih gpop.enqueueReturned ?_)
      rw [mover_enqueueReturned]
      exact hrun

theorem Arranged.pop (g : Arranged out s) (h : (s.mover m).run = none) : Arranged out (s.pop m) := by
  refine Arranged.popTimes _ (((Steady.refl s).setMover m { s.mover m with popping := true } rfl rfl).arranged g) ?_
  rw [mover_setMover_self]
  exact h

/-- The transfer that holds a reservation is pending (R54). -/
theorem Arranged.mem_queue_of_reservedFor (g : Arranged out s) {x : Transfer} (h : s.reservedFor m = some x) :
    x.id ∈ s.transfers.queue := by
  have hres : x.reservation = some m := by simpa using List.find?_some h
  exact g.reserved x (List.mem_of_find?_eq_some h) (by rw [hres]; simp)

theorem Arranged.judgeReservation (g : Arranged out s) (h : (s.mover m).run = none) :
    Arranged out (s.judgeReservation m) := by
  unfold State.judgeReservation
  split
  · exact g.pop h
  · rename_i x hx
    split
    · exact g.assign (g.mem_queue_of_reservedFor hx) h
    · refine (g.dropReservation m).pop ?_
      cases m <;> exact h

/-! ## The stack returned, and the halt (R65, R87) -/

theorem Arranged.returnStack (g : Arranged out s) (m : MoverId) : Arranged out (s.returnStack m) := by
  refine Arranged.enqueueAll _ (g.setMover m _ fun a => ?_)
  simp only [Mover.holds, List.count_append, List.append_nil]
  omega

end

end Sys2Proof.Machine

/-! # The halt stop (R65, R90, R151, R161) -/

namespace Sys2Proof.Machine

/-! ## The transfers end -/

/-- A mover with its run slot and its stack emptied by the halt (R65). -/
def Mover.emptied (x : Mover) : Mover :=
  { x with run := none, stack := [], last := x.run.elim x.last fun id => some (id, .halted) }

/-- A step whose running pairing with one of the transfers is gone (R142). -/
def PourStep.unpairedFrom (ids : List Nat) (x : PourStep) : PourStep :=
  if ∃ id ∈ ids, x.pairing = .running id then { x with pairing := .unpaired } else x

/-- No drive point is commanded ON. -/
def State.AllOff (s : State) : Prop := ∀ a, (roleOf s.parts a).isDrive = true → (s.drive a).on = false

section
variable {s : State} {m : MoverId}

theorem haltSlots_eq (s : State) (m : MoverId) : s.haltSlots m = s.setMover m (s.mover m).emptied := by
  have hlast : (match (s.mover m).run with
      | some id => some (id, TransferOutcome.halted)
      | none => (s.mover m).last) = (s.mover m).run.elim (s.mover m).last fun id => some (id, .halted) := by
    cases (s.mover m).run <;> rfl
  rw [Mover.emptied, ← hlast]
  rfl

theorem haltAllSlots_eq (s : State) : allMovers.foldl State.haltSlots s =
    s.setMovers ⟨s.movers.m1.emptied, s.movers.m2.emptied, s.movers.m3.emptied⟩ := by
  simp only [allMovers, List.foldl_cons, List.foldl_nil, haltSlots_eq]
  rfl

/-- A claimed tank is released as the halt begins (R65). -/
def State.haltRelease (s : State) (n : Nat) : State := if (s.tank n).claim.isSome then s.releaseTank n else s

/-- The release of a tank changes the tank and a command. -/
theorem haltRelease_frame (s : State) (n : Nat) : s.haltRelease n =
    (s.setTankTable { s.tankTable with tanks := (s.haltRelease n).tankTable.tanks }).setLoop
      { s.loop with drive := (s.haltRelease n).loop.drive } := by
  unfold State.haltRelease
  split
  · unfold State.releaseTank
    rw [writePoint_frame]
    rfl
  · rfl

theorem haltReleases_frame (l : List Nat) (s : State) : l.foldl State.haltRelease s =
    (s.setTankTable { s.tankTable with tanks := (l.foldl State.haltRelease s).tankTable.tanks }).setLoop
      { s.loop with drive := (l.foldl State.haltRelease s).loop.drive } := by
  induction l generalizing s with
  | nil => rfl
  | cons n l ih =>
    rw [List.foldl_cons]
    refine (ih (s.haltRelease n)).trans ?_
    generalize l.foldl State.haltRelease (s.haltRelease n) = u
    rw [haltRelease_frame s n]
    rfl

/-- With all points OFF the release of a tank writes nothing (R25). -/
theorem haltRelease_of_allOff (h : s.AllOff) (n : Nat) :
    s.haltRelease n = s.setTank n { s.tank n with claim := none } ∨ s.haltRelease n = s ∧ (s.tank n).claim = none := by
  unfold State.haltRelease
  split
  · left
    unfold State.releaseTank State.writePoint
    dsimp only
    split
    · rfl
    · rename_i hr
      have hrole : (roleOf s.parts (tankValve s.parts n)).isDrive = true := by
        rw [Bool.not_eq_true, Bool.not_eq_false'] at hr
        exact hr
      have hoff : ((s.setTank n { s.tank n with claim := none }).drive (tankValve s.parts n)).on = false := h _ hrole
      rw [Bool.false_and, if_neg (by simp), if_pos hoff]
  · rename_i hc
    exact .inr ⟨rfl, by simpa using hc⟩

/-- With all points OFF every claim goes, and no command changes (R65). -/
theorem haltReleases_of_allOff (l : List Nat) (hl : ∀ n ∈ l, 1 ≤ n ∧ n ≤ 24) (h : s.AllOff) :
    (l.foldl State.haltRelease s).loop = s.loop ∧ ∀ n, 1 ≤ n → n ≤ 24 →
      (l.foldl State.haltRelease s).tank n = if n ∈ l then { s.tank n with claim := none } else s.tank n := by
  induction l generalizing s with
  | nil => exact ⟨rfl, fun n _ _ => by simp⟩
  | cons k l ih =>
    obtain ⟨hk1, hk24⟩ := hl k List.mem_cons_self
    have hloop : (s.haltRelease k).loop = s.loop ∧ (s.haltRelease k).parts = s.parts := by
      rcases haltRelease_of_allOff h k with e | ⟨e, -⟩ <;> rw [e] <;> exact ⟨rfl, rfl⟩
    have htank : ∀ n, 1 ≤ n → n ≤ 24 → (s.haltRelease k).tank n =
        if n = k then { s.tank n with claim := none } else s.tank n := by
      intro n h1 h24
      rcases haltRelease_of_allOff h k with e | ⟨e, hc⟩
      · rw [e, tank_setTank]
        by_cases hn : n = k
        · subst hn
          rw [if_pos ⟨rfl, by omega⟩, if_pos rfl]
        · rw [if_neg (by omega), if_neg hn]
      · rw [e]
        split
        · rename_i hn
          rw [hn, ← hc]
        · rfl
    have hoff : (s.haltRelease k).AllOff := by
      intro a ha
      rw [hloop.2] at ha
      rw [State.drive, hloop.1]
      exact h a ha
    obtain ⟨hrestLoop, hrest⟩ := ih (fun n hn => hl n (List.mem_cons_of_mem _ hn)) hoff
    rw [List.foldl_cons]
    refine ⟨hrestLoop.trans hloop.1, fun n h1 h24 => (hrest n h1 h24).trans ?_⟩
    rw [htank n h1 h24]
    by_cases hn : n = k
    · subst hn
      simp
    · simp [hn]

theorem unpairedFrom_cons (id : Nat) (ids : List Nat) (x : PourStep) :
    PourStep.unpairedFrom ids { x with pairing := x.pairing.freed id .halted } = x.unpairedFrom (id :: ids) := by
  unfold PourStep.unpairedFrom Pairing.freed
  by_cases hx : x.pairing = .running id <;> simp [hx]

/-- The notices of transfers that ended HALTED (R142). -/
theorem noticeHalted_eq (ids : List Nat) (s : State) : ids.foldl (fun s id => s.noticeFreed id .halted) s =
    s.setPour { s.pour with steps := s.pour.steps.map (PourStep.unpairedFrom ids) } := by
  induction ids generalizing s with
  | nil =>
    have hid : PourStep.unpairedFrom [] = id := by
      funext x
      simp [PourStep.unpairedFrom]
    rw [hid, List.map_id]
    rfl
  | cons id ids ih =>
    have hmap : ((s.pour.steps.map fun x => { x with pairing := x.pairing.freed id .halted }).map
        (PourStep.unpairedFrom ids)) = s.pour.steps.map (PourStep.unpairedFrom (id :: ids)) := by
      rw [List.map_map]
      exact List.map_congr_left fun x _ => unpairedFrom_cons id ids x
    rw [List.foldl_cons, ih, ← hmap]
    rfl

/-- Every transfer ends HALTED (R65). -/
theorem haltTransfers_eq (s : State) : s.haltTransfers =
    (((((s.setTankTable { s.tankTable with tanks := ((numbers 24).foldl State.haltRelease s).tankTable.tanks }).setLoop
      { s.loop with drive := ((numbers 24).foldl State.haltRelease s).loop.drive }).setMovers
      ⟨s.movers.m1.emptied, s.movers.m2.emptied, s.movers.m3.emptied⟩).setTransfers ⟨[], [], s.transfers.counter⟩).setPour
      { s.pour with steps := s.pour.steps.map (PourStep.unpairedFrom s.ids) }) := by
  have hrelease : (fun s t => if (s.tank t).claim.isSome then s.releaseTank t else s) = State.haltRelease := rfl
  have hframe := haltReleases_frame (numbers 24) s
  unfold State.haltTransfers
  dsimp only
  rw [hrelease, noticeHalted_eq, haltAllSlots_eq]
  generalize (numbers 24).foldl State.haltRelease s = u at hframe ⊢
  rw [hframe]
  rfl

/-! ## The movers stop -/

/-- A mover as the halt stop takes it (R90). -/
def Mover.halting (now : Nat) (x : Mover) : Mover :=
  match x.phase with
  | .faulted => { x with popping := false }
  | .stopping _ _ _ => { x with phase := .stopping .halt none .valves, popping := false, gaugeDue := false }
  | _ => { x with
      phase := .stopping .halt none .valves, popping := false, timer := now, flow := none, gaugeDue := false }

/-- The fault cause that a mover keeps through the halt stop (R161). -/
def Mover.keptCause (x : Mover) (c : Option MoverCause) : Option MoverCause := if x.phase = .faulted then c else none

theorem haltMover_eq (s : State) (m : MoverId) : s.haltMover m =
    (s.setMover m ((s.mover m).halting s.now)).setMoverCause m ((s.mover m).keptCause (s.moverCause m)) := by
  unfold State.haltMover Mover.halting Mover.keptCause
  cases hp : (s.mover m).phase with
  | faulted => cases m <;> simp [hp, State.moverCause] <;> rfl
  | idle | lining | starting | running | switching _ | stopping _ _ _ => simp [hp]

/-- The records of the movers and their fault causes change one mover after another. -/
theorem setMover_setMoverCause_all (f : Nat → Mover → Mover) (k : Mover → Option MoverCause → Option MoverCause) (s : State) :
    allMovers.foldl (fun s m => (s.setMover m (f s.now (s.mover m))).setMoverCause m (k (s.mover m) (s.moverCause m))) s =
      (s.setMovers ⟨f s.now s.movers.m1, f s.now s.movers.m2, f s.now s.movers.m3⟩).setFaults
        { s.faults with
          cause1 := k s.movers.m1 s.faults.cause1
          cause2 := k s.movers.m2 s.faults.cause2
          cause3 := k s.movers.m3 s.faults.cause3 } := rfl

theorem haltMovers_eq (s : State) : allMovers.foldl State.haltMover s =
    (s.setMovers ⟨s.movers.m1.halting s.now, s.movers.m2.halting s.now, s.movers.m3.halting s.now⟩).setFaults
      { s.faults with
        cause1 := s.movers.m1.keptCause s.faults.cause1
        cause2 := s.movers.m2.keptCause s.faults.cause2
        cause3 := s.movers.m3.keptCause s.faults.cause3 } := by
  rw [funext₂ haltMover_eq]
  exact setMover_setMoverCause_all Mover.halting Mover.keptCause s

/-! ## The plan -/

/-- What the halt does to each step (R151). -/
def haltEvent : StepEvent where
  change x :=
    if x.state = .granted ∨ x.state = .pouring then { x with state := .held, cause := some .halt, granted := none } else x
  raises x := decide (x.state = .granted ∨ x.state = .pouring)
  stops x := decide (x.state = .granted)
  speaks x := decide (x.state = .granted ∨ x.state = .pouring)
  line x := .pour .HO [fnat x.id, .word "HALT"]

theorem haltEvent_id (y : PourStep) : (haltEvent.change y).id = y.id := by
  simp only [haltEvent]
  split <;> rfl

theorem haltStep_apply {x : PourStep} (h : s.OnlyStep x) : s.haltStep x = haltEvent.apply s x := by
  unfold State.haltStep
  cases hx : x.state with
  | granted | pouring =>
    have hchange : haltEvent.change x = { x with state := .held, cause := some .halt, granted := none } := by
      simp [haltEvent, hx]
    rw [StepEvent.apply, OnlyStep.map h (g := fun y => { y with state := .held, cause := some .halt, granted := none }) hchange]
    simp [haltEvent, hx]
    rfl
  | planned | ready | held =>
    exact (apply_still h (by simp [haltEvent, hx]) (by simp [haltEvent, hx]) (by simp [haltEvent, hx])
      (by simp [haltEvent, hx])).symm

/-- The halt reaches the plan, which names each step once (R151). -/
theorem haltPour_eq (h : (s.pour.steps.map fun x => x.id).Nodup) :
    let opened := s.pour.steps.filter fun x => decide (x.state = .granted ∨ x.state = .pouring)
    let said := opened.foldl (fun u x => u.shoreSend .state (.pour .HO [fnat x.id, .word "HALT"])) s
    s.haltPour = (((s.setAttention (opened.foldl (fun a x => a.raise (.stepHeld x.id)) s.attention)).setCond
      (if s.pour.clearance = none then s else s.withdrawPrediction).cond).setPour
        { s.pour with
          steps := s.pour.steps.map haltEvent.change
          clearance := none
          grantTimer := if ∃ x ∈ s.pour.steps, x.state = .granted then none else s.pour.grantTimer }).setShore
      (match s.pour.clearance with
        | none => said
        | some id => said.shoreReply (.pour .HO [fnat id, .word "HALT"])).shore := by
  intro opened said
  have hfold := foldl_steps haltEvent_id (fun u x hx => haltStep_apply hx) h
  have htimer : (if s.pour.steps.any haltEvent.stops = true then none else s.pour.grantTimer) =
      if ∃ x ∈ s.pour.steps, x.state = .granted then none else s.pour.grantTimer := by
    simp only [haltEvent, List.any_eq_true, decide_eq_true_iff]
  rw [htimer] at hfold
  change (s.pour.steps.foldl State.haltStep s).endClearanceHold "HALT" = _
  refine (endClearanceHold_after (s := s) (said := said) ?_ ?_ ?_ "HALT").trans ?_
  · rw [hfold]; rfl
  · rw [hfold]; rfl
  · rw [hfold]; rfl
  · rw [hfold]; rfl

end

end Sys2Proof.Machine

namespace Sys2Proof.Machine

section
variable {s : State}

/-- All drive points are written OFF as the halt stop begins (R26, R161). -/
def State.haltOff (s : State) : State := (s.setFaults { s.faults with state := .haltStopping }).writeAllOff

/-- The halt stop up to the plan: the transfers have ended and the movers stop. -/
def State.haltBegun (s : State) : State := allMovers.foldl State.haltMover s.haltOff.haltTransfers

theorem haltStop_begun (s : State) : s.haltStop = (s.haltBegun.haltPour.raise .halt).setFaults
    { (s.haltBegun.haltPour.raise .halt).faults with confirmation := some (s.haltBegun.haltPour.raise .halt).now } := rfl

theorem writeAllOff_eq (s : State) : s.writeAllOff = s.writePoints ((drivePoints s.parts).map Prod.fst) false := by
  rw [State.writeAllOff, State.writePoints, List.foldl_map]

theorem haltOff_frame (s : State) : s.haltOff =
    (s.setFaults { s.faults with state := .haltStopping }).setLoop { s.loop with drive := s.haltOff.loop.drive } := by
  rw [State.haltOff, writeAllOff_eq]
  exact writePoints_frame _ _ _

/-- What the halt stop is up to the plan. -/
theorem haltBegun_eq (s : State) : s.haltBegun =
    ((((((s.setTankTable
      { s.tankTable with tanks := ((numbers 24).foldl State.haltRelease s.haltOff).tankTable.tanks }).setLoop
      { s.loop with drive := ((numbers 24).foldl State.haltRelease s.haltOff).loop.drive }).setMovers
      ⟨s.movers.m1.emptied.halting s.now, s.movers.m2.emptied.halting s.now, s.movers.m3.emptied.halting s.now⟩).setTransfers
      ⟨[], [], s.transfers.counter⟩).setPour { s.pour with steps := s.pour.steps.map (PourStep.unpairedFrom s.ids) }).setFaults
      { s.faults with
        state := .haltStopping
        cause1 := s.movers.m1.keptCause s.faults.cause1
        cause2 := s.movers.m2.keptCause s.faults.cause2
        cause3 := s.movers.m3.keptCause s.faults.cause3 }) := by
  have hended : s.haltOff.haltTransfers =
      (((((s.setFaults { s.faults with state := .haltStopping }).setTankTable
        { s.tankTable with tanks := ((numbers 24).foldl State.haltRelease s.haltOff).tankTable.tanks }).setLoop
        { s.loop with drive := ((numbers 24).foldl State.haltRelease s.haltOff).loop.drive }).setMovers
        ⟨s.movers.m1.emptied, s.movers.m2.emptied, s.movers.m3.emptied⟩).setTransfers
        ⟨[], [], s.transfers.counter⟩).setPour
        { s.pour with steps := s.pour.steps.map (PourStep.unpairedFrom s.ids) } := by
    have hframe := haltOff_frame s
    rw [haltTransfers_eq]
    generalize (numbers 24).foldl State.haltRelease s.haltOff = r
    generalize s.haltOff = u at hframe ⊢
    rw [hframe]
    rfl
  rw [State.haltBegun, hended, haltMovers_eq]
  generalize (numbers 24).foldl State.haltRelease s.haltOff = r
  rfl

/-! ## The commands and the tanks -/

theorem drive_writePoints_off (l : List Nat) (s : State) (a : Nat) : (s.writePoints l false).drive a =
    if a ∈ l ∧ a < 64 ∧ (roleOf s.parts a).isDrive = true ∧ (s.drive a).on = true then ⟨false, .awaiting, none⟩
    else s.drive a := by
  induction l generalizing s with
  | nil => simp [State.writePoints]
  | cons b l ih =>
    change ((s.writePoint b false).writePoints l false).drive a = _
    have hparts : (s.writePoint b false).parts = s.parts := by
      rw [writePoint_frame]
      rfl
    rw [ih, hparts, writePoint_off]
    by_cases hb : b = a
    · subst hb
      by_cases h : b < 64 ∧ (roleOf s.parts b).isDrive = true ∧ (s.drive b).on = true
      · simp [h]
      · by_cases hl : b ∈ l <;> simp [h, hl]
    · have hb' : ¬ a = b := fun e => hb e.symm
      simp [hb, hb']

theorem drive_haltOff (s : State) {a : Nat} (ha : a < 64) : s.haltOff.drive a =
    if (roleOf s.parts a).isDrive = true ∧ (s.drive a).on = true then ⟨false, .awaiting, none⟩ else s.drive a := by
  rw [State.haltOff, writeAllOff_eq, drive_writePoints_off]
  refine if_congr ?_ rfl rfl
  change _ ∈ (drivePoints s.parts).map Prod.fst ∧ _ ∧ (roleOf s.parts a).isDrive = true ∧ (s.drive a).on = true ↔ _
  rw [drivePoints_mem]
  exact ⟨fun ⟨_, _, h⟩ => h, fun ⟨hr, ho⟩ => ⟨⟨ha, hr⟩, ha, hr, ho⟩⟩

theorem haltOff_allOff (s : State) : s.haltOff.AllOff := by
  intro a hr
  have hparts : s.haltOff.parts = s.parts := by
    rw [haltOff_frame]
    rfl
  rw [hparts] at hr
  by_cases ha : a < 64
  · rw [drive_haltOff s ha]
    split
    · rfl
    · rename_i h
      by_contra hon
      exact h ⟨hr, by simpa using hon⟩
  · by_contra hon
    exact ha (lt_of_on (by simpa using hon))

theorem mem_numbers {k n : Nat} : n ∈ numbers k ↔ 1 ≤ n ∧ n ≤ k := by
  simp only [numbers, List.mem_map, List.mem_range]
  constructor
  · rintro ⟨j, hj, rfl⟩
    omega
  · exact fun ⟨h1, hk⟩ => ⟨n - 1, by omega, by omega⟩

/-- The commands and the claims as the halt leaves them (R26, R65). -/
theorem haltReleased_facts (s : State) :
    (∀ a < 64, ((numbers 24).foldl State.haltRelease s.haltOff).drive a =
      if (roleOf s.parts a).isDrive = true ∧ (s.drive a).on = true then ⟨false, .awaiting, none⟩ else s.drive a) ∧
      ∀ n, 1 ≤ n → n ≤ 24 → ((numbers 24).foldl State.haltRelease s.haltOff).tank n = { s.tank n with claim := none } := by
  obtain ⟨hloop, htank⟩ := haltReleases_of_allOff (numbers 24) (fun _ h => mem_numbers.1 h) (haltOff_allOff s)
  refine ⟨fun a ha => ?_, fun n h1 h24 => ?_⟩
  · rw [State.drive, hloop]
    exact drive_haltOff s ha
  · have hsame : s.haltOff.tank n = s.tank n := by
      rw [haltOff_frame]
      rfl
    rw [htank n h1 h24, if_pos (mem_numbers.2 ⟨h1, h24⟩), hsame]

/-! ## The halt stop as a whole -/

/-- What the halt makes of a step (R142, R151). -/
def PourStep.halted (ids : List Nat) (x : PourStep) : PourStep := haltEvent.change (x.unpairedFrom ids)

theorem unpairedFrom_id (ids : List Nat) (x : PourStep) : (x.unpairedFrom ids).id = x.id := by
  unfold PourStep.unpairedFrom
  split <;> rfl

theorem unpairedFrom_state (ids : List Nat) (x : PourStep) : (x.unpairedFrom ids).state = x.state := by
  unfold PourStep.unpairedFrom
  split <;> rfl

end

end Sys2Proof.Machine

/-! # The halt stop as a whole (O34) -/

namespace Sys2Proof.Machine

section
variable {s : State}

/-- The steps that the halt holds keep their ids and states through the notices. -/
theorem opened_unpairedFrom (ids : List Nat) (l : List PourStep) :
    (l.map (PourStep.unpairedFrom ids)).filter (fun x => decide (x.state = .granted ∨ x.state = .pouring)) =
      (l.filter fun x => decide (x.state = .granted ∨ x.state = .pouring)).map (PourStep.unpairedFrom ids) := by
  rw [List.filter_map]
  congr 2
  funext x
  rw [Function.comp, unpairedFrom_state]

theorem steps_haltBegun (s : State) :
    s.haltBegun.pour = { s.pour with steps := s.pour.steps.map (PourStep.unpairedFrom s.ids) } := by
  have h := haltBegun_eq s
  generalize (numbers 24).foldl State.haltRelease s.haltOff = r at h
  rw [h]
  rfl

theorem cond_haltBegun (s : State) : s.haltBegun.cond = s.cond := by
  have h := haltBegun_eq s
  generalize (numbers 24).foldl State.haltRelease s.haltOff = r at h
  rw [h]
  rfl

theorem shore_haltBegun (s : State) : s.haltBegun.shore = s.shore := by
  have h := haltBegun_eq s
  generalize (numbers 24).foldl State.haltRelease s.haltOff = r at h
  rw [h]
  rfl

theorem attention_haltBegun (s : State) : s.haltBegun.attention = s.attention := by
  have h := haltBegun_eq s
  generalize (numbers 24).foldl State.haltRelease s.haltOff = r at h
  rw [h]
  rfl

/-- HO with cause HALT has been sent for each of the steps (R151). -/
def State.haltSaid (s : State) (l : List PourStep) : State :=
  l.foldl (fun u x => u.shoreSend .state (.pour .HO [fnat x.id, .word "HALT"])) s

/-- The Shore Port once the halt has told it of the steps and of a clearance. -/
def State.haltPort (s : State) (l : List PourStep) : ShorePort :=
  (match s.pour.clearance with
    | none => s.haltSaid l
    | some id => (s.haltSaid l).shoreReply (.pour .HO [fnat id, .word "HALT"])).shore

/-- The steps that the halt holds (R151). -/
def State.opened (s : State) : List PourStep :=
  s.pour.steps.filter fun x => decide (x.state = .granted ∨ x.state = .pouring)

/-- The halt reaches a plan that names each step once, whose pairings have gone (R142, R151). -/
theorem haltPour_begun (h : (s.pour.steps.map fun x => x.id).Nodup) :
    s.haltBegun.haltPour = (((s.haltBegun.setAttention
      (s.opened.foldl (fun a x => a.raise (.stepHeld x.id)) s.attention)).setCond
      (if s.pour.clearance = none then s else s.withdrawPrediction).cond).setPour
        { s.pour with
          steps := s.pour.steps.map (PourStep.halted s.ids)
          clearance := none
          grantTimer := if ∃ x ∈ s.pour.steps, x.state = .granted then none else s.pour.grantTimer }).setShore (s.haltPort s.opened) := by
  have hpour := steps_haltBegun s
  have hcond := cond_haltBegun s
  have hport := shore_haltBegun s
  have hattention := attention_haltBegun s
  generalize s.haltBegun = u at hpour hcond hport hattention ⊢
  have hids : (u.pour.steps.map fun x => x.id).Nodup := by
    rw [hpour, List.map_map]
    refine Eq.mp (congrArg List.Nodup (List.map_congr_left fun x _ => ?_)) h
    exact (unpairedFrom_id s.ids x).symm
  have hsaid : (u.haltSaid (s.opened.map (PourStep.unpairedFrom s.ids))).shore = (s.haltSaid s.opened).shore := by
    rw [State.haltSaid, State.haltSaid, shore_foldl_shoreSend, hport, List.foldl_map]
    simp only [unpairedFrom_id]
    exact (shore_foldl_shoreSend s.opened (fun x => .pour .HO [fnat x.id, .word "HALT"]) s).symm
  have hwithdrawn : (if s.pour.clearance = none then u else u.withdrawPrediction).cond =
      (if s.pour.clearance = none then s else s.withdrawPrediction).cond := by
    rw [withdrawPrediction_cond u hcond]
    split
    · exact hcond
    · rfl
  have htimer : (∃ x ∈ s.pour.steps.map (PourStep.unpairedFrom s.ids), x.state = .granted) ↔
      ∃ x ∈ s.pour.steps, x.state = .granted := by
    simp only [List.mem_map, exists_exists_and_eq_and, unpairedFrom_state]
  have hshore : u.haltPort (s.opened.map (PourStep.unpairedFrom s.ids)) = s.haltPort s.opened := by
    rw [State.haltPort, State.haltPort, hpour]
    cases s.pour.clearance with
    | none => exact hsaid
    | some id => exact shoreReply_shore hsaid _
  have hopened : u.opened = s.opened.map (PourStep.unpairedFrom s.ids) := by
    rw [State.opened, hpour]
    exact opened_unpairedFrom _ _
  have h := haltPour_eq hids
  change u.haltPour = (((u.setAttention (u.opened.foldl (fun a x => a.raise (.stepHeld x.id)) u.attention)).setCond
    _).setPour _).setShore (u.haltPort u.opened) at h
  rw [h, hopened, hshore, ← hwithdrawn]
  simp only [hpour, hattention, List.foldl_map, unpairedFrom_id, List.map_map, htimer]
  rfl

/-- The halt stop of a plan that names each step once. -/
theorem haltStop_eq (h : (s.pour.steps.map fun x => x.id).Nodup) :
    s.haltStop = ((((((((s.setAttention
      ((s.opened.foldl (fun a x => a.raise (.stepHeld x.id)) s.attention).raise .halt)).setLoop
        { s.loop with drive := ((numbers 24).foldl State.haltRelease s.haltOff).loop.drive }).setTankTable
        { s.tankTable with tanks := ((numbers 24).foldl State.haltRelease s.haltOff).tankTable.tanks }).setTransfers
        ⟨[], [], s.transfers.counter⟩).setMovers ⟨s.movers.m1.emptied.halting s.now, s.movers.m2.emptied.halting s.now,
          s.movers.m3.emptied.halting s.now⟩).setCond (if s.pour.clearance = none then s else s.withdrawPrediction).cond).setPour
        { s.pour with
          steps := s.pour.steps.map (PourStep.halted s.ids)
          clearance := none
          grantTimer := if ∃ x ∈ s.pour.steps, x.state = .granted then none else s.pour.grantTimer }).setFaults
        { s.faults with
          state := .haltStopping
          confirmation := some s.now
          cause1 := s.movers.m1.keptCause s.faults.cause1
          cause2 := s.movers.m2.keptCause s.faults.cause2
          cause3 := s.movers.m3.keptCause s.faults.cause3 }).setShore (s.haltPort s.opened) := by
  have hpour := haltPour_begun h
  have hbegun := haltBegun_eq s
  have hlast (u : State) (a : AttentionSet) (c : ConditionUnit) (x : PourPlan) (p : ShorePort) :
      (((((u.setAttention a).setCond c).setPour x).setShore p).raise .halt).setFaults
        { (((((u.setAttention a).setCond c).setPour x).setShore p).raise .halt).faults with
          confirmation := some (((((u.setAttention a).setCond c).setPour x).setShore p).raise .halt).now } =
      ((((u.setAttention (a.raise .halt)).setCond c).setPour x).setShore p).setFaults
        { u.faults with confirmation := some u.now } := rfl
  rw [haltStop_begun, hpour, hlast]
  generalize (s.opened.foldl (fun a x => a.raise (.stepHeld x.id)) s.attention) = a
  generalize s.haltPort s.opened = p
  generalize (if s.pour.clearance = none then s else s.withdrawPrediction).cond = c
  generalize (numbers 24).foldl State.haltRelease s.haltOff = r at hbegun ⊢
  rw [hbegun]
  rfl

/-- A mover after the halt stop (R65, R90, R161). -/
theorem halting_emptied (now : Nat) (x : Mover) : x.emptied.halting now =
    let y : Mover := { x with
      run := none, stack := [], popping := false, last := x.run.elim x.last fun id => some (id, .halted) }
    match x.phase with
    | .faulted => y
    | .stopping _ _ _ => { y with phase := .stopping .halt none .valves, gaugeDue := false }
    | _ => { y with phase := .stopping .halt none .valves, timer := now, flow := none, gaugeDue := false } := by
  obtain ⟨phase, run, stack, popping, timer, flow, last, gaugeDue, quiet⟩ := x
  cases phase <;> rfl

/-- A step after the halt stop (R142, R151). -/
theorem halted_eq (records : List Transfer) (x : PourStep) : x.halted (records.map Transfer.id) =
    let y := if ∃ r ∈ records, x.pairing = .running r.id then { x with pairing := .unpaired } else x
    if x.state = .granted ∨ x.state = .pouring then { y with state := .held, cause := some .halt, granted := none }
    else y := by
  have hpaired : (∃ id ∈ records.map Transfer.id, x.pairing = .running id) ↔
      ∃ r ∈ records, x.pairing = .running r.id := by
    simp only [List.mem_map, exists_exists_and_eq_and]
  have hchange : x.halted (records.map Transfer.id) = if x.state = .granted ∨ x.state = .pouring then
      { x.unpairedFrom (records.map Transfer.id) with state := .held, cause := some .halt, granted := none }
      else x.unpairedFrom (records.map Transfer.id) := by
    rw [← unpairedFrom_state (records.map Transfer.id) x]
    rfl
  rw [hchange, PourStep.unpairedFrom]
  simp only [hpaired]

end

end Sys2Proof.Machine

/-! # The causes (R158 to R160) -/

namespace Sys2Proof.Machine

section
variable {s : State}

theorem hasCause_iff (f : FaultSupervisor) (c : Cause) : f.hasCause c = true ↔ c ∈ f.causes := by
  simp [FaultSupervisor.hasCause]

theorem addCause_eq (s : State) (c : Cause) : s.addCause c = s.setFaults { s.faults with
    causes := if c ∈ s.faults.causes then s.faults.causes else s.faults.causes ++ [c] } := by
  rw [State.addCause]
  by_cases hc : c ∈ s.faults.causes
  · rw [if_pos ((hasCause_iff _ _).2 hc), if_pos hc]
    rfl
  · rw [if_neg ((hasCause_iff _ _).not.2 hc), if_neg hc]

/-- A cause that is in the set leaves it unchanged. -/
theorem addCause_mem {c : Cause} (h : c ∈ s.faults.causes) : s.addCause c = s := by
  rw [State.addCause, if_pos ((hasCause_iff _ _).2 h)]

theorem class1_eq (s : State) (c : Cause) : s.class1 c =
    if s.faults.state = .normal then (s.setFaults { s.faults with causes := [c], first := some c }).haltStop
    else if s.faults.state ≠ .restart ∧ c ∉ s.faults.causes then (s.addCause c).raise .halt
    else s.addCause c := by
  rw [State.class1]
  have hin : (if s.faults.hasCause c = true then s else (s.addCause c).raise .halt) =
      if c ∉ s.faults.causes then (s.addCause c).raise .halt else s.addCause c := by
    by_cases hc : c ∈ s.faults.causes
    · rw [if_pos ((hasCause_iff _ _).2 hc), if_neg (by simpa using hc), addCause_mem hc]
    · rw [if_neg ((hasCause_iff _ _).not.2 hc), if_pos hc]
  cases hs : s.faults.state <;> simp [hin]

theorem faultStopping_any (s : State) : (allMovers.any fun k => (s.mover k).phase.faultStopping) = true ↔
    (s.mover .m1).phase.faultStopping = true ∨ (s.mover .m2).phase.faultStopping = true ∨
      (s.mover .m3).phase.faultStopping = true := by
  simp [allMovers]

theorem class2_eq (s : State) (m : MoverId) (c : MoverCause) : s.class2 m c =
    if (s.mover .m1).phase.faultStopping = true ∨ (s.mover .m2).phase.faultStopping = true ∨
      (s.mover .m3).phase.faultStopping = true then s.class1 (.escalated m c)
    else ((s.setMoverCause m (some c)).raise (.moverFault m)).faultStop m := by
  rw [State.class2]
  exact if_congr (faultStopping_any s) rfl rfl

end

end Sys2Proof.Machine

/-! # The plan is safe -/

namespace Sys2Proof.Machine

/-- The states that only the head of the plan has. -/
def StepState.Fixed (x : StepState) : Prop := x = .granted ∨ x = .pouring ∨ x = .held

/-- The states in which cargo may flow. -/
def StepState.Open (x : StepState) : Prop := x = .granted ∨ x = .pouring

/-- The id and the state of a step. -/
def PourStep.view (x : PourStep) : Nat × StepState := (x.id, x.state)

/-- The ids of the plan with their states. -/
def State.plan (s : State) : List (Nat × StepState) := s.pour.steps.map PourStep.view

/-- A plan names each step once; only its head is GRANTED, POURING or HELD, and a clearance is for its head, READY. -/
structure PlanShaped (plan : List (Nat × StepState)) (clearance : Option Nat) : Prop where
  nodup : (plan.map Prod.fst).Nodup
  head : ∀ q ∈ plan, q.2.Fixed → plan.head? = some q
  clearance : ∀ id, clearance = some id → plan.head? = some (id, .ready)

/-- A clearance, a grant or a pour stands. -/
def PlanOpen (plan : List (Nat × StepState)) (clearance : Option Nat) : Prop :=
  clearance ≠ none ∨ ∃ q ∈ plan, q.2.Open

/-- No entry of the Margin Monitor blocks. -/
def MarginMonitor.Quiet (x : MarginMonitor) : Prop := ∀ i ∈ List.range 36,
  ((x.entries[i]?).getD ⟨none, none, .off, .plus, none⟩).state.blocks = false

/-- Nothing forbids a clearance, a grant or a pour (R127, R150, R151). -/
def State.PourClear (s : State) : Prop :=
  s.margins.Quiet ∧ s.faults.state = .normal ∧ s.modes.mode = .berth

/-- The plan is shaped as it should be, and what is open in it is allowed. -/
structure PlanSafe (s : State) : Prop where
  shaped : PlanShaped s.plan s.pour.clearance
  clear : PlanOpen s.plan s.pour.clearance → s.PourClear

/-- There is no step and no clearance. -/
def State.NoPlan (s : State) : Prop := s.plan = [] ∧ s.pour.clearance = none

section
variable {s t : State}

theorem watched_blocks (s : State) (i : Nat) : (s.watched i).state.blocks = false ↔
    (s.watched i).state ≠ .limit ∧ (s.watched i).state ≠ .breach ∧ (s.watched i).state ≠ .indeterminate := by
  cases (s.watched i).state <;> simp [MarginState.blocks]

theorem quiet_iff (s : State) : s.margins.Quiet ↔ ∀ i ∈ List.range 36, (s.watched i).state.blocks = false := Iff.rfl

/-- The view of a plan that names each step once tells a step by its id. -/
theorem head_of_view {l : List PourStep} (h : (l.map PourStep.id).Nodup) {x : PourStep} (hx : x ∈ l)
    (hv : (l.map PourStep.view).head? = some x.view) : l.head? = some x := by
  rw [List.head?_map] at hv
  obtain ⟨y, hy, hyx⟩ := Option.map_eq_some_iff.1 hv
  have hid : y.id = x.id := congrArg Prod.fst hyx
  rw [hy, List.inj_on_of_nodup_map h (List.mem_of_mem_head? hy) hx hid]

theorem view_ids (l : List PourStep) : (l.map PourStep.view).map Prod.fst = l.map PourStep.id := by
  rw [List.map_map]
  rfl

theorem noPlan_iff (s : State) : s.NoPlan ↔ s.pour.steps = [] ∧ s.pour.clearance = none := by
  rw [State.NoPlan, State.plan, List.map_eq_nil_iff]

theorem pourSafe_iff (s : State) : PourSafe s ↔ PlanSafe s ∧ (s.modes.condition ≠ .running → s.NoPlan) := by
  have hopen : s.pourAllowed ↔ PlanOpen s.plan s.pour.clearance := by
    simp [State.pourAllowed, PlanOpen, State.plan, PourStep.view, StepState.Open]
  have hclear : (∀ i ∈ List.range 36, (s.watched i).state ≠ .limit ∧ (s.watched i).state ≠ .breach ∧
      (s.watched i).state ≠ .indeterminate) ↔ s.margins.Quiet := by
    rw [quiet_iff]
    exact forall₂_congr fun i _ => (watched_blocks s i).symm
  unfold PourSafe
  rw [hopen, hclear, ← noPlan_iff]
  constructor
  · rintro ⟨hnodup, hhead, hclearance, hclear, hrest⟩
    refine ⟨⟨⟨by rw [State.plan, view_ids]; exact hnodup, fun q hq hf => ?_, fun id hid => ?_⟩, hclear⟩, hrest⟩
    · obtain ⟨x, hx, rfl⟩ := List.mem_map.1 hq
      rw [State.plan, List.head?_map, hhead x hx hf]
      rfl
    · obtain ⟨x, hx, rfl, hready⟩ := hclearance id hid
      rw [State.plan, List.head?_map, hx, ← hready]
      rfl
  · rintro ⟨⟨⟨hnodup, hhead, hclearance⟩, hclear⟩, hrest⟩
    rw [State.plan, view_ids] at hnodup
    refine ⟨hnodup, fun x hx hf => ?_, fun id hid => ?_, hclear, hrest⟩
    · exact head_of_view hnodup hx (hhead x.view (List.mem_map_of_mem hx) hf)
    · have h := hclearance id hid
      rw [State.plan, List.head?_map] at h
      obtain ⟨x, hx, hv⟩ := Option.map_eq_some_iff.1 h
      exact ⟨x, hx, congrArg Prod.fst hv, congrArg Prod.snd hv⟩

/-! ## A plan whose steps change -/

/-- Steps that keep their ids and become GRANTED, POURING or HELD at the head alone keep the shape of the plan. -/
theorem PlanShaped.map {l : List PourStep} {c c' : Option Nat} (h : PlanShaped (l.map PourStep.view) c)
    (g : PourStep → PourStep) (hid : ∀ x ∈ l, (g x).id = x.id)
    (hfixed : ∀ x ∈ l, (g x).state.Fixed → x.state.Fixed ∨ l.head? = some x)
    (hclearance : ∀ x, l.head? = some x → c' = some x.id → x.state = .ready → (g x).state = .ready)
    (hsome : ∀ id, c' = some id → c = some id) : PlanShaped ((l.map g).map PourStep.view) c' := by
  have hnodup : (l.map PourStep.id).Nodup := by
    rw [← view_ids]
    exact h.nodup
  refine ⟨?_, fun q hq hf => ?_, fun id hc => ?_⟩
  · have e : (l.map g).map PourStep.id = l.map PourStep.id := by
      rw [List.map_map]
      exact List.map_congr_left hid
    rw [view_ids, e]
    exact hnodup
  · rw [List.map_map] at hq
    obtain ⟨x, hx, rfl⟩ := List.mem_map.1 hq
    have hhead : l.head? = some x := by
      rcases hfixed x hx hf with hx' | hx'
      · exact head_of_view hnodup hx (h.head x.view (List.mem_map_of_mem hx) hx')
      · exact hx'
    rw [List.head?_map, List.head?_map, hhead]
    rfl
  · have hold := h.clearance id (hsome id hc)
    rw [List.head?_map] at hold
    obtain ⟨x, hx, hv⟩ := Option.map_eq_some_iff.1 hold
    obtain ⟨rfl, hready⟩ := Prod.mk.inj hv
    rw [List.head?_map, List.head?_map, hx]
    simp only [Option.map_some, PourStep.view, hclearance x hx hc hready, hid x (List.mem_of_mem_head? hx)]

/-- A plan whose steps open no more than before is as safe as before. -/
theorem PlanSafe.map (h : PlanSafe s) (g : PourStep → PourStep) (hsteps : t.pour.steps = s.pour.steps.map g)
    (hid : ∀ x ∈ s.pour.steps, (g x).id = x.id)
    (hfixed : ∀ x ∈ s.pour.steps, (g x).state.Fixed → x.state.Fixed)
    (hopen : ∀ x ∈ s.pour.steps, (g x).state.Open → x.state.Open)
    (hready : ∀ x ∈ s.pour.steps, t.pour.clearance = some x.id → x.state = .ready → (g x).state = .ready)
    (hclearance : ∀ id, t.pour.clearance = some id → s.pour.clearance = some id)
    (hclear : s.PourClear → t.PourClear) : PlanSafe t := by
  refine ⟨?_, fun ho => hclear (h.clear ?_)⟩
  · rw [State.plan, hsteps]
    exact h.shaped.map g hid (fun x hx hf => .inl (hfixed x hx hf))
      (fun x hx => hready x (List.mem_of_mem_head? hx)) hclearance
  · rcases ho with hc | ⟨q, hq, ho⟩
    · obtain ⟨id, hid⟩ := Option.ne_none_iff_exists'.1 hc
      exact .inl (by rw [hclearance id hid]; simp)
    · rw [State.plan, hsteps, List.map_map] at hq
      obtain ⟨x, hx, rfl⟩ := List.mem_map.1 hq
      exact .inr ⟨x.view, List.mem_map_of_mem hx, hopen x hx ho⟩

theorem planning_iff : t.planning = s.planning ↔ t.plan = s.plan ∧ t.pour.clearance = s.pour.clearance ∧
    t.faults.state = s.faults.state ∧ t.margins = s.margins ∧ t.modes.mode = s.modes.mode ∧
      t.modes.condition = s.modes.condition := by
  simp only [State.planning, Prod.mk.injEq]
  rfl

/-- What the plan's safety rests on, unchanged. -/
theorem PlanSafe.congr (h : PlanSafe s) (e : t.planning = s.planning) : PlanSafe t := by
  obtain ⟨hplan, hclearance, hfaults, hmargins, hmode, -⟩ := planning_iff.1 e
  refine ⟨by rw [hplan, hclearance]; exact h.shaped, fun ho => ?_⟩
  rw [hplan, hclearance] at ho
  obtain ⟨h1, h2, h3⟩ := h.clear ho
  exact ⟨by rw [hmargins]; exact h1, hfaults.trans h2, hmode.trans h3⟩

theorem NoPlan.congr (h : s.NoPlan) (e : t.planning = s.planning) : t.NoPlan := by
  obtain ⟨hplan, hclearance, -⟩ := planning_iff.1 e
  exact ⟨hplan.trans h.1, hclearance.trans h.2⟩

end

/-! ## What the work of the blocks keeps of the two invariants -/

/-- Every record stays in one place, the plan stays safe, no step and no clearance arises where there was none, and a part
in NORMAL or HALT-STOPPING stays in one of them; whether the part runs stays as it is. -/
structure Sound (s t : State) : Prop where
  arranged : Arranged [] s → Arranged [] t
  plan : PlanSafe s → PlanSafe t
  empty : s.NoPlan → t.NoPlan
  fault : s.faults.state = .normal ∨ s.faults.state = .haltStopping →
    t.faults.state = .normal ∨ t.faults.state = .haltStopping
  condition : t.modes.condition = s.modes.condition

theorem Sound.refl (s : State) : Sound s s := ⟨id, id, id, id, rfl⟩

section
variable {s t u : State}

theorem Sound.trans (h : Sound s t) (g : Sound t u) : Sound s u :=
  ⟨g.arranged ∘ h.arranged, g.plan ∘ h.plan, g.empty ∘ h.empty, g.fault ∘ h.fault, g.condition.trans h.condition⟩

/-- Nothing changes that the plan's safety rests on. -/
theorem Sound.of_planning (e : t.planning = s.planning) (h : Arranged [] s → Arranged [] t) : Sound s t where
  arranged := h
  plan g := g.congr e
  empty g := NoPlan.congr g e
  fault g := by
    obtain ⟨-, -, hf, -⟩ := planning_iff.1 e
    rwa [hf]
  condition := by
    obtain ⟨-, -, -, -, -, hc⟩ := planning_iff.1 e
    exact hc

theorem Steady.sound (h : Steady s t) : Sound s t := Sound.of_planning h.planning h.arranged

theorem Sound.steady (h : Sound s t) (g : Steady t u) : Sound s u := h.trans g.sound

theorem Sound.foldl {α : Type} {f : State → α → State} (l : List α) (hf : ∀ u a, Sound s u → Sound s (f u a))
    (h : Sound s t) : Sound s (l.foldl f t) := by
  induction l generalizing t with
  | nil => exact h
  | cons a l ih => exact ih (hf t a h)

theorem Sound.ite {a b : State} (c : Prop) [Decidable c] (ha : Sound s a) (hb : Sound s b) : Sound s (if c then a else b) := by
  split
  · exact ha
  · exact hb

theorem Poured.margins (h : Poured s t) : t.margins = s.margins := by have e := congrArg State.margins h; exact e
theorem Poured.modes (h : Poured s t) : t.modes = s.modes := by have e := congrArg State.modes h; exact e

theorem Poured.arranged (hp : Poured s t) (h : Arranged [] s) : Arranged [] t :=
  h.congr (by simp only [State.placing, State.mover, hp.transfers, hp.movers])

theorem NoPlan.shaped (h : s.NoPlan) : PlanShaped s.plan s.pour.clearance := by
  obtain ⟨hplan, hclearance⟩ := h
  rw [hplan, hclearance]
  exact ⟨List.nodup_nil, nofun, nofun⟩

/-- An operation of the plan is judged on plans that are shaped as they should be. -/
theorem Sound.of_shaped (hp : Poured s t) (h : PlanShaped s.plan s.pour.clearance → Sound s t) : Sound s t where
  arranged := hp.arranged
  plan g := (h g.shaped).plan g
  empty g := (h (NoPlan.shaped g)).empty g
  fault g := by rw [hp.faults]; exact g
  condition := congrArg ModeControl.condition hp.modes

/-- What is done under a condition may rest on it. -/
theorem Sound.when {a b : State} (c : Prop) [Decidable c] (ha : c → Sound s a) (hb : Sound s b) :
    Sound s (if c then a else b) := by
  split
  next hc => exact ha hc
  next => exact hb

/-- The pour plan and the shore link alone change, and the steps open no more than before. -/
theorem Sound.of_pour (hp : Poured s t) (g : PourStep → PourStep) (hsteps : t.pour.steps = s.pour.steps.map g) (hid : ∀ x, (g x).id = x.id)
    (hfixed : ∀ x ∈ s.pour.steps, (g x).state.Fixed → x.state.Fixed)
    (hopen : ∀ x ∈ s.pour.steps, (g x).state.Open → x.state.Open)
    (hready : ∀ x ∈ s.pour.steps, t.pour.clearance = some x.id → x.state = .ready → (g x).state = .ready)
    (hclearance : ∀ id, t.pour.clearance = some id → s.pour.clearance = some id) : Sound s t where
  arranged := hp.arranged
  plan h := h.map g hsteps (fun x _ => hid x) hfixed hopen hready hclearance
    fun ⟨h1, h2, h3⟩ => ⟨by rw [hp.margins]; exact h1, by rw [hp.faults]; exact h2, by rw [hp.modes]; exact h3⟩
  empty h := by
    rw [noPlan_iff] at h ⊢
    obtain ⟨h1, h2⟩ := h
    refine ⟨by rw [hsteps, h1]; rfl, ?_⟩
    cases hc : t.pour.clearance with
    | none => rfl
    | some id => rw [hclearance id hc] at h2; cases h2
  fault h := by rw [hp.faults]; exact h
  condition := congrArg ModeControl.condition hp.modes

end

end Sys2Proof.Machine

/-! # The operations of the plan are sound -/

namespace Sys2Proof.Machine

section
variable {s t : State}

/-! ## Readiness and the window -/

theorem Poured.updStep (h : Poured s t) (id : Nat) (f : PourStep → PourStep) : Poured s (t.updStep id f) := h.setPour _

/-- A step that stands PLANNED or READY afterwards opens nothing. -/
theorem Sound.setWaiting (h : Sound s t) (id : Nat) (f : PourStep → PourStep) (hid : ∀ x, (f x).id = x.id)
    (hstate : ∀ x, (f x).state = .ready) : Sound s (t.updStep id f) := by
  have hf : ∀ x, (if x.id = id then f x else x).state = if x.id = id then .ready else x.state := fun x => by
    split
    · exact hstate x
    · rfl
  refine h.trans (Sound.of_pour ((Poured.refl t).updStep id f) (fun x => if x.id = id then f x else x) rfl
    (fun x => ?_) (fun x _ => ?_) (fun x _ => ?_) (fun x _ _ hr => ?_) fun _ hc => hc)
  · split
    · exact hid x
    · rfl
  · rw [hf]
    split
    · simp [StepState.Fixed]
    · exact fun hx => hx
  · rw [hf]
    split
    · simp [StepState.Open]
    · exact fun hx => hx
  · rw [hf, hr, ite_self]

theorem Sound.judgeReady (h : Sound s t) (id : Nat) : Sound s (t.judgeReady id) := by
  unfold State.judgeReady
  split
  · exact h
  · split
    · exact h.setWaiting id _ (fun _ => rfl) fun _ => rfl
    · exact h

/-! ## The arbiter -/

theorem Arbitrated.planning (h : Arbitrated s t) : t.planning = s.planning := by
  have e := congrArg State.planning h.frame
  exact e

theorem Sound.scan (h : Sound s t) : Sound s t.scan :=
  h.trans (Sound.of_planning (Arbitrated.refl t).scan.planning fun g => g.scan)

theorem lt_of_not_full (h : ¬ s.tableFull = true) : s.transfers.records.length < 16 := by
  rw [tableFull_iff] at h
  omega

theorem Sound.admitTransfer (h : Sound s t) (a : Admission) (scans : Bool) (hfull : t.transfers.records.length < 16) :
    Sound s (t.admitTransfer a scans) := by
  refine h.trans (Sound.of_planning ?_ fun g => g.admitTransfer a scans hfull)
  unfold State.admitTransfer
  split
  · exact (Arbitrated.refl (t.enrol a)).scan.planning
  · rfl

theorem Sound.raise (h : Sound s t) (i : Item) : Sound s (t.raise i) := h.steady ((Steady.refl t).raise i)

theorem Sound.askCorrection (h : Sound s t) (i : Nat) (sign : Sign) : Sound s (t.askCorrection i sign) := by
  unfold State.askCorrection
  split
  · exact h
  · split
    · exact h.raise _
    · split
      · exact h.raise _
      · split
        · exact h
        · split
          · exact h.raise _
          · split
            · exact h.raise _
            · rename_i hfull
              exact h.admitTransfer _ _ (lt_of_not_full hfull)

theorem Sound.judgePairing (h : Sound s t) (scans : Bool) (id : Nat) : Sound s (t.judgePairing scans id) := by
  unfold State.judgePairing
  split
  · exact h
  · rename_i x _
    split
    · rename_i hc
      rw [Bool.and_eq_true] at hc
      obtain ⟨-, hadmitted⟩ := hc
      obtain ⟨-, -, -, hfull⟩ := (pairingAdmitted_iff x).1 hadmitted
      have g := h.steady ((Steady.refl t).updStep id
        (fun y => { y with pairing := .running t.nextId, links := t.takeVolumes y.links }) fun _ => ⟨rfl, rfl⟩)
      exact (g.admitTransfer x.admission scans hfull).judgeReady id
    · exact h

theorem Sound.pairWindow (h : Sound s t) (scans : Bool) : Sound s (t.pairWindow scans) :=
  h.foldl _ fun _ id g => g.judgePairing scans id

theorem PlanShaped.head_id {l : List PourStep} {c : Option Nat} (h : PlanShaped (l.map PourStep.view) c) {id : Nat}
    (hc : c = some id) : ∃ x, l.head? = some x ∧ x.id = id ∧ x.state = .ready := by
  have hhead := h.clearance id hc
  rw [List.head?_map] at hhead
  obtain ⟨x, hx, hv⟩ := Option.map_eq_some_iff.1 hhead
  exact ⟨x, hx, congrArg Prod.fst hv, congrArg Prod.snd hv⟩

/-- A READY step that left the window is PLANNED again; the head, which a clearance is for, stays READY (R140). -/
theorem Sound.demoteOutside (h : Sound s t) : Sound s (t.setPour { t.pour with
    steps := t.pour.steps.map fun x =>
      if (t.window.any fun i => decide (i = x.id)) || decide (x.state ≠ .ready) then x else { x with state := .planned } }) := by
  refine h.trans (Sound.of_shaped ((Poured.refl t).setPour _) fun hshape => Sound.of_pour ((Poured.refl t).setPour _) _ rfl
    (fun x => ?_) (fun x _ => ?_) (fun x _ => ?_) (fun x _ hc hr => ?_) fun _ hc => hc)
  · split <;> rfl
  · split
    · exact fun hx => hx
    · simp [StepState.Fixed]
  · split
    · exact fun hx => hx
    · simp [StepState.Open]
  · obtain ⟨y, hy, hid, -⟩ := hshape.head_id hc
    have hwindow : (t.window.any fun i => decide (i = x.id)) = true := by
      rw [← hid, State.window]
      cases hl : t.pour.steps with
      | nil => rw [hl] at hy; cases hy
      | cons z l =>
        rw [hl] at hy
        obtain rfl := Option.some.inj hy
        simp
    rw [hwindow, Bool.true_or, if_pos rfl, hr]

theorem Sound.judgeWindow (h : Sound s t) : Sound s t.judgeWindow :=
  ((h.demoteOutside.pairWindow true).foldl _ fun _ id g => g.judgeReady id)

theorem Sound.pourCommit (h : Sound s t) : Sound s t.pourCommit :=
  (h.steady (Steady.refl t).commitVolumes).foldl _ fun _ id g => g.judgeReady id

/-! ## Holding and releasing -/

theorem pour_endClearance (s : State) (l : Line) : (s.endClearance l).pour = { s.pour with clearance := none } := by
  rw [endClearance_eq]
  split
  · rename_i hc
    rw [← hc]
  · rw [withdrawPrediction_cond (s := s) (s.setPour { s.pour with clearance := none }) rfl]
    rfl

theorem Sound.endClearance (h : Sound s t) (l : Line) : Sound s (t.endClearance l) := by
  have hpour := pour_endClearance t l
  refine h.trans (Sound.of_pour ((Poured.refl t).endClearance l) id ?_ (fun _ => rfl) (fun _ _ hx => hx)
    (fun _ _ hx => hx) (fun _ _ _ hx => hx) ?_)
  · rw [hpour, List.map_id]
  · rw [hpour]
    exact nofun

theorem PlanShaped.ids_nodup {l : List PourStep} {c : Option Nat} (h : PlanShaped (l.map PourStep.view) c) :
    (l.map fun x => x.id).Nodup := by
  have hnodup := h.nodup
  rwa [view_ids] at hnodup

/-- The plan after BLOCK, and the clearance. -/
theorem pour_block (h : (s.pour.steps.map fun x => x.id).Nodup) (c : HoldCause) :
    (s.block c).pour.steps = s.pour.steps.map (blockEvent c).change ∧ (s.block c).pour.clearance = none := by
  have hfold := foldl_steps (blockEvent_id c) (fun u x h => blockStep_apply c h) h
  rw [State.block, endClearanceHold_eq]
  exact ⟨congrArg (fun u : State => u.pour.steps) hfold, rfl⟩

theorem blockEvent_state (c : HoldCause) (x : PourStep) : ((blockEvent c).change x).state =
    match x.state with
    | .granted => .ready
    | .pouring => .held
    | y => y := by
  cases hx : x.state <;> simp [blockEvent, hx]

theorem Sound.block (h : Sound s t) (c : HoldCause) : Sound s (t.block c) := by
  refine h.trans (Sound.of_shaped ((Poured.refl t).block c) fun hshape => ?_)
  obtain ⟨hsteps, hclearance⟩ := pour_block hshape.ids_nodup c
  refine Sound.of_pour ((Poured.refl t).block c) _ hsteps (blockEvent_id c) (fun x _ => ?_) (fun x _ => ?_) ?_ ?_
  · rw [blockEvent_state]
    cases x.state <;> simp [StepState.Fixed]
  · rw [blockEvent_state]
    cases x.state <;> simp [StepState.Open]
  · rw [hclearance]
    exact nofun
  · rw [hclearance]
    exact nofun

/-- After BLOCK nothing is open. -/
theorem not_planOpen_block (h : (s.pour.steps.map fun x => x.id).Nodup) (c : HoldCause) :
    ¬ PlanOpen (s.block c).plan (s.block c).pour.clearance := by
  obtain ⟨hsteps, hclearance⟩ := pour_block h c
  rw [PlanOpen, hclearance, State.plan, hsteps, List.map_map]
  rintro (hc | ⟨q, hq, ho⟩)
  · exact hc rfl
  · obtain ⟨x, -, rfl⟩ := List.mem_map.1 hq
    change ((blockEvent c).change x).state.Open at ho
    rw [blockEvent_state] at ho
    cases hx : x.state <;> simp [hx, StepState.Open] at ho

theorem Sound.releaseStep (h : Sound s t) (x : PourStep) : Sound s (t.releaseStep x) := by
  unfold State.releaseStep
  split
  · exact (h.setWaiting x.id (fun y => { y with state := .ready, cause := none }) (fun _ => rfl) fun _ => rfl).steady
      ((Steady.refl _).pourMessage _ _)
  · exact h

theorem Sound.judgeRelease (h : Sound s t) : Sound s t.judgeRelease := by
  unfold State.judgeRelease
  split
  · exact h.foldl _ fun _ x g => g.releaseStep x
  · exact h

theorem Sound.expireGrant (h : Sound s t) (x : PourStep) : Sound s (t.expireGrant x) := by
  unfold State.expireGrant
  split
  · exact (h.setWaiting x.id (fun y => { y with state := .ready, granted := none }) (fun _ => rfl) fun _ => rfl).steady
      ((Steady.refl _).pourMessage _ _)
  · exact h

end

end Sys2Proof.Machine

/-! # The faults and the movers are sound -/

namespace Sys2Proof.Machine

section
variable {s t u : State} {m : MoverId} {id : Nat}

/-! ## The faults -/

theorem Sound.arbiter (h : Sound s t) (g : Arbitrated t u) (ha : Arranged [] t → Arranged [] u) : Sound s u :=
  h.trans (Sound.of_planning g.planning ha)

theorem haltStop_poured (s : State) : Poured s.haltBegun (s.haltBegun.haltPour.raise .halt) :=
  (Poured.refl _).haltPour.raise _

theorem movers_haltBegun (s : State) : s.haltBegun.movers =
    ⟨s.movers.m1.emptied.halting s.now, s.movers.m2.emptied.halting s.now, s.movers.m3.emptied.halting s.now⟩ := by
  have h := haltBegun_eq s
  generalize (numbers 24).foldl State.haltRelease s.haltOff = r at h
  rw [h]
  rfl

theorem halting_emptied_holds (now : Nat) (x : Mover) : (x.emptied.halting now).holds = [] := by
  rw [halting_emptied]
  obtain ⟨phase, run, stack, popping, timer, flow, last, gaugeDue, quiet⟩ := x
  cases phase <;> rfl

/-- After the halt stop there is no record, and no id in a run slot or on a stack (R65). -/
theorem arranged_haltStop (s : State) : Arranged [] s.haltStop := by
  have htransfers := haltStop_transfers s
  have hholds (m : MoverId) : (s.haltStop.mover m).holds = [] := by
    have hmovers : s.haltStop.movers = s.haltBegun.movers := by
      rw [haltStop_begun, movers_setFaults]
      exact (haltStop_poured s).movers
    simp only [State.mover, hmovers, movers_haltBegun]
    cases m <;> exact halting_emptied_holds _ _
  have hids : s.haltStop.ids = [] := by rw [State.ids, htransfers]; rfl
  refine ⟨by rw [hids]; exact List.nodup_nil, fun a => ?_, fun x hx => ?_, ?_, fun x hx => ?_⟩
  · rw [hids, htransfers, count_placed, hholds, hholds, hholds]
    rfl
  · rw [htransfers] at hx
    cases hx
  · rw [htransfers]
    exact Nat.zero_le _
  · rw [htransfers] at hx
    cases hx

theorem halted_id (ids : List Nat) (x : PourStep) : (x.halted ids).id = x.id := by
  rw [PourStep.halted, haltEvent_id, unpairedFrom_id]

theorem halted_state (ids : List Nat) (x : PourStep) : (x.halted ids).state =
    if x.state = .granted ∨ x.state = .pouring then .held else x.state := by
  simp only [PourStep.halted, haltEvent, unpairedFrom_state]
  split
  · rfl
  · exact unpairedFrom_state ids x

/-- The plan after the halt stop, and the clearance and the fault state (R151, R161). -/
theorem plan_haltStop (h : (s.pour.steps.map fun x => x.id).Nodup) :
    s.haltStop.pour.steps = s.pour.steps.map (PourStep.halted s.ids) ∧ s.haltStop.pour.clearance = none := by
  have e := haltStop_eq h
  generalize (numbers 24).foldl State.haltRelease s.haltOff = r at e
  rw [e]
  exact ⟨rfl, rfl⟩

theorem faults_haltStop (s : State) : s.haltStop.faults.state = .haltStopping := by
  have hbegun := haltBegun_eq s
  have hp := (haltStop_poured s).faults
  generalize (numbers 24).foldl State.haltRelease s.haltOff = r at hbegun
  have e : s.haltBegun.faults.state = .haltStopping := by
    rw [hbegun]
    rfl
  rw [haltStop_begun, faults_setFaults, hp]
  exact e

theorem sound_haltStop (s : State) : Sound s s.haltStop where
  arranged _ := arranged_haltStop s
  plan h := by
    obtain ⟨hsteps, hclearance⟩ := plan_haltStop h.shaped.ids_nodup
    refine ⟨?_, fun ho => ?_⟩
    · rw [State.plan, hsteps, hclearance]
      refine h.shaped.map _ (fun x _ => halted_id _ x) (fun x _ hf => .inl ?_) nofun nofun
      rw [halted_state] at hf
      by_cases hx : x.state = .granted ∨ x.state = .pouring
      · rcases hx with hx | hx
        · exact .inl hx
        · exact .inr (.inl hx)
      · rwa [if_neg hx] at hf
    · exfalso
      rw [PlanOpen, hclearance, State.plan, hsteps, List.map_map] at ho
      rcases ho with hc | ⟨q, hq, ho⟩
      · exact hc rfl
      · obtain ⟨x, -, rfl⟩ := List.mem_map.1 hq
        change (x.halted s.ids).state.Open at ho
        rw [halted_state] at ho
        split at ho
        · rcases ho with ho | ho <;> cases ho
        · rename_i hx
          exact hx ho
  empty h := by
    rw [noPlan_iff] at h ⊢
    obtain ⟨hnil, -⟩ := h
    obtain ⟨hsteps, hclearance⟩ := plan_haltStop (s := s) (by rw [hnil]; exact List.nodup_nil)
    exact ⟨by rw [hsteps, hnil]; rfl, hclearance⟩
  fault _ := .inr (faults_haltStop s)
  condition := congrArg ModeControl.condition (Work.refl s).haltStop.modes

theorem Sound.class1 (h : Sound s t) (c : Cause) : Sound s (t.class1 c) := by
  have hadd : Sound s (t.addCause c) := by
    rw [addCause_eq]
    exact h.steady ((Steady.refl t).setFaults _ rfl)
  rw [class1_eq]
  split
  · exact (h.steady ((Steady.refl t).setFaults _ (by rfl))).trans (sound_haltStop _)
  · split
    · exact hadd.raise _
    · exact hadd

theorem Sound.dropReservation (h : Sound s t) (m : MoverId) : Sound s (t.dropReservation m) :=
  h.arbiter ((Arbitrated.refl t).setTransfers _) fun g => g.dropReservation m

theorem Sound.returnStack (h : Sound s t) (m : MoverId) : Sound s (t.returnStack m) :=
  h.arbiter (((Arbitrated.refl t).setMover m _).foldl _ fun _ _ g => g.setTransfers _) fun g => g.returnStack m

theorem Sound.faultStop (h : Sound s t) (m : MoverId) : Sound s (t.faultStop m) :=
  (((h.steady ((Steady.refl t).enterStop m _ _)).dropReservation m).returnStack m).scan

theorem Sound.class2 (h : Sound s t) (m : MoverId) (c : MoverCause) : Sound s (t.class2 m c) := by
  unfold State.class2
  split
  · exact h.class1 _
  · exact ((h.steady ((Steady.refl t).setMoverCause m _)).raise _).faultStop m

/-! ## The run slot of a mover that a scan does not take -/

theorem run_enterLining (s : State) (m k : MoverId) : ((s.enterLining m).mover k).run = (s.mover k).run := by
  rcases enterLining_steady s m with h | ⟨x, -, y, -, -, h⟩
  · rw [h]
  · obtain ⟨hrun, -⟩ := h.slots k
    rw [hrun]
    cases k <;> rfl

theorem run_takeSlot {k : MoverId} (hk : k ≠ m) (id : Nat) : ((s.takeSlot m id).mover k).run = (s.mover k).run := by
  have h := ((Steady.refl (s.setMover m { s.mover m with run := some id, popping := false })).claimTanks
    (match s.transfer? id with
    | some t => t.remaining
    | none => []) id).slots k
  rw [mover_setMover, if_neg hk] at h
  exact h.1

theorem run_judgePending (h : (s.mover m).run = some id) (k : Nat) : ((s.judgePending k).mover m).run = some id := by
  unfold State.judgePending
  split
  · exact h
  · split
    · exact h
    · split
      · rename_i m' hm'
        split
        · have hne : m ≠ m' := fun e => by
            rw [e, run_of_freeMover hm'] at h
            cases h
          rw [State.assign, run_enterLining, run_takeSlot hne]
          cases m <;> exact h
        · exact h
      · split
        · rename_i m' _
          obtain ⟨hrun, -⟩ := ((Steady.refl (s.updTransfer k fun t => { t with reservation := some m' })).enterStop m'
            .preempt none).slots m
          refine hrun.trans ?_
          cases m <;> exact h
        · exact h

/-- A scan leaves a run slot that is taken (R52). -/
theorem run_scan (h : (s.mover m).run = some id) : (s.scan.mover m).run = some id := by
  have key : ∀ (l : List Nat) (u : State), (u.mover m).run = some id →
      ((l.foldl State.judgePending u).mover m).run = some id := by
    intro l
    induction l with
    | nil => exact fun _ hu => hu
    | cons k l ih => exact fun u hu => ih _ (run_judgePending hu k)
  exact key _ s h

end

end Sys2Proof.Machine

/-! # The movers, the gradings and the retirements are sound -/

namespace Sys2Proof.Machine

section
variable {s t u : State} {m : MoverId} {id : Nat}

/-! ## Stop completions (R81, R82, R88) -/

theorem Arbitrated.leaveSlot (h : Arbitrated s t) (m : MoverId) (id : Nat) : Arbitrated s (t.leaveSlot m id) :=
  (h.setMover m _).foldl _ fun _ n g => (g.setClaim n none).writePoint _ _

theorem Arbitrated.ite {a b : State} (c : Prop) [Decidable c] (ha : Arbitrated s a) (hb : Arbitrated s b) :
    Arbitrated s (if c then a else b) := by
  split
  · exact ha
  · exact hb

theorem Arbitrated.popTimes (n : Nat) (h : Arbitrated s t) (m : MoverId) : Arbitrated s (State.popTimes n t m) := by
  induction n generalizing t with
  | zero =>
    unfold State.popTimes
    split
    · exact (h.setMover m _).setMover m _
    · exact h
    · rename_i h0 _; exact absurd h0 (by simp)
  | succ n ih =>
    unfold State.popTimes
    split
    · exact (h.setMover m _).setMover m _
    · rename_i h0 _; exact absurd h0 (by simp)
    · rename_i n' id rest hn hstack
      obtain rfl := Nat.succ.inj hn
      have g := h.setMover m { t.mover m with stack := rest.reverse }
      exact Arbitrated.ite _ (((g.setMover m _).claimTanks _ id).enterLining m) (ih (g.setTransfers _))

theorem Arbitrated.pop (h : Arbitrated s t) (m : MoverId) : Arbitrated s (t.pop m) :=
  (h.setMover m { t.mover m with popping := true }).popTimes _ m

theorem Arbitrated.judgeReservation (h : Arbitrated s t) (m : MoverId) : Arbitrated s (t.judgeReservation m) := by
  unfold State.judgeReservation
  split
  · exact h.pop m
  · split
    · exact h.assign m _
    · exact (h.setTransfers _).pop m

theorem Sound.judgeReservation (h : Sound s t) (hr : (t.mover m).run = none) : Sound s (t.judgeReservation m) :=
  h.arbiter ((Arbitrated.refl t).judgeReservation m) fun g => g.judgeReservation hr

theorem run_releaseClaims (s : State) (id : Nat) (m : MoverId) : ((s.releaseClaims id).mover m).run = (s.mover m).run :=
  (((Steady.refl s).releaseClaims id).slots m).1

theorem run_leaveSlot (s : State) (m : MoverId) (id : Nat) : ((s.leaveSlot m id).mover m).run = none := by
  rw [State.leaveSlot, run_releaseClaims, mover_setMover_self]

/-- The transfer of a run slot is freed with its slot (R81, R88). -/
theorem Sound.freeRunning (h : Sound s t) (hr : (t.mover m).run = some id) :
    Sound s ((t.freeRecord id).leaveSlot m id) :=
  h.arbiter (((Arbitrated.refl t).setTransfers _).setTransfers _ |>.leaveSlot m id) fun g => g.freeRunning hr

theorem Sound.noticeFreed (h : Sound s t) (id : Nat) (o : TransferOutcome) : Sound s (t.noticeFreed id o) :=
  h.steady ((Steady.refl t).noticeFreed id o)

theorem run_noticeFreed (s : State) (id : Nat) (o : TransferOutcome) (m : MoverId) :
    ((s.noticeFreed id o).mover m).run = (s.mover m).run := (((Steady.refl s).noticeFreed id o).slots m).1

/-- The residue is asked while the transfer still stands in its run slot (R48, R81). -/
theorem Sound.askStrip (h : Sound s t) (x : Transfer) (hr : (t.mover m).run = some id) :
    Sound s (t.askStrip x) ∧ ((t.askStrip x).mover m).run = some id := by
  unfold State.askStrip
  dsimp only
  split
  · exact ⟨h, hr⟩
  · split
    · exact ⟨h.raise _, hr⟩
    · rename_i hfull
      refine ⟨h.admitTransfer _ _ (lt_of_not_full hfull), run_scan ?_⟩
      cases m <;> exact hr

theorem Sound.endAsked (h : Sound s t) (o : TransferOutcome) (hr : (t.mover m).run = some id) :
    Sound s (t.endAsked m id o) ∧ ((t.endAsked m id o).mover m).run = some id := by
  have g := (h.steady ((Steady.refl t).recordOutcome m id o)).raise (.ended m)
  have hrun : (((t.recordOutcome m id o).raise (.ended m)).mover m).run = some id := by
    rw [← hr]
    exact (((Steady.refl t).recordOutcome m id o).raise (.ended m) |>.slots m).1
  unfold State.endAsked
  dsimp only
  split
  · exact ⟨g, hrun⟩
  · split
    · exact g.askStrip _ hrun
    · exact ⟨g, hrun⟩

theorem Sound.completeEnd (h : Sound s t) (o : TransferOutcome) (hr : (t.mover m).run = some id) :
    Sound s (t.completeEnd m id o) := by
  obtain ⟨g, hrun⟩ := h.endAsked o hr
  rw [completeEnd_eq]
  refine (((g.freeRunning hrun).noticeFreed id o).judgeReservation ?_ |>.pairWindow false).scan
  rw [run_noticeFreed, run_leaveSlot]

theorem Arranged.saveOnStack {out : List Nat} (g : Arranged out s) (hr : (s.mover m).run = some id) :
    Arranged out ((s.setMover m { s.mover m with stack := (s.mover m).stack ++ [id] }).leaveSlot m id) := by
  refine ((Steady.refl _).releaseClaims id).arranged ?_
  rw [setMover_setMover, mover_setMover_self]
  refine g.setMover m _ fun a => ?_
  simp only [Mover.holds, hr, Option.toList_some, Option.toList_none, List.nil_append, List.count_append,
    List.count_singleton]
  omega

theorem Sound.completePreempt (h : Sound s t) (hr : (t.mover m).run = some id) : Sound s (t.completePreempt m id) := by
  unfold State.completePreempt
  have g : Sound s ((t.setMover m { t.mover m with stack := (t.mover m).stack ++ [id] }).leaveSlot m id) :=
    h.arbiter (((Arbitrated.refl t).setMover m _).leaveSlot m id) fun g => g.saveOnStack hr
  exact (g.judgeReservation (run_leaveSlot _ m id)).scan

theorem Sound.completeFault (h : Sound s t) (hr : (t.mover m).run = some id) : Sound s (t.completeFault m id) := by
  unfold State.completeFault
  have g := h.steady ((Steady.refl t).recordOutcome m id .faulted)
  have hrun : ((t.recordOutcome m id .faulted).mover m).run = some id := by
    rw [← hr]
    exact (((Steady.refl t).recordOutcome m id .faulted).slots m).1
  exact ((((g.freeRunning hrun).scan.noticeFreed id .faulted).pairWindow true).steady
    ((Steady.refl _).enterPhase m .faulted)).scan

theorem Sound.completeStop (h : Sound s t) (m : MoverId) (r : StopReason) (o : Option TransferOutcome) :
    Sound s (t.completeStop m r o) := by
  unfold State.completeStop
  split
  · split
    · exact (h.steady ((Steady.refl t).enterPhase m .idle)).scan
    · exact h
  · split
    · rename_i id hr
      exact Sound.ite _ (h.completeEnd _ hr) h
    · exact h
  · split
    · rename_i id hr
      exact Sound.ite _ (h.completePreempt hr) h
    · exact h
  · split
    · rename_i id hr
      exact Sound.ite _ (h.completeFault hr) h
    · exact h

theorem Sound.stopStep (h : Sound s t) (m : MoverId) (r : StopReason) (o : Option TransferOutcome) (g : StopStage) :
    Sound s (t.stopStep m r o g) := by
  unfold State.stopStep
  split
  · split
    · exact h.steady (((Steady.refl t).setMover m _ (by rfl) (by rfl)).writePoints _ _)
    · exact h
  · exact h.completeStop m r o

/-! ## The work of a mover at a commit -/

theorem Sound.flowCheck (h : Sound s t) (m : MoverId) (x : Transfer) : Sound s (t.flowCheck m x) := by
  unfold State.flowCheck
  split
  · exact h
  · split
    · exact h.steady ((Steady.refl t).takeFlow m)
    · split
      · exact h.class2 m _
      · exact h

/-- A record of the table takes a value with its id and its reservation. -/
theorem Sound.setRecord (h : Sound s t) {x y : Transfer} (hx : x ∈ t.transfers.records) (hid : y.id = x.id)
    (hres : y.reservation = x.reservation) : Sound s (t.updTransfer x.id fun _ => y) :=
  h.arbiter ((Arbitrated.refl t).setTransfers _) fun g => g.setRecord hx hid hres

theorem mem_of_runTransfer {x : Transfer} (h : s.runTransfer m = some x) : x ∈ s.transfers.records := by
  rw [runTransfer_eq] at h
  obtain ⟨id, -, hid⟩ := Option.bind_eq_some_iff.1 h
  exact (mem_of_transfer hid).1

theorem Sound.progressCheck (h : Sound s t) (m : MoverId) : Sound s (t.progressCheck m) := by
  unfold State.progressCheck
  split
  · exact h
  · rename_i x hx
    split
    · exact h
    · split
      · have g := h.setRecord (y := x.markDone x.active) (mem_of_runTransfer hx) rfl rfl
        dsimp only
        split
        · exact g.steady ((Steady.refl _).enterSwitching m _ _)
        · exact g.steady ((Steady.refl _).enterStop m _ _)
      · exact h.flowCheck m x

theorem Sound.moverStep (h : Sound s t) (m : MoverId) : Sound s (t.moverStep m) := by
  unfold State.moverStep
  split
  · exact h
  · exact h
  · unfold State.liningStep
    split
    · exact h
    · exact Sound.ite _ (h.steady ((Steady.refl t).enterStarting m)) h
  · exact Sound.ite _ (h.steady ((Steady.refl t).enterRunning m)) h
  · exact h.progressCheck m
  · unfold State.switchingStep
    split
    · exact h
    · exact Sound.ite _ (h.steady ((Steady.refl t).resumeRunning m _)) h
  · exact h.stopStep m _ _ _

theorem Sound.moverCommit (h : Sound s t) (m : MoverId) (lost : Bool) (ds : List Disagreement) :
    Sound s (t.moverCommit m lost ds) := by
  unfold State.moverCommit
  split
  · exact h.class2 m _
  · exact h.moverStep m

/-! ## Freeing and retirement (R61 to R64, R85) -/

theorem Sound.freeAndTell (h : Sound s t) (o : TransferOutcome) (hq : id ∈ t.transfers.queue) :
    Sound s (t.freeAndTell id o) := by
  have g : Sound s (t.freeRecord id) :=
    h.arbiter (((Arbitrated.refl t).setTransfers _).setTransfers _) fun g => g.freeQueued hq
  exact (g.noticeFreed id o).pairWindow true

theorem Sound.relievePending (h : Sound s t) (id : Nat) : Sound s (t.relievePending id) := by
  unfold State.relievePending
  split
  · exact h
  · refine Sound.when _ (fun hc => ?_) h
    rw [Bool.and_eq_true, Bool.and_eq_true] at hc
    obtain ⟨⟨hq, -⟩, -⟩ := hc
    have hmem : id ∈ t.transfers.queue := by simpa using hq
    exact h.freeAndTell _ hmem

theorem Sound.relieveActive (h : Sound s t) (m : MoverId) : Sound s (t.relieveActive m) := by
  unfold State.relieveActive
  split
  · exact h
  · refine Sound.ite _ ?_ h
    split
    · exact h
    · exact h
    · exact h
    · exact h.steady ((Steady.refl t).enterStop m _ _)

end

end Sys2Proof.Machine

/-! # Gradings and retirements are sound -/

namespace Sys2Proof.Machine

section
variable {s t u : State} {m : MoverId} {id : Nat}

/-! ## A grading (R126 to R130) -/

/-- BLOCK told after the watched entries changed: whatever they are now, nothing is open (R127, R150). -/
theorem sound_block_after (hplacing : t.placing = s.placing) (hplan : t.plan = s.plan)
    (hclearance : t.pour.clearance = s.pour.clearance) (hfaults : t.faults.state = s.faults.state)
    (hcondition : t.modes.condition = s.modes.condition) (c : HoldCause) :
    Sound s (t.block c) where
  arranged h := ((Poured.refl t).block c).arranged (h.congr hplacing)
  plan h := by
    have hshape : PlanShaped t.plan t.pour.clearance := by
      rw [hplan, hclearance]
      exact h.shaped
    obtain ⟨hsteps, hnone⟩ := pour_block hshape.ids_nodup c
    refine ⟨?_, fun ho => absurd ho (not_planOpen_block hshape.ids_nodup c)⟩
    rw [State.plan, hsteps, hnone]
    refine hshape.map _ (fun x _ => blockEvent_id c x) (fun x _ hf => .inl ?_) nofun nofun
    rw [blockEvent_state] at hf
    cases hx : x.state <;> simp [hx, StepState.Fixed] at hf ⊢
  empty h := by
    have hempty : t.NoPlan := ⟨hplan.trans h.1, hclearance.trans h.2⟩
    obtain ⟨hsteps, hnone⟩ := pour_block (NoPlan.shaped hempty).ids_nodup c
    rw [noPlan_iff] at hempty ⊢
    exact ⟨by rw [hsteps, hempty.1]; rfl, hnone⟩
  fault h := by rwa [((Poured.refl t).block c).faults, hfaults]
  condition := (congrArg ModeControl.condition ((Poured.refl t).block c).modes).trans hcondition

theorem sound_block_margins {x : MarginMonitor} (h : Steady (s.setMargins x) t) (c : HoldCause) : Sound s (t.block c) := by
  obtain ⟨hplan, hclearance, hfaults, -, -, hcondition⟩ := planning_iff.1 h.planning
  exact sound_block_after (s := s) h.placing hplan hclearance hfaults hcondition c

/-- The watched entries take a value in which nothing blocks that did not block before. -/
theorem sound_setMargins (s : State) (x : MarginMonitor) (h : s.margins.Quiet → x.Quiet) : Sound s (s.setMargins x) where
  arranged g := g.congr rfl
  plan g := ⟨g.shaped, fun ho => by
    obtain ⟨h1, h2, h3⟩ := g.clear ho
    exact ⟨h h1, h2, h3⟩⟩
  empty g := g
  fault g := g
  condition := rfl

theorem Steady.raiseGraded (h : Steady s t) (g : Graded) : Steady s (t.raiseGraded g) := by
  unfold State.raiseGraded
  split
  · exact h.raise _
  · split
    · cases g.after.state with
      | caution => exact h.raise _
      | indeterminate => exact h.raise _
      | off => exact h
      | clear => exact h
      | limit => exact h
      | breach => exact h
    · exact h

/-- The entries after a grading. -/
def gradedMargins (s : State) (c : Condition) : MarginMonitor :=
  ⟨Vector.ofFn fun i : Fin 36 => (s.gradeEntry c i.val).after, some c.stamp⟩

theorem quiet_gradedMargins (s : State) (c : Condition) (h : ¬ ∃ i ∈ List.range 36, (s.gradeEntry c i).cameIn = true)
    (hq : s.margins.Quiet) : (gradedMargins s c).Quiet := by
  intro i hi
  have hi' : i < 36 := List.mem_range.1 hi
  have hentry : ((gradedMargins s c).entries[i]?).getD ⟨none, none, .off, .plus, none⟩ = (s.gradeEntry c i).after := by
    simp [gradedMargins, hi']
  rw [hentry]
  by_contra hb
  refine h ⟨i, hi, (cameIn_gradeEntry s c i).2 ⟨by simpa using hb, .inl ?_⟩⟩
  have hold := (quiet_iff s).1 hq i hi
  rw [hold]
  exact Bool.false_ne_true

/-- A grading and the one thing that it tells the plan. -/
theorem sound_tellBlocking (s : State) (c : Condition) :
    Sound s ((((List.range 36).map (s.gradeEntry c)).foldl State.raiseGraded (s.setMargins (gradedMargins s c))).tellBlocking
      ((List.range 36).map (s.gradeEntry c))) := by
  have hsteady : Steady (s.setMargins (gradedMargins s c))
      (((List.range 36).map (s.gradeEntry c)).foldl State.raiseGraded (s.setMargins (gradedMargins s c))) :=
    (Steady.refl _).foldl _ fun _ g h => h.raiseGraded g
  have hmargins := sound_setMargins s (gradedMargins s c)
  generalize ((List.range 36).map (s.gradeEntry c)).foldl State.raiseGraded (s.setMargins (gradedMargins s c)) = v
    at hsteady ⊢
  have hblock := sound_block_margins hsteady
  rw [tellBlocking_gradeEntry]
  split
  · exact hblock _
  · split
    · exact hblock _
    · rename_i hcame
      have g := (hmargins (quiet_gradedMargins s c hcame)).steady hsteady
      split
      · exact g.judgeRelease
      · exact g

theorem Sound.askGraded (h : Sound s t) (g : Graded) : Sound s (t.askGraded g) := by
  unfold State.askGraded
  split
  · exact h.askCorrection _ _
  · exact h

theorem Sound.handBreach (h : Sound s t) (g : Graded) : Sound s (t.handBreach g) := by
  unfold State.handBreach
  split
  · exact h.class1 _
  · exact h

/-- A publication is graded (R119, R126 to R130). -/
theorem sound_gradePublication (s : State) (c : Condition) : Sound s (s.gradePublication c) := by
  have h := sound_tellBlocking s c
  unfold State.gradePublication
  dsimp only
  rw [setGraded_eq, gradedList_eq]
  exact Sound.foldl _ (fun _ m g => g.relieveActive m) (Sound.foldl _ (fun _ id g => g.relievePending id)
    (Sound.foldl _ (fun _ x g => g.handBreach x) (Sound.foldl _ (fun _ x g => g.askGraded x) h)))

theorem Sound.retryCorrections (h : Sound s t) : Sound s t.retryCorrections := by
  refine h.foldl _ fun u i g => ?_
  split
  · exact g.askCorrection _ _
  · exact g

/-! ## Retirement (R61, R62) -/

theorem mem_stack_of_stackedOn (h : s.stackedOn id = some m) : id ∈ (s.mover m).stack := by
  rw [stackedOn_eq] at h
  simpa using List.find?_some h

/-- A record that is neither ACTIVE nor STACKED is pending (R41). -/
theorem Arranged.mem_queue (g : Arranged [] s) (hactive : s.activeOn id = none) (hstacked : s.stackedOn id = none)
    (h : (s.transfer? id).isSome = true) : id ∈ s.transfers.queue := by
  obtain ⟨x, hx⟩ := Option.isSome_iff_exists.1 h
  obtain ⟨hmem, hid⟩ := mem_of_transfer hx
  have hin : id ∈ s.ids := hid ▸ List.mem_map_of_mem hmem
  have hnot (m : MoverId) : (s.mover m).holds.count id = 0 := by
    have hm : m ∈ allMovers := by cases m <;> simp [allMovers]
    rw [State.activeOn, List.find?_eq_none] at hactive
    rw [stackedOn_eq, List.find?_eq_none] at hstacked
    have hrun := hactive m hm
    have hstack := hstacked m (by cases m <;> simp)
    rw [decide_eq_true_iff] at hrun hstack
    refine List.count_eq_zero.2 fun hh => ?_
    rcases List.mem_append.1 hh with hh | hh
    · exact hrun (by simpa using hh)
    · exact hstack hh
  have hcount := g.count id
  have hplaced := count_placed s id
  rw [hnot, hnot, hnot] at hplaced
  have hpos := List.count_pos_iff.2 hin
  rw [List.count_nil] at hcount
  exact List.count_pos_iff.1 (by omega)

theorem Sound.retire (h : Sound s t) (id : Nat) : Sound s (t.retire id) := by
  unfold State.retire
  split
  · exact Sound.ite _ h (h.steady ((Steady.refl t).enterStop _ _ _))
  · rename_i hactive
    split
    · rename_i m hstacked
      have g : Sound s ((t.unstack m id).freeRecord id) :=
        h.arbiter ((((Arbitrated.refl t).setMover m _).setTransfers _).setTransfers _) fun g =>
          (g.unstack (mem_stack_of_stackedOn hstacked)).freeRecord
      exact (g.noticeFreed id .retired).pairWindow true
    · rename_i hstacked
      refine Sound.when _ (fun hsome => ?_) h
      have g : Sound s (t.freeRecord id) :=
        h.arbiter (((Arbitrated.refl t).setTransfers _).setTransfers _) fun g =>
          g.freeQueued (g.mem_queue hactive hstacked hsome)
      exact (g.noticeFreed id .retired).pairWindow true

theorem Sound.retirePaired (h : Sound s t) (p : Pairing) (step : Nat) : Sound s (t.retirePaired p step) := by
  unfold State.retirePaired
  split
  · exact Sound.ite _ (h.retire _) h
  · exact h

end

end Sys2Proof.Machine

/-! # What moves no record and touches no plan -/

namespace Sys2Proof.Machine

section
variable {s t : State} (h : Steady s t)
include h

/-! ## Links -/

theorem Steady.setModes (x : ModeControl) (hmode : x.mode = t.modes.mode) (hcondition : x.condition = t.modes.condition) :
    Steady s (t.setModes x) :=
  h.trans ⟨rfl, by simp only [State.planning, modes_setModes, hmode, hcondition]; rfl⟩

theorem Steady.send (o : Output) : Steady s (t.send o) := h.setSent _

theorem Steady.setRx (l : Link) (r : ReceiveSide) : Steady s (t.setRx l r) := by
  cases l with
  | console => exact h.setConsole _
  | shore => exact h.setShore _

theorem Steady.pauseIfFull (l : Link) : Steady s (t.pauseIfFull l) := by
  unfold State.pauseIfFull
  dsimp only
  split
  · exact (h.setRx l _).send _
  · exact h

theorem Steady.resumeIfLow (l : Link) : Steady s (t.resumeIfLow l) := by
  unfold State.resumeIfLow
  dsimp only
  split
  · exact (h.setRx l _).send _
  · exact h

theorem Steady.queueCharacter (l : Link) (c : Byte) : Steady s (t.queueCharacter l c) := by
  unfold State.queueCharacter
  dsimp only
  split
  · exact (h.setRx l _).pauseIfFull l
  · exact h.setRx l _

omit h in
/-- What happens on the links alone. -/
theorem steady_of_outsideLinks (e : t.outsideLinks = s.outsideLinks) : Steady s t := by
  rw [eq_of_outsideLinks e]
  exact (((Steady.refl s).setConsole _).setComposer _).setShore _

theorem Steady.startConsole : Steady s t.startConsole :=
  h.trans (steady_of_outsideLinks (Transmits.refl t).startConsole.frame)

theorem Steady.reply (v : Verb) (fields : List Field) : Steady s (t.reply v fields) :=
  h.trans (steady_of_outsideLinks (reply_replies t v fields).frame)

theorem Steady.refuse (v : Verb) (c : RefCode) : Steady s (t.refuse v c) :=
  h.trans (steady_of_outsideLinks (refuse_replies t v c).frame)

theorem Steady.consoleLine (l : Line) : Steady s (t.consoleLine l) :=
  h.trans (steady_of_outsideLinks (consoleLine_replies t l).frame)

theorem Steady.holdLink (l : Link) : Steady s (t.holdLink l) := by
  cases l with
  | console =>
    unfold State.holdLink
    dsimp only
    split
    · exact h
    · exact h.setConsole _
  | shore => exact h.setShore _

theorem Steady.unholdLink (l : Link) : Steady s (t.unholdLink l) := by
  cases l with
  | console => exact (h.setConsole _).startConsole
  | shore => exact h.setShore _

theorem Steady.terminate (l : Link) (e : Ending) : Steady s (t.terminate l e) := by
  unfold State.terminate
  dsimp only
  split
  · cases l with
    | console => exact (h.setRx .console _).consoleLine _
    | shore => exact (h.setRx .shore _).shoreReply _
  · exact h.setRx l _

theorem Steady.parseOne (l : Link) : Steady s (t.parseOne l) := by
  unfold State.parseOne
  split
  · split
    · exact h
    · rename_i c rest _
      have g := (h.setRx l { t.rx l with queue := rest, parser := ((t.rx l).parser.step c).1 }).resumeIfLow l
      dsimp only
      split
      · exact g.terminate l _
      · exact g
  · exact h

theorem Steady.markReset (l : Line) : Steady s (t.markReset l) := by
  unfold State.markReset
  split
  · split
    · exact h.setModes _ (by rfl) (by rfl)
    · exact h
  · exact h

theorem Steady.lineDone : Steady s t.lineDone := by
  unfold State.lineDone
  split
  · exact (((h.send _).setConsole _).markReset _).startConsole
  · exact h

theorem Steady.shoreLineDone : Steady s t.shoreLineDone := by
  unfold State.shoreLineDone
  split
  · exact (h.send _).setShore _
  · exact h

/-! ## The Condition Unit -/

theorem Steady.requestEvaluation : Steady s t.requestEvaluation := by
  obtain ⟨q, e, -⟩ := requestEvaluation_eq t
  rw [e]
  exact h.setCond q

theorem Steady.massChange : Steady s t.massChange := (h.setCond _).requestEvaluation

theorem Steady.beginPrediction : Steady s t.beginPrediction := by
  unfold State.beginPrediction
  split
  · exact h
  · exact h.setCond _

theorem Steady.nextRun : Steady s t.nextRun := by
  unfold State.nextRun
  split
  · exact (h.setCond _).setCond _
  · split
    · split
      · exact h
      · exact h.beginPrediction
    · exact h

theorem Steady.askPrediction (a b c : Nat) : Steady s (t.askPrediction a b c) := by
  unfold State.askPrediction
  split
  · exact h
  · dsimp only
    split
    · exact h.setCond _
    · exact (h.setCond _).beginPrediction

theorem Steady.judgeTide : Steady s t.judgeTide := by
  unfold State.judgeTide
  dsimp only
  split
  · exact (h.setCond _).raise _
  · exact h

/-! ## The field loop -/

theorem Steady.sendFrame (kind : FrameKind) (restart : Bool) : Steady s (t.sendFrame kind restart) := by
  have e := (sendFrame_facts t kind restart).1
  dsimp only at e
  rw [e]
  exact (h.setSent _).setLoop _

theorem Steady.takeScan (w : ScanWindow) : Steady s (t.takeScan w) := by
  rw [takeScan_eq]
  exact h.setLoop _

theorem Steady.takeReadings : Steady s t.takeReadings :=
  (h.setLoop _).foldl _ fun _ m g => g.setMover m _ rfl rfl

theorem Steady.gradePoints : Steady s t.gradePoints.1 := by
  have key : ∀ (l : List (Nat × Role)) (x : State × List HandedPoint), Steady s x.1 →
      Steady s (l.foldl State.gradePoint x).1 := by
    intro l
    induction l with
    | nil => exact fun _ g => g
    | cons q rest ih =>
      refine fun x g => ih _ ?_
      unfold State.gradePoint
      dsimp only
      split <;> exact g.setLoop _
  exact key _ _ h

theorem Steady.noticePoint (p : HandedPoint) : Steady s (t.noticePoint p) := by
  unfold State.noticePoint
  dsimp only
  split
  · exact h.raise _
  · exact h

theorem Steady.clearGaugeDue : Steady s t.clearGaugeDue := h.foldl _ fun _ m g => g.setMover m _ rfl rfl

theorem Steady.windowRule (n v : Nat) : Steady s (t.windowRule n v) := by
  unfold State.windowRule
  split
  · exact h.setOrigin _ _
  · exact h

theorem Steady.convertTank (n : Nat) : Steady s (t.convertTank n) := by
  have g := h.setTank n ((t.tank n).afterReading ((t.goodReading n).map (convertRaw t.parts n)))
  unfold State.convertTank
  dsimp only
  split <;> split
  · exact (g.raise _).windowRule n _
  · exact g.windowRule n _
  · exact g.raise _
  · exact g

theorem Steady.tanksCommit : Steady s t.tanksCommit := by
  have g : Steady s ((definedTanks t.parts).foldl State.convertTank t) := h.foldl _ fun _ n g => g.convertTank n
  unfold State.tanksCommit
  dsimp only
  split
  · exact g
  · exact g.massChange

end

/-! ## The commit of a scan, and its failure -/

section
variable {s t : State}

/-- A commit up to the confirmation of a halt stop (R30, log 9). -/
theorem sound_handed (s : State) (w : ScanWindow) (lost : State → State → MoverId → Bool)
    (handed : State → MoverId → List Disagreement) :
    let graded := ((s.takeScan w).takeReadings).gradePoints
    let s1 := (graded.2.foldl State.noticePoint graded.1).tanksCommit
    Sound s (graded.1.astrayPumps.foldl (fun s a => s.class1 (.pumpAstray a))
      (allMovers.foldl (fun s m => s.moverCommit m (lost graded.1 s1 m) (handed s1 m)) s1.clearGaugeDue)) := by
  intro graded s1
  have h0 : Steady s graded.1 := ((Steady.refl s).takeScan w).takeReadings.gradePoints
  have h1 : Steady s s1.clearGaugeDue := (h0.foldl _ fun _ p g => g.noticePoint p).tanksCommit.clearGaugeDue
  exact Sound.foldl _ (fun _ _ g => g.class1 _) (Sound.foldl _ (fun _ m g => g.moverCommit m _ _) h1.sound)

/-- Outside HALT-STOPPING a commit confirms nothing (R162). -/
theorem sound_commitScan (s : State) (w : ScanWindow) (h : s.faults.state ≠ .haltStopping) : Sound s (s.commitScan w) := by
  unfold State.commitScan
  dsimp only
  rw [if_neg h]
  exact (sound_handed s w State.gaugeLostHanded fun u m =>
    u.handedTo m ((s.takeScan w).takeReadings).gradePoints.2).pourCommit

theorem Sound.failWindow (h : Sound s t) (w : ScanWindow) : Sound s (t.failWindow w) := by
  unfold State.failWindow State.failRestartScan State.failScan
  split
  · exact h.steady (((Steady.refl t).setLoop _).setFaults _ (by rfl))
  · dsimp only
    split
    · exact (h.steady ((Steady.refl t).setLoop _)).class1 _
    · exact h.steady ((Steady.refl t).setLoop _)

end

end Sys2Proof.Machine

/-! # What every command keeps of the records and of the plan -/

namespace Sys2Proof.Machine

/-- Every record stays in one place, the plan stays safe, and whether the part runs stays as it is. -/
structure Grows (s t : State) : Prop where
  arranged : Arranged [] s → Arranged [] t
  plan : PlanSafe s → PlanSafe t
  condition : t.modes.condition = s.modes.condition

/-- As before, and no step and no clearance arises where there was none. -/
structure Holds (s t : State) : Prop extends Grows s t where
  empty : s.NoPlan → t.NoPlan

section
variable {s t u : State}

theorem Sound.holds (h : Sound s t) : Holds s t := ⟨⟨h.arranged, h.plan, h.condition⟩, h.empty⟩

theorem Sound.grows (h : Sound s t) : Grows s t := h.holds.toGrows

theorem Steady.grows (h : Steady s t) : Grows s t := h.sound.grows

theorem Grows.trans (h : Grows s t) (g : Grows t u) : Grows s u :=
  ⟨g.arranged ∘ h.arranged, g.plan ∘ h.plan, g.condition.trans h.condition⟩

theorem Holds.trans (h : Holds s t) (g : Holds t u) : Holds s u :=
  ⟨h.toGrows.trans g.toGrows, g.empty ∘ h.empty⟩

/-! ## The invariants -/

/-- What every command keeps of the two invariants. -/
structure Safe (s t : State) : Prop where
  placed : TransfersPlaced s → AtRest s → TransfersPlaced t
  pour : PourSafe s → PourSafe t

theorem Safe.refl (s : State) : Safe s s := ⟨fun h _ => h, id⟩

theorem records_of_placing (e : t.placing = s.placing) (h : s.transfers.records = []) : t.transfers.records = [] := by
  have e' := congrArg Prod.fst e
  simp only [State.placing, h, List.map_nil, List.map_eq_nil_iff] at e'
  exact e'

/-- On a part at rest, which has no record, no record arises. -/
theorem Holds.safe (h : Holds s t) (hr : AtRest s → s.modes.condition ≠ .running → t.placing = s.placing) : Safe s t where
  placed g rest := by
    rw [transfersPlaced_iff] at g ⊢
    obtain ⟨harranged, hrecords⟩ := g
    refine ⟨h.arranged harranged, fun hc => ?_⟩
    rw [h.condition] at hc
    exact records_of_placing (hr rest hc) (hrecords hc)
  pour g := by
    rw [pourSafe_iff] at g ⊢
    obtain ⟨hplan, hempty⟩ := g
    refine ⟨h.plan hplan, fun hc => ?_⟩
    rw [h.condition] at hc
    exact h.empty (hempty hc)

theorem Steady.safe (h : Steady s t) : Safe s t := h.sound.holds.safe fun _ _ => h.placing

theorem Grows.safe (h : Grows s t) (hr : s.modes.condition = .running) : Safe s t where
  placed g _ := by
    rw [transfersPlaced_iff] at g ⊢
    exact ⟨h.arranged g.1, fun hc => absurd (h.condition.trans hr) hc⟩
  pour g := by
    rw [pourSafe_iff] at g ⊢
    exact ⟨h.plan g.1, fun hc => absurd (h.condition.trans hr) hc⟩

/-- What a part at rest never does. -/
theorem Holds.safeActive (h : Holds s t) (hr : AtRest s → s.modes.condition = .running) : Safe s t :=
  h.safe fun rest hc => absurd (hr rest) hc

theorem transfersPlaced_of_cleared {n : Nat} (htransfers : t.transfers.records = [] ∧ t.transfers.queue = [])
    (hmovers : t.movers = Movers.blank n) : TransfersPlaced t := by
  obtain ⟨hrecords, hqueue⟩ := htransfers
  simp [TransfersPlaced, hrecords, hqueue, State.placed, allMovers, State.mover, hmovers, Movers.blank, Mover.blank]

theorem pourSafe_of_cleared (h : t.pour.steps = [] ∧ t.pour.clearance = none) : PourSafe t := by
  obtain ⟨hsteps, hclearance⟩ := h
  simp [PourSafe, hsteps, hclearance, State.pourAllowed]

/-- A part without records, ids in slots, steps and clearance. -/
theorem safe_of_cleared {n : Nat} (htransfers : t.transfers.records = [] ∧ t.transfers.queue = [])
    (hmovers : t.movers = Movers.blank n) (hplan : t.pour.steps = [] ∧ t.pour.clearance = none) : Safe s t :=
  ⟨fun _ _ => transfersPlaced_of_cleared htransfers hmovers, fun _ => pourSafe_of_cleared hplan⟩

/-! ## Operations outside the work of the blocks -/

/-- The Fault Supervisor takes a value: from a state other than NORMAL, where nothing is open, or to NORMAL. -/
theorem holds_setFaults (s : State) (x : FaultSupervisor) (h : s.faults.state ≠ .normal ∨ x.state = .normal) :
    Holds s (s.setFaults x) where
  arranged g := g.congr rfl
  plan g := ⟨g.shaped, fun ho => by
    obtain ⟨h1, h2, h3⟩ := g.clear ho
    rcases h with h | h
    · exact absurd h2 h
    · exact ⟨h1, h, h3⟩⟩
  condition := rfl
  empty g := g

theorem holds_confirmHalt (s : State) : Holds s s.confirmHalt := by
  unfold State.confirmHalt
  split
  · rename_i hc
    rw [Bool.and_eq_true, decide_eq_true_iff] at hc
    exact holds_setFaults s _ (.inl (by rw [hc.1]; simp))
  · exact (Sound.refl s).holds

/-- A regular commit (R30). -/
theorem holds_commitScan (s : State) (w : ScanWindow) : Holds s (s.commitScan w) := by
  have h := (sound_handed s w State.gaugeLostHanded fun u m =>
    u.handedTo m ((s.takeScan w).takeReadings).gradePoints.2).holds
  unfold State.commitScan
  dsimp only at h ⊢
  split
  · exact (h.trans (holds_confirmHalt _)).trans (Sound.refl _).pourCommit.holds
  · exact h.trans (Sound.refl _).pourCommit.holds

/-- The plan takes a value. -/
theorem grows_setPour (s : State) (x : PourPlan)
    (hshape : PlanShaped s.plan s.pour.clearance → PlanShaped (x.steps.map PourStep.view) x.clearance)
    (hopen : PlanShaped s.plan s.pour.clearance → PlanOpen (x.steps.map PourStep.view) x.clearance →
      PlanOpen s.plan s.pour.clearance ∨ s.PourClear) : Grows s (s.setPour x) where
  arranged g := g.congr rfl
  plan g := ⟨hshape g.shaped, fun ho => (hopen g.shaped ho).elim g.clear id⟩
  condition := rfl

/-! ## Steps that join and leave the plan (R138, R139, R145, R154) -/

theorem planOpen_mono {l l' : List PourStep} {c : Option Nat}
    (h : ∀ x ∈ l', x.state.Open → x ∈ l) (ho : PlanOpen (l'.map PourStep.view) c) : PlanOpen (l.map PourStep.view) c := by
  rcases ho with hc | ⟨q, hq, ho⟩
  · exact .inl hc
  · obtain ⟨x, hx, rfl⟩ := List.mem_map.1 hq
    exact .inr ⟨x.view, List.mem_map_of_mem (h x hx ho), ho⟩

/-- A new PLANNED step joins a plan: elsewhere than at the head, or before a head that nothing is fixed to. -/
theorem PlanShaped.insert {pre post : List PourStep} {c : Option Nat} {x : PourStep}
    (h : PlanShaped ((pre ++ post).map PourStep.view) c) (hstate : x.state = .planned)
    (hnew : x.id ∉ (pre ++ post).map PourStep.id)
    (hhead : pre = [] → c = none ∧ ∀ y, post.head? = some y → ¬ y.state.Fixed) :
    PlanShaped ((pre ++ x :: post).map PourStep.view) c := by
  have hnodup := h.nodup
  rw [view_ids] at hnodup
  have hperm : (pre ++ x :: post).Perm (x :: (pre ++ post)) := List.perm_middle
  have hmem : ∀ q ∈ (pre ++ x :: post).map PourStep.view, q.2.Fixed → q ∈ (pre ++ post).map PourStep.view := by
    intro q hq hf
    obtain ⟨y, hy, rfl⟩ := List.mem_map.1 hq
    rcases List.mem_cons.1 (hperm.mem_iff.1 hy) with rfl | hy
    · change y.state.Fixed at hf
      rw [hstate] at hf
      rcases hf with hf | hf | hf <;> cases hf
    · exact List.mem_map_of_mem hy
  refine ⟨?_, fun q hq hf => ?_, fun id hc => ?_⟩
  · rw [view_ids, (hperm.map _).nodup_iff]
    exact List.nodup_cons.2 ⟨hnew, hnodup⟩
  · have hq' := h.head q (hmem q hq hf) hf
    cases pre with
    | nil =>
      exfalso
      obtain ⟨-, hfree⟩ := hhead rfl
      rw [List.nil_append, List.head?_map] at hq'
      obtain ⟨y, hy, rfl⟩ := Option.map_eq_some_iff.1 hq'
      exact hfree y hy hf
    | cons z pre => exact hq'
  · have hq' := h.clearance id hc
    cases pre with
    | nil =>
      obtain ⟨hnone, -⟩ := hhead rfl
      rw [hnone] at hc
      cases hc
    | cons z pre => exact hq'

/-- A step leaves a plan in which no clearance is for it. -/
theorem PlanShaped.remove {l : List PourStep} {c : Option Nat} (h : PlanShaped (l.map PourStep.view) c) {id : Nat}
    (hc : c ≠ some id) : PlanShaped ((l.filter fun x => decide (x.id ≠ id)).map PourStep.view) c := by
  have hnodup := h.nodup
  rw [view_ids] at hnodup
  have hkeep : ∀ y : PourStep, l.head? = some y → y.id ≠ id → (l.filter fun x => decide (x.id ≠ id)).head? = some y := by
    intro y hy hne
    cases l with
    | nil => cases hy
    | cons z l =>
      obtain rfl := Option.some.inj hy
      rw [List.filter_cons_of_pos (by simpa using hne)]
      rfl
  refine ⟨?_, fun q hq hf => ?_, fun k hk => ?_⟩
  · rw [view_ids]
    exact hnodup.sublist ((List.filter_sublist).map _)
  · obtain ⟨x, hx, rfl⟩ := List.mem_map.1 hq
    obtain ⟨hx, hne⟩ := List.mem_filter.1 hx
    have hhead := head_of_view hnodup hx (h.head x.view (List.mem_map_of_mem hx) hf)
    rw [List.head?_map, hkeep x hhead (by simpa using hne)]
    rfl
  · obtain ⟨x, hx, rfl, hready⟩ := h.head_id hk
    rw [List.head?_map, hkeep x hx fun e => hc (e ▸ hk)]
    exact congrArg some (Prod.ext rfl hready)

end

end Sys2Proof.Machine

/-! # The verbs keep the records and the plan -/

namespace Sys2Proof.Machine

section
variable {s t u : State} {ps : List Int}

/-- A check of a ladder that refuses nothing. -/
theorem check_passes {checks : List (Bool × RefCode)} (h : firstRefusal checks = none) {b : Bool} {c : RefCode}
    (hmem : (b, c) ∈ checks) : b = false := (firstRefusal_none_iff checks).1 h (b, c) hmem

theorem Grows.steady (h : Grows s t) (g : Steady t u) : Grows s u := h.trans g.grows

theorem Grows.reply (h : Grows s t) (v : Verb) (fields : List Field) : Grows s (t.reply v fields) :=
  h.steady ((Steady.refl t).reply v fields)

theorem Grows.shoreReply (h : Grows s t) (l : Line) : Grows s (t.shoreReply l) :=
  h.steady ((Steady.refl t).shoreReply l)

/-! ## The verbs that touch no plan -/

theorem takeLC_grows (s : State) (ps : List Int) : Grows s (s.takeLC ps) :=
  ((Steady.refl s).setModes _ (by rfl) (by rfl)).grows.reply _ _

theorem takeBR_grows (s : State) (ps : List Int) : Grows s (s.takeBR ps) :=
  ((Steady.refl s).setCond _).requestEvaluation.grows.reply _ _

theorem takeTD_grows (s : State) (ps : List Int) : Grows s (s.takeTD ps) :=
  ((Steady.refl s).setCond _).requestEvaluation.grows.reply _ _

theorem takeFW_grows (s : State) (ps : List Int) : Grows s (s.takeFW ps) :=
  ((Steady.refl s).setCond _).massChange.grows.reply _ _

theorem takeHC_grows (s : State) (ps : List Int) : Grows s (s.takeHC ps) :=
  ((Steady.refl s).setPour _ (by rfl) (by rfl)).massChange.grows.reply _ _

theorem takeTO_grows (s : State) (ps : List Int) : Grows s (s.takeTO ps) :=
  ((Steady.refl s).setOrigin _ _).grows.reply _ _

theorem takeTL_grows (s : State) (ps : List Int) : Grows s (s.takeTL ps) :=
  ((Steady.refl s).setTank _ _).grows.reply _ _

theorem takeTU_grows (s : State) (ps : List Int) : Grows s (s.takeTU ps) := by
  have h : Steady s ((s.setLock (parN ps 1) .free).reply .TU [fnat (parN ps 1), .word Lock.free.word]) :=
    ((Steady.refl s).setTank _ _).reply _ _
  unfold State.takeTU
  dsimp only
  split
  · exact h.sound.scan.grows
  · exact h.grows

theorem takeXA_grows (h : firstRefusal (xaChecks s ps) = none) : Grows s (s.takeXA ps) := by
  have hfull : s.tableFull = false := check_passes (c := .full) h (by simp [xaChecks])
  exact ((Sound.refl s).admitTransfer _ true (lt_of_not_full (by simp [hfull]))).grows.reply _ _

theorem takeXQ_grows (s : State) (ps : List Int) : Grows s (s.takeXQ ps) := by
  unfold State.takeXQ
  split
  · split
    · exact (Steady.refl s).grows.reply _ _
    · exact (Steady.refl s).grows
  · exact (Steady.refl s).grows.reply _ _

theorem xcRemove_steady (s : State) (x : Transfer) (i n : Nat) : Steady s (s.xcRemove x i n) := by
  have h := (Steady.refl s).updTransfer x.id (fun y => y.removeEntry i (Config.freeActive s.freeCount))
    fun _ _ _ => ⟨rfl, rfl⟩
  have g : Steady s (if decide (i = x.active) && x.assigned then
      (s.updTransfer x.id fun y => y.removeEntry i (Config.freeActive s.freeCount)).setFreeCount (s.freeCount + 1)
      else s.updTransfer x.id fun y => y.removeEntry i (Config.freeActive s.freeCount)) := by
    split
    · exact h.setFreeCount _
    · exact h
  unfold State.xcRemove
  dsimp only
  split
  · exact g.releaseTank n
  · exact g

theorem xcChange_steady (s : State) (x : Transfer) (ps : List Int) : Steady s (s.xcChange x ps) := by
  unfold State.xcChange
  dsimp only
  split
  · exact (Steady.refl s).updTransfer _ _ fun _ _ _ => ⟨rfl, rfl⟩
  · have h := (Steady.refl s).updTransfer x.id (fun y => y.append (parN ps 2) (parN ps 3)) fun _ _ _ => ⟨rfl, rfl⟩
    split
    · exact h.claimTanks _ _
    · exact h
  · exact xcRemove_steady s x _ _
  · exact Steady.refl s

theorem takeXC_grows (s : State) (ps : List Int) : Grows s (s.takeXC ps) := by
  unfold State.takeXC
  split
  · exact (Steady.refl s).grows
  · rename_i x _
    have h := fun fields => (xcChange_steady s x ps).reply .XQ fields
    dsimp only
    split
    · exact (h _).sound.scan.grows
    · exact (h _).grows

theorem takeXR_grows (s : State) (ps : List Int) : Grows s (s.takeXR ps) :=
  ((Sound.refl s).retire _).grows.reply _ _

theorem takeMR_grows (s : State) (ps : List Int) : Grows s (s.takeMR ps) :=
  ((((Steady.refl s).setMoverCause _ _).enterPhase _ _).reply _ _).sound.scan.grows

theorem takeAK_grows (s : State) (ps : List Int) : Grows s (s.takeAK ps) :=
  ((Steady.refl s).setAttention _).grows.reply _ _

theorem takeRP_grows (s : State) (ps : List Int) : Grows s (s.takeRP ps) :=
  (((Steady.refl s).setComposer _).trans (steady_of_outsideLinks (joinReplies_replies _ _).frame)).grows

theorem takeRA_grows (s : State) : Grows s s.takeRA := by
  unfold State.takeRA
  split
  · exact (Steady.refl s).grows
  · exact (((Steady.refl s).setComposer _).setConsole _).grows.reply _ _
  · exact ((Steady.refl s).setComposer _).grows.reply _ _

theorem takeSS_grows (s : State) (ps : List Int) : Grows s (s.takeSS ps) := by
  unfold State.takeSS
  dsimp only
  split
  · exact ((Steady.refl s).setSettings _).grows.reply _ _
  · exact (Steady.refl s).grows.reply _ _

theorem takeSV_grows (s : State) : Grows s s.takeSV := ((Steady.refl s).setSettings _).grows.reply _ _

theorem takePW_grows (s : State) (ps : List Int) : Grows s (s.takePW ps) :=
  ((Steady.refl s).setParticulars _).grows.reply _ _

theorem takePK_grows (s : State) : Grows s s.takePK := by
  unfold State.takePK
  split
  · exact (Steady.refl s).grows.reply _ _
  · exact (((Steady.refl s).setParticulars _).setConsole _).grows

theorem takeRS_grows (s : State) : Grows s s.takeRS :=
  ((Steady.refl s).setModes _ (by rfl) (by rfl)).grows.reply _ _

theorem takeRC_grows (s : State) : Grows s s.takeRC :=
  ((Steady.refl s).setModes _ (by rfl) (by rfl)).grows.reply _ _

/-! ## FA and MD -/

theorem takeFA_grows (s : State) : Grows s s.takeFA :=
  ((holds_setFaults s _ (.inr (by rfl))).toGrows.trans
    (((Sound.refl s.leaveHalt).retryCorrections.pairWindow true).judgeRelease).grows).reply _ _

/-- In a plan where nothing is open the mode may change. -/
theorem grows_closed (hplacing : t.placing = s.placing) (hplan : t.plan = s.plan)
    (hclearance : ∀ id, t.pour.clearance = some id → s.pour.clearance = some id)
    (hcondition : t.modes.condition = s.modes.condition)
    (hclosed : PlanSafe s → ¬ PlanOpen t.plan t.pour.clearance) : Grows s t where
  arranged g := g.congr hplacing
  plan g := by
    obtain ⟨hnodup, hhead, hready⟩ := g.shaped
    refine ⟨⟨by rw [hplan]; exact hnodup, by rw [hplan]; exact hhead, fun id hc => ?_⟩, fun ho => absurd ho (hclosed g)⟩
    rw [hplan]
    exact hready id (hclearance id hc)
  condition := hcondition

theorem not_planOpen_iff (l : List PourStep) (c : Option Nat) : ¬ PlanOpen (l.map PourStep.view) c ↔
    c = none ∧ ¬ ∃ x ∈ l, x.state = .granted ∨ x.state = .pouring := by
  simp [PlanOpen, PourStep.view, StepState.Open]

/-- A mode is left: a clearance has ended then, and without a grant or a pour nothing is open (R198, R199). -/
theorem leaveMode_grows (new : Mode) (hactive : s.pourActive = false) :
    Grows s ((s.setModes { s.modes with mode := new }).leaveMode s.modes.mode) := by
  have hno : ¬ ∃ x ∈ s.pour.steps, x.state = .granted ∨ x.state = .pouring := by
    rw [← pourActive_iff, hactive]
    exact Bool.false_ne_true
  have hother (h : s.modes.mode ≠ .berth) : PlanSafe s → ¬ PlanOpen s.plan s.pour.clearance := fun g ho => by
    obtain ⟨-, -, hmode⟩ := g.clear ho
    exact h hmode
  cases hm : s.modes.mode with
  | standby => exact grows_closed rfl rfl (fun _ hc => hc) rfl (hother (by simp [hm]))
  | passage => exact grows_closed rfl rfl (fun _ hc => hc) rfl (hother (by simp [hm]))
  | commission => exact grows_closed rfl rfl (fun _ hc => hc) rfl (hother (by simp [hm]))
  | berth =>
    have hpoured := (Poured.refl (s.setModes { s.modes with mode := new })).endClearance (refusalLine .CQ .mode)
    have hpour := pour_endClearance (s.setModes { s.modes with mode := new }) (refusalLine .CQ .mode)
    change Grows s ((s.setModes { s.modes with mode := new }).endClearance (refusalLine .CQ .mode))
    generalize (s.setModes { s.modes with mode := new }).endClearance (refusalLine .CQ .mode) = v at hpoured hpour ⊢
    refine grows_closed ?_ ?_ ?_ (by rw [hpoured.modes]; rfl) fun _ => ?_
    · simp only [State.placing, State.mover, hpoured.transfers, hpoured.movers]
      rfl
    · rw [State.plan, hpour]
      rfl
    · rw [hpour]
      exact nofun
    · rw [State.plan, hpour, not_planOpen_iff]
      exact ⟨rfl, hno⟩

theorem enterMode_grows (s : State) (new : Mode) : Grows s (s.enterMode new) := by
  cases new with
  | standby => exact (Steady.refl s).grows
  | passage => exact (Steady.refl s).grows
  | commission => exact ((Steady.refl s).setParticulars _).grows
  | berth => exact ((Sound.refl s).pairWindow true).judgeRelease.grows

theorem takeMD_grows (h : firstRefusal (mdChecks s ps) = none) : Grows s (s.takeMD ps) := by
  have hbusy : (s.moverBusy || !s.transfers.records.isEmpty || s.pourActive) = false :=
    check_passes (c := .busy) h (by simp [mdChecks])
  rw [Bool.or_eq_false_iff] at hbusy
  obtain ⟨-, hactive⟩ := hbusy
  have hchange : Grows s (s.changeMode (Mode.ofParam (par ps 1))) := by
    unfold State.changeMode
    dsimp only
    split
    · exact (Steady.refl s).grows
    · exact (leaveMode_grows _ hactive).trans (enterMode_grows _ _)
  exact (hchange.steady (Steady.refl _).requestEvaluation).reply _ _

end

end Sys2Proof.Machine

/-! # The verbs of the plan and of the shore keep the plan safe -/

namespace Sys2Proof.Machine

section
variable {s t : State} {ps : List Int} {id : Nat} {x : PourStep}

/-! ## Steps by their ids -/

theorem mem_of_step (h : s.step? id = some x) : x ∈ s.pour.steps ∧ x.id = id :=
  ⟨List.mem_of_find?_eq_some h, by simpa using List.find?_some h⟩

theorem not_mem_of_step (h : s.step? id = none) : id ∉ s.pour.steps.map PourStep.id := by
  intro hin
  obtain ⟨x, hx, hid⟩ := List.mem_map.1 hin
  rw [State.step?, List.find?_eq_none] at h
  exact h x hx (decide_eq_true hid)

theorem isHead_iff : s.isHead id = true ↔ ∃ x, s.pour.steps.head? = some x ∧ x.id = id := by
  rw [State.isHead, decide_eq_true_iff, Option.map_eq_some_iff]
  rfl

/-- A GRANTED, POURING or HELD step is the head, and no clearance is in progress. -/
theorem PlanShaped.fixed_head (h : PlanShaped s.plan s.pour.clearance) (hx : x ∈ s.pour.steps) (hf : x.state.Fixed) :
    s.pour.steps.head? = some x ∧ s.pour.clearance = none := by
  have hhead : s.pour.steps.head? = some x :=
    head_of_view h.ids_nodup hx (h.head x.view (List.mem_map_of_mem hx) hf)
  refine ⟨hhead, ?_⟩
  cases hc : s.pour.clearance with
  | none => rfl
  | some k =>
    obtain ⟨y, hy, -, hready⟩ := PlanShaped.head_id h hc
    rw [hhead] at hy
    obtain rfl := Option.some.inj hy
    rw [hready] at hf
    rcases hf with hf | hf | hf <;> cases hf

/-! ## PA and PI (R138, R139) -/

/-- A new step joins the plan and opens nothing. -/
theorem grows_insert {pre post : List PourStep} (hsteps : s.pour.steps = pre ++ post) (hstate : x.state = .planned)
    (hnew : s.step? x.id = none)
    (hhead : PlanShaped s.plan s.pour.clearance → pre = [] →
      s.pour.clearance = none ∧ ∀ y, post.head? = some y → ¬ y.state.Fixed) :
    Grows s (s.setPour { s.pour with steps := pre ++ x :: post }) := by
  refine grows_setPour s _ (fun h => ?_) fun h ho => .inl (planOpen_mono (fun y hy hopen => ?_) ho)
  · have hplan : s.plan = (pre ++ post).map PourStep.view := by rw [State.plan, hsteps]
    have hnot := not_mem_of_step hnew
    rw [hsteps] at hnot
    rw [hplan] at h
    exact h.insert hstate hnot (hhead (by rw [hplan]; exact h))
  · rw [hsteps]
    rcases List.mem_cons.1 (List.perm_middle.mem_iff.1 hy) with rfl | hy
    · rw [hstate] at hopen
      rcases hopen with hopen | hopen <;> cases hopen
    · exact hy

theorem takePA_grows (h : firstRefusal (paChecks s ps) = none) : Grows s (s.takePA ps) := by
  have hnew : s.inPlan (parN ps 1) = false := check_passes (c := .state) h (by simp [paChecks])
  have hnone : s.step? (paStep ps).id = none :=
    Option.not_isSome_iff_eq_none.1 (by rw [State.inPlan] at hnew; exact Bool.eq_false_iff.1 hnew)
  have g : Grows s (s.setPour { s.pour with steps := s.pour.steps ++ [paStep ps] }) :=
    grows_insert (post := []) (by simp) rfl hnone fun hshape hnil => by
      refine ⟨?_, nofun⟩
      cases hc : s.pour.clearance with
      | none => rfl
      | some k =>
        obtain ⟨y, hy, -⟩ := PlanShaped.head_id hshape hc
        rw [hnil] at hy
        cases hy
  exact (g.trans (Sound.refl _).judgeWindow.grows).reply _ _

/-- A step of the plan with no step of another id before it is the head. -/
theorem isHead_of_takeWhile (hin : s.inPlan id = true)
    (hnil : s.pour.steps.takeWhile (fun y => decide (y.id ≠ id)) = []) : s.isHead id = true := by
  obtain ⟨z, hz⟩ := Option.isSome_iff_exists.1 hin
  obtain ⟨hmem, -⟩ := mem_of_step hz
  cases hl : s.pour.steps with
  | nil =>
    rw [hl] at hmem
    cases hmem
  | cons y l =>
    refine isHead_iff.2 ⟨y, by rw [hl]; rfl, ?_⟩
    by_contra hne
    rw [hl, List.takeWhile_cons_of_pos (by simpa using hne)] at hnil
    cases hnil

/-- The head is not under a clearance when it may be displaced, and is neither GRANTED, POURING nor HELD (R138, R139). -/
theorem displaceable (hshape : PlanShaped s.plan s.pour.clearance) (hhead : s.isHead id = true)
    (hbusy : (s.isHead id && s.underClearance id) = false) (hfixed : s.headFixed id = false) :
    s.pour.clearance = none ∧ ∀ w, s.pour.steps.head? = some w → ¬ w.state.Fixed := by
  obtain ⟨y, hy, hyid⟩ := isHead_iff.1 hhead
  refine ⟨?_, fun w hw hf => ?_⟩
  · cases hc : s.pour.clearance with
    | none => rfl
    | some k =>
      obtain ⟨w, hw, hwid, -⟩ := PlanShaped.head_id hshape hc
      rw [hy] at hw
      obtain rfl := Option.some.inj hw
      have hunder : s.underClearance id = true := underClearance_iff.2 (by rw [hc, ← hwid, hyid])
      rw [hhead, hunder] at hbusy
      cases hbusy
  · rw [hy] at hw
    obtain rfl := Option.some.inj hw
    have hopen : s.headFixed id = true := by
      rw [State.headFixed, hhead, State.headStep, hy, Bool.true_and]
      rcases hf with hf | hf | hf <;> simp [PourStep.pourOpen, hf]
    rw [hfixed] at hopen
    cases hopen

theorem takePI_grows (h : firstRefusal (piChecks s ps) = none) : Grows s (s.takePI ps) := by
  have hstate : (s.inPlan (parN (ps.drop 1) 1) || s.headFixed (parN ps 1)) = false :=
    check_passes (c := .state) h (by simp [piChecks])
  have hbusy : (s.isHead (parN ps 1) && s.underClearance (parN ps 1)) = false :=
    check_passes (c := .busy) h (by simp [piChecks])
  have hplanned : (!s.inPlan (parN ps 1) || !paDefined s.parts (ps.drop 1)) = false :=
    check_passes (c := .none) h (by simp [piChecks])
  rw [Bool.or_eq_false_iff] at hstate hplanned
  obtain ⟨hnew, hfixed⟩ := hstate
  obtain ⟨hin, -⟩ := hplanned
  have hnone : s.step? (paStep (ps.drop 1)).id = none :=
    Option.not_isSome_iff_eq_none.1 (by rw [State.inPlan] at hnew; exact Bool.eq_false_iff.1 hnew)
  have hsplit := (List.takeWhile_append_dropWhile (p := fun y : PourStep => decide (y.id ≠ parN ps 1))
    (l := s.pour.steps)).symm
  have g : Grows s (s.setPour { s.pour with
      steps := insertBefore (paStep (ps.drop 1)) (parN ps 1) s.pour.steps }) := by
    refine grows_insert hsplit rfl hnone fun hshape hnil => ?_
    have hhead : s.isHead (parN ps 1) = true := isHead_of_takeWhile (by simpa using hin) hnil
    rw [hnil, List.nil_append] at hsplit
    rw [← hsplit]
    exact displaceable hshape hhead hbusy hfixed
  exact (g.trans (Sound.refl _).judgeWindow.grows).reply _ _

/-! ## PC and PR (R144, R145) -/

theorem changed_id (y : PourStep) : (y.changed ps).id = y.id := by
  rw [changed_eq]
  split <;> rfl

theorem changed_state (y : PourStep) : (y.changed ps).state = .planned := by
  rw [changed_eq]
  split <;> rfl

theorem takePC_grows (h : firstRefusal (pcChecks s ps) = none) : Grows s (s.takePC ps) := by
  have hbusy : s.underClearance (parN ps 1) = false := check_passes (c := .busy) h (by simp [pcChecks])
  have hfree : s.pour.clearance ≠ some (parN ps 1) := by
    rw [← Bool.not_eq_true, underClearance_iff] at hbusy
    exact hbusy
  have g : Sound s (s.updStep (parN ps 1) fun y => y.changed ps) := by
    have hstate (y : PourStep) : (if y.id = parN ps 1 then y.changed ps else y).state =
        if y.id = parN ps 1 then .planned else y.state := by
      split
      · exact changed_state y
      · rfl
    refine Sound.of_pour ((Poured.refl s).updStep _ _) (fun y => if y.id = parN ps 1 then y.changed ps else y) rfl
      (fun y => ?_) (fun y _ => ?_) (fun y _ => ?_) (fun y _ hc hr => ?_) fun _ hc => hc
    · split
      · exact changed_id y
      · rfl
    · rw [hstate]
      split
      · simp [StepState.Fixed]
      · exact fun hf => hf
    · rw [hstate]
      split
      · simp [StepState.Open]
      · exact fun ho => ho
    · have hne : y.id ≠ parN ps 1 := fun e => hfree (e ▸ hc)
      rw [if_neg hne, hr]
  unfold State.takePC
  dsimp only
  split
  · exact (Steady.refl s).grows
  · split
    · exact (((g.retirePaired _ _).judgePairing _ _).judgeReady _).grows.reply _ _
    · exact ((g.judgePairing _ _).judgeReady _).grows.reply _ _

/-- A step that no clearance is for leaves the plan. -/
theorem removeStep_grows (hfree : PlanShaped s.plan s.pour.clearance → s.pour.clearance ≠ some id) :
    Grows s (s.removeStep id) :=
  grows_setPour s _ (fun h => h.remove (hfree h))
    fun _ ho => .inl (planOpen_mono (fun _ hy _ => (List.mem_filter.1 hy).1) ho)

theorem takePR_grows (h : firstRefusal (prChecks s ps) = none) : Grows s (s.takePR ps) := by
  have hbusy : s.underClearance (parN ps 1) = false := check_passes (c := .busy) h (by simp [prChecks])
  have hfree : s.pour.clearance ≠ some (parN ps 1) := by
    rw [← Bool.not_eq_true, underClearance_iff] at hbusy
    exact hbusy
  unfold State.takePR
  dsimp only
  split
  · exact (Steady.refl s).grows
  · exact ((removeStep_grows fun _ => hfree).trans ((Sound.refl _).retirePaired _ _).judgeWindow.grows).reply _ _

/-! ## CQ and the grant (R146, R147) -/

theorem startClearance_grows (hx : s.step? id = some x) (hready : x.state = .ready) (hhead : s.isHead id = true)
    (hclear : s.PourClear) : Grows s (s.startClearance ps x) := by
  have g : Grows s (s.setPour { s.pour with clearance := some x.id }) := by
    refine grows_setPour s _ (fun hshape => ⟨hshape.nodup, hshape.head, fun k hk => ?_⟩) fun _ _ => .inr hclear
    obtain rfl := Option.some.inj hk
    obtain ⟨y, hy, hyid⟩ := isHead_iff.1 hhead
    obtain ⟨hmem, hxid⟩ := mem_of_step hx
    have hyx : y = x :=
      List.inj_on_of_nodup_map hshape.ids_nodup (List.mem_of_mem_head? hy) hmem (hyid.trans hxid.symm)
    rw [List.head?_map, hy, hyx]
    exact congrArg some (Prod.ext rfl hready)
  exact g.steady (((Steady.refl _).setShore _).askPrediction _ _ _)

theorem pourClear_of (hnormal : s.faults.state = .normal) (hmode : s.modes.mode = .berth)
    (hreading : s.blockingReading = none) : s.PourClear := by
  refine ⟨fun i hi => ?_, hnormal, hmode⟩
  have h := blockingReading_none_iff.1 (by rw [hreading]; rfl) i hi
  change (s.watched i).state.blocks = false
  rcases h with h | h | h <;> rw [h] <;> rfl

theorem takeCQ_grows (h : firstRefusal (cqChecks s ps) = none) : Grows s (s.takeCQ ps) := by
  have hmode : decide (s.modes.mode ≠ .berth) = false := check_passes (c := .mode) h (by simp [cqChecks])
  have hberth : s.modes.mode = .berth := by simpa using hmode
  rw [takeCQ_eq]
  dsimp only
  split
  · exact (Steady.refl s).grows.shoreReply _
  · rename_i hnormal
    split
    · exact (Steady.refl s).grows.shoreReply _
    · rename_i x hx
      split
      · exact (Steady.refl s).grows.shoreReply _
      · rename_i hready
        split
        · exact (Steady.refl s).grows.shoreReply _
        · rename_i hhead
          cases hb : s.blockingReading with
          | some c => exact (Steady.refl s).grows.shoreReply _
          | none =>
            rw [not_not] at hready hnormal
            exact startClearance_grows hx hready.1 (by simpa using hhead) (pourClear_of hnormal hberth hb)

/-- A grant at the end of a clearance: what was open stays allowed (R147). -/
theorem sound_grant (hc : s.pour.clearance = some id) (hx : s.step? id = some x) : Sound s (s.grant x) := by
  obtain ⟨hmem, hxid⟩ := mem_of_step hx
  have hpoured : Poured s (s.grant x) := by
    unfold State.grant
    exact (((Poured.refl s).updStep _ _).setPour _).endClearance _
  have hpour : (s.grant x).pour.steps = (s.pour.steps.map fun y => if y.id = x.id then
      { y with state := .granted, granted := some x.remaining, ceiling := some (y.tally + x.remaining + tolerance x.remaining) }
      else y) ∧ (s.grant x).pour.clearance = none := by
    unfold State.grant
    dsimp only
    rw [pour_endClearance]
    exact ⟨rfl, rfl⟩
  obtain ⟨hsteps, hnone⟩ := hpour
  refine ⟨hpoured.arranged, fun h => ⟨?_, fun _ => ?_⟩, fun h => ?_, fun h => by rw [hpoured.faults]; exact h,
    congrArg ModeControl.condition hpoured.modes⟩
  · rw [State.plan, hsteps, hnone]
    refine PlanShaped.map h.shaped _ (fun y _ => ?_) (fun y hy hf => ?_) nofun nofun
    · split <;> rfl
    · by_cases hyx : y.id = x.id
      · right
        obtain ⟨z, hz, hzid, -⟩ := PlanShaped.head_id h.shaped hc
        rw [hz, List.inj_on_of_nodup_map h.shaped.ids_nodup hy (List.mem_of_mem_head? hz)
          (hyx.trans (hxid.trans hzid.symm))]
      · rw [if_neg hyx] at hf
        exact .inl hf
  · obtain ⟨h1, h2, h3⟩ := h.clear (.inl (by rw [hc]; simp))
    exact ⟨by rw [hpoured.margins]; exact h1, by rw [hpoured.faults]; exact h2, by rw [hpoured.modes]; exact h3⟩
  · rw [h.2] at hc
    cases hc

theorem sound_settled (s : State) (c : Condition) : Sound s (s.settled c) := by
  unfold State.settled
  split
  · exact Sound.refl s
  · rename_i id hc
    split
    · exact (Sound.refl s).endClearance _
    · split
      · rename_i x hx
        exact sound_grant hc hx
      · exact Sound.refl s

theorem Sound.endClearanceHold (h : Sound s t) (w : String) : Sound s (t.endClearanceHold w) := by
  unfold State.endClearanceHold
  split
  · exact h
  · exact h.endClearance _

theorem sound_judgeRun (s : State) (q : PredictionRequest) (r : RunInputs) : Sound s (s.judgeRun q r) := by
  unfold State.judgeRun
  split
  · exact ((Steady.refl s).setCond _).sound.trans (sound_settled _ _)
  · split
    · exact ((Steady.refl s).setCond _).sound
    · exact ((Steady.refl s).setCond _).sound.endClearanceHold _

/-! ## CS, CT and CE (R149, R153, R154) -/

/-- A GRANTED step is POURING. -/
theorem takeCS_grows (h : firstRefusal (csChecks s ps) = none) : Grows s (s.takeCS ps) := by
  have hplan : (!s.inPlan (parN ps 1)) = false := check_passes (c := .none) h (by simp [csChecks])
  have hstate : s.stepIn (parN ps 1) .planned .pouring = false := check_passes (c := .state) h (by simp [csChecks])
  have hlate : s.stepIn (parN ps 1) .ready .held = false := check_passes (c := .late) h (by simp [csChecks])
  obtain ⟨x, hx⟩ : ∃ x, s.step? (parN ps 1) = some x := by
    rw [Bool.not_eq_false', State.inPlan] at hplan
    exact Option.isSome_iff_exists.1 hplan
  obtain ⟨hmem, hxid⟩ := mem_of_step hx
  have hgranted : x.state = .granted := by
    rw [← Bool.not_eq_true, stepIn_iff hx] at hstate hlate
    cases hs : x.state <;> simp [hs] at hstate hlate ⊢
  have hpoured : Poured s (s.setPour { s.pour with
      steps := s.pour.steps.map fun y => if y.id = parN ps 1 then { y with state := .pouring } else y
      grantTimer := none }) := (Poured.refl s).setPour _
  have g : Sound s (s.setPour { s.pour with
      steps := s.pour.steps.map fun y => if y.id = parN ps 1 then { y with state := .pouring } else y
      grantTimer := none }) := by
    refine Sound.of_shaped hpoured fun hshape => ?_
    have honly : ∀ y ∈ s.pour.steps, y.id = parN ps 1 → y = x := fun y hy hid =>
      List.inj_on_of_nodup_map hshape.ids_nodup hy hmem (hid.trans hxid.symm)
    refine Sound.of_pour hpoured _ rfl (fun y => ?_) (fun y hy hf => ?_) (fun y hy ho => ?_)
      (fun y hy _ hr => ?_) fun _ hc => hc
    · split <;> rfl
    · by_cases hid : y.id = parN ps 1
      · rw [honly y hy hid]
        exact .inl hgranted
      · rwa [if_neg hid] at hf
    · by_cases hid : y.id = parN ps 1
      · rw [honly y hy hid]
        exact .inl hgranted
      · rwa [if_neg hid] at ho
    · by_cases hid : y.id = parN ps 1
      · rw [honly y hy hid, hgranted] at hr
        cases hr
      · rw [if_neg hid, hr]
  rw [takeCS_eq hx]
  exact g.grows.shoreReply _

theorem addTally_steady (s : State) (x : PourStep) (n : Nat) : Steady s (s.addTally x n) := by
  unfold State.addTally
  dsimp only
  exact (((Steady.refl s).updStep x.id (fun y => { y with tally := n }) fun _ => ⟨rfl, rfl⟩).setPour _
    (by rfl) (by rfl)).massChange

/-- A POURING or HELD step is held. -/
theorem sound_holdStep (hx : (x.id, x.state) ∈ s.plan) (hfixed : x.state.Fixed) (c : HoldCause) :
    Sound s (s.holdStep x.id c) := by
  have hheld : Sound s (s.updStep x.id fun y => { y with state := .held, cause := some c, granted := none }) := by
    refine Sound.of_shaped ((Poured.refl s).updStep _ _) fun hshape => ?_
    obtain ⟨z, hz, hv⟩ := List.mem_map.1 hx
    have hzid : z.id = x.id := congrArg Prod.fst hv
    have hzfixed : z.state.Fixed := by
      have e : z.state = x.state := congrArg Prod.snd hv
      rw [e]
      exact hfixed
    have honly : ∀ y ∈ s.pour.steps, y.id = x.id → y = z := fun y hy hid =>
      List.inj_on_of_nodup_map hshape.ids_nodup hy hz (hid.trans hzid.symm)
    refine Sound.of_pour ((Poured.refl s).updStep _ _)
      (fun y => if y.id = x.id then { y with state := .held, cause := some c, granted := none } else y) rfl
      (fun y => ?_) (fun y hy hf => ?_) (fun y hy ho => ?_) (fun y hy _ hr => ?_) fun _ hc => hc
    · split <;> rfl
    · by_cases hid : y.id = x.id
      · rw [honly y hy hid]
        exact hzfixed
      · rwa [if_neg hid] at hf
    · by_cases hid : y.id = x.id
      · rw [if_pos hid] at ho
        rcases ho with ho | ho <;> cases ho
      · rwa [if_neg hid] at ho
    · by_cases hid : y.id = x.id
      · rw [honly y hy hid] at hr
        rw [hr] at hzfixed
        rcases hzfixed with hf | hf | hf <;> cases hf
      · rw [if_neg hid, hr]
  exact (hheld.steady ((Steady.refl _).pourMessage _ _)).raise _

/-- The step of a tally is POURING or HELD. -/
theorem tallied (h : firstRefusal (tallyChecks s ps) = none) (hx : s.step? (parN ps 1) = some x) : x.state.Fixed := by
  have hstate : s.notTallied (parN ps 1) = false := check_passes (c := .state) h (by simp [tallyChecks])
  rw [State.notTallied, Bool.not_eq_false', stepIn_iff hx] at hstate
  rcases hstate with hs | hs
  · exact .inr (.inl hs)
  · exact .inr (.inr hs)

theorem takeCT_grows (h : firstRefusal (tallyChecks s ps) = none) : Grows s (s.takeCT ps) := by
  unfold State.takeCT
  split
  · exact (Steady.refl s).grows
  · rename_i x hx
    have hadd := addTally_steady s x (parN ps 2)
    have hview : (x.id, x.state) ∈ (s.addTally x (parN ps 2)).plan := by
      obtain ⟨hplan, -⟩ := planning_iff.1 hadd.planning
      rw [hplan]
      exact List.mem_map_of_mem (f := PourStep.view) (mem_of_step hx).1
    dsimp only
    unfold State.judgeOverrun
    split
    · exact (hadd.sound.trans (sound_holdStep hview (tallied h hx) _)).grows.shoreReply _
    · exact hadd.grows.shoreReply _

theorem takeCE_grows (h : firstRefusal (tallyChecks s ps) = none) : Grows s (s.takeCE ps) := by
  unfold State.takeCE
  split
  · exact (Steady.refl s).grows
  · rename_i x hx
    have hadd := addTally_steady s x (parN ps 2)
    obtain ⟨hplan, hclearance, -⟩ := planning_iff.1 hadd.planning
    have hremove : Grows (s.addTally x (parN ps 2)) ((s.addTally x (parN ps 2)).removeStep x.id) := by
      refine removeStep_grows fun hshape => ?_
      rw [hplan, hclearance] at hshape
      obtain ⟨-, hnone⟩ := hshape.fixed_head (mem_of_step hx).1 (tallied h hx)
      rw [hclearance, hnone]
      simp
    exact ((hadd.grows.trans hremove).trans (Sound.refl _).judgeWindow.grows).shoreReply _

end

end Sys2Proof.Machine

/-! # Every step keeps the transfers in one place and the pour safe (O58, O59) -/

namespace Sys2Proof.Machine

section
variable {s t u : State} {ps : List Int}

/-! ## Requests -/

theorem consoleRequest_safe {v : Verb} {checks : List (Bool × RefCode)} {take : State → State}
    (h : firstRefusal checks = none → Grows s (take s)) : Safe s (s.consoleRequest v ps checks take) := by
  rcases consoleRequest_cases s v ps checks take with e | ⟨-, e⟩ | ⟨-, c, e⟩ | ⟨ht, hf, e⟩ <;> rw [e]
  · exact Safe.refl s
  · exact (((Steady.refl s).setConsole _).refuse v .lost).safe
  · exact ((Steady.refl s).refuse v c).safe
  · have hn : s.consoleTurn v ps ≠ .notTaken := by simp [ht]
    exact (h hf).safe (consoleTurn_room hn).1

theorem shoreRequest_safe {v : Verb} {checks : List (Bool × RefCode)} {take : State → State}
    (h : firstRefusal checks = none → Grows s (take s)) : Safe s (s.shoreRequest v ps checks take) := by
  rcases shoreRequest_cases s v ps checks take with e | ⟨-, e⟩ | ⟨-, c, e⟩ | ⟨ht, hf, e⟩ <;> rw [e]
  · exact Safe.refl s
  · exact (((Steady.refl s).setShore _).shoreReply _).safe
  · exact ((Steady.refl s).shoreReply _).safe
  · exact (h hf).safe (running_of_shoreTurn (v := v) (ps := ps) (by simp [ht]))

/-- A query answers and changes nothing else. -/
theorem reply_grows (s : State) (v : Verb) (fields : List Field) : Grows s (s.reply v fields) :=
  (Steady.refl s).grows.reply v fields

/-! ## The field loop -/

theorem Holds.steady (h : Holds s t) (g : Steady t u) : Holds s u := h.trans g.sound.holds

theorem frameExpiry_safe (s : State) : Safe s s.frameExpiry := by
  have h : Sound s s.frameExpiry := by
    unfold State.frameExpiry
    split
    · exact Sound.refl s
    · rename_i due _
      have g : Sound s (s.reach due) := ((Steady.refl s).setNow _).sound
      dsimp only
      split
      · exact (g.failWindow _).steady (((Steady.refl _).setLoop _).sendFrame _ _)
      · exact g.steady (((Steady.refl _).setLoop _).sendFrame _ _)
  refine h.holds.safe fun rest hr => ?_
  obtain ⟨-, -, ht, -⟩ := rest hr
  unfold State.frameExpiry
  rw [ht]

theorem endRestart_cleared (s : State) : Safe t s.endRestart := by
  have ended := endRestart_ended s _ Iff.rfl
  refine safe_of_cleared ?_ ended.movers ?_
  · rw [ended.transfers, transfers_restartCleared]
    exact ⟨rfl, rfl⟩
  · rw [ended.pour, pour_restartCleared]
    exact ⟨rfl, rfl⟩

theorem commitWindow_safe {w : ScanWindow} (hw : s.loop.window = some w) : Safe s (s.commitWindow w) := by
  unfold State.commitWindow
  split
  · have h := ((Steady.refl s).takeScan w).setLoop { (s.takeScan w).loop with
        allOff := some (s.takeScan w).allOffReading }
    unfold State.commitRestartScan
    dsimp only
    split
    · exact endRestart_cleared _
    · exact (h.setFaults _ (by rfl)).safe
  · exact (holds_commitScan s w).safeActive (running_of_window hw)

theorem report_safe (s : State) (a v : Nat) : Safe s (s.report a v) := by
  unfold State.report
  split
  · exact Safe.refl s
  · rename_i w hw
    split
    · exact commitWindow_safe hw
    · dsimp only
      split
      · exact ((Steady.refl s).setLoop _).safe
      · exact ((Sound.refl s).failWindow w).holds.safeActive (running_of_window hw)

theorem endOfScan_safe (s : State) : Safe s s.endOfScan := by
  unfold State.endOfScan
  split
  · rename_i w hw
    exact commitWindow_safe hw
  · exact Safe.refl s

theorem scanLimit_safe (s : State) : Safe s s.scanLimit := by
  unfold State.scanLimit
  split
  · rename_i w hw
    exact (((Steady.refl s).setNow _).sound.failWindow w).holds.safeActive (running_of_window hw)
  · exact Safe.refl s

/-! ## Runs, timers and store writes -/

theorem evaluationDone_safe (s : State) : Safe s s.evaluationDone := by
  have h : Sound s s.evaluationDone := by
    unfold State.evaluationDone
    split
    · exact Sound.refl s
    · exact (((Steady.refl s).setCond _).sound.trans (sound_gradePublication _ _)).steady
        ((Steady.refl _).setCond _).nextRun
  refine h.holds.safe fun rest hr => ?_
  obtain ⟨-, -, -, he, -⟩ := rest hr
  unfold State.evaluationDone
  rw [he]

theorem predictionDone_safe (s : State) : Safe s s.predictionDone := by
  have h : Sound s s.predictionDone := by
    unfold State.predictionDone
    split
    · exact Sound.refl s
    · refine Sound.steady ?_ (Steady.refl _).nextRun
      have g := ((Steady.refl s).setCond { s.cond with prediction := none }).sound
      dsimp only
      split
      · exact g
      · split
        · exact g.trans (sound_judgeRun _ _ _)
        · exact g
  refine h.holds.safe fun rest hr => ?_
  obtain ⟨-, -, -, -, hp, -⟩ := rest hr
  unfold State.predictionDone
  rw [hp]

theorem tideExpires_safe (s : State) : Safe s s.tideExpires := by
  unfold State.tideExpires State.reach
  dsimp only
  split
  · exact ((((Steady.refl s).setNow _).setCond _).raise _).requestEvaluation.safe
  · exact Safe.refl s

theorem grantExpires_safe (s : State) : Safe s s.grantExpires := by
  unfold State.grantExpires
  split
  · exact Safe.refl s
  · rename_i due _
    have h : Steady s (s.reach (due + Config.grantMs)).stopGrant :=
      ((Steady.refl s).setNow _).setPour _ (by rfl) (by rfl)
    dsimp only
    generalize (s.reach (due + Config.grantMs)).stopGrant = v at h ⊢
    refine (Sound.foldl _ (fun _ x g => g.expireGrant x) h.sound).holds.safe fun _ _ => ?_
    obtain ⟨p, q, e⟩ := expireGrants_frame v.pour.steps v
    rw [e, ← h.placing]
    rfl

theorem Steady.beginAttempt (h : Steady s t) : Steady s t.beginAttempt :=
  ((h.setFaults _ (by rfl)).setLoop _).sendFrame _ _

theorem confirmationExpires_safe (s : State) : Safe s s.confirmationExpires := by
  unfold State.confirmationExpires
  split
  · rename_i due _ hf
    have hn : s.faults.state ≠ .normal := by simp [hf]
    have h : Steady s (s.reach (due + Config.confirmMs)) := (Steady.refl s).setNow _
    have g : Holds s (s.reach (due + Config.confirmMs)).beginRestart :=
      (h.sound.holds.trans (holds_setFaults _ _ (.inl (by exact hn)))).steady (Steady.refl _).beginAttempt
    exact g.safeActive (running_of_fault hn)
  · exact Safe.refl s

theorem attemptExpires_safe (s : State) : Safe s s.attemptExpires := by
  unfold State.attemptExpires
  split
  · exact ((Steady.refl s).setNow _).beginAttempt.safe
  · exact Safe.refl s

theorem completeOriginWrite_safe (s : State) : Safe s s.completeOriginWrite := by
  unfold State.completeOriginWrite
  split
  · exact Safe.refl s
  · exact ((Steady.refl s).setTankTable _).safe

theorem completeSettingsSave_safe (s : State) : Safe s s.completeSettingsSave := by
  rw [completeSettingsSave_eq]
  exact ((Steady.refl s).setSettings _).safe

/-- A commit of the particulars moves no record and no step, and blocks no entry (R118, R202). -/
theorem sound_commitBlock (s : State) (m : Memory) : Sound s (s.commitBlock m) ∧ (s.commitBlock m).placing = s.placing := by
  have hplacing : (s.commitBlock m).placing = s.placing := by
    simp only [State.placing, State.mover, transfers_commitBlock, movers_commitBlock]
  have hplan : (s.commitBlock m).plan = s.plan := by
    rw [State.plan, pour_commitBlock]
    rfl
  have hclearance : (s.commitBlock m).pour.clearance = s.pour.clearance := by
    rw [pour_commitBlock]
    rfl
  refine ⟨⟨fun h => h.congr hplacing, fun h => ⟨?_, fun ho => ?_⟩, fun h => ?_, fun h => ?_, ?_⟩, hplacing⟩
  · rw [hplan, hclearance]
    exact h.shaped
  · rw [hplan, hclearance] at ho
    obtain ⟨h1, h2, h3⟩ := h.clear ho
    refine ⟨fun i hi => ?_, by rw [faults_commitBlock]; exact h2, by rw [modes_commitBlock]; exact h3⟩
    change ((s.commitBlock m).watched i).state.blocks = false
    rw [watched_commitBlock s m (List.mem_range.1 hi)]
    split
    · rfl
    · exact h1 i hi
  · exact ⟨hplan.trans h.1, hclearance.trans h.2⟩
  · rw [faults_commitBlock]
    exact h
  · rw [modes_commitBlock]

theorem commitEffect_safe (s : State) : Safe s s.commitEffect := by
  unfold State.commitEffect
  split
  · exact Safe.refl s
  · rename_i m _
    obtain ⟨h, hplacing⟩ := sound_commitBlock s m
    have g := (Steady.refl (s.commitBlock m)).reply .PK [.word "COMMITTED", fnat m.checksum]
    exact (h.steady g).holds.safe fun _ _ => g.placing.trans hplacing

/-! ## Resets and the start -/

theorem resetTo_safe (s u : State) (c : ResetCause) (k : RunCondition) : Safe s (u.resetTo c k) :=
  safe_of_cleared ⟨rfl, rfl⟩ rfl ⟨rfl, rfl⟩

theorem lineDown_safe (s : State) : Safe s s.lineDown := by
  unfold State.lineDown
  split
  · exact Safe.refl s
  · exact resetTo_safe s _ _ _

theorem powerDown_safe (s : State) : Safe s s.powerDown := by
  unfold State.powerDown
  split
  · exact Safe.refl s
  · exact resetTo_safe s _ _ _

theorem commandResets_safe (s : State) : Safe s s.commandResets := by
  unfold State.commandResets
  split
  · exact Safe.refl s
  · exact resetTo_safe s _ _ _

/-- A part that starts has no record, and no step and no clearance. -/
theorem endStart_safe (hc : s.modes.condition = .startChecks) : Safe s s.endStart := by
  obtain ⟨valid, hvalid⟩ : ∃ valid : Bool, valid = true ↔
      s.particulars.storeBlank = false ∧ s.particulars.store.checksum = s.particulars.storeChecksum :=
    ⟨decide (s.particulars.storeBlank = false ∧ s.particulars.store.checksum = s.particulars.storeChecksum),
      decide_eq_true_iff⟩
  obtain ⟨m, ended⟩ := endStart_ended s valid (endStart_eq s valid hvalid) _ Iff.rfl
  have hr : s.modes.condition ≠ .running := by simp [hc]
  refine ⟨fun g _ => ?_, fun g => ?_⟩
  · obtain ⟨-, hplaced, -, -, hrecords⟩ := g
    rw [hrecords hr, List.map_nil, List.perm_nil, List.append_eq_nil_iff] at hplaced
    refine transfersPlaced_of_cleared ?_ ended.movers
    rw [ended.transfers]
    exact ⟨hrecords hr, hplaced.1⟩
  · rw [pourSafe_iff] at g
    refine pourSafe_of_cleared ?_
    rw [ended.pour]
    exact (noPlan_iff s).1 (g.2 hr)

theorem resetRelease_safe (s : State) :
    Safe s (if s.modes.condition = .inReset then s.setModes { s.modes with condition := .startChecks } else s) := by
  split
  · rename_i hc
    have hr : s.modes.condition ≠ .running := by simp [hc]
    refine ⟨fun g _ => ?_, fun g => ?_⟩
    · rw [transfersPlaced_iff] at g ⊢
      exact ⟨g.1.congr rfl, fun _ => g.2 hr⟩
    · rw [pourSafe_iff] at g
      exact pourSafe_of_cleared ((noPlan_iff s).1 (g.2 hr))
  · exact Safe.refl s

/-! ## Every command -/

theorem ite_running_safe (h : Steady s t) : Safe s (if s.running then t else s) := by
  split
  · exact h.safe
  · exact Safe.refl s

theorem characterReceived_safe (l : Link) (c : Byte) (stopValid : Bool) (s : State) :
    ∃ t, execCharacterReceived l c stopValid s = .next t ∧ Safe s t := by
  refine ⟨_, rfl, ?_⟩
  generalize (if stopValid = true then c else 0) = b
  split
  · exact Safe.refl s
  · split
    · exact ((Steady.refl s).holdLink l).safe
    · split
      · exact ((Steady.refl s).unholdLink l).safe
      · exact ((Steady.refl s).queueCharacter l _).safe

theorem start_safe (s : State) : Safe s (if s.modes.condition = .startChecks then s.endStart else s) := by
  split
  · rename_i hc
    exact endStart_safe hc
  · exact Safe.refl s

/-- Every command keeps the records in one place and the pour safe. -/
theorem exec_safe (c : Instr) (s : State) : ∃ t, exec c s = .next t ∧ Safe s t := by
  cases c with
  | identify ps => exact ⟨_, rfl, consoleRequest_safe fun _ => reply_grows _ _ _⟩
  | mode ps => exact ⟨_, rfl, consoleRequest_safe takeMD_grows⟩
  | location ps => exact ⟨_, rfl, consoleRequest_safe fun _ => takeLC_grows _ _⟩
  | berthRecord ps => exact ⟨_, rfl, consoleRequest_safe fun _ => takeBR_grows _ _⟩
  | tide ps => exact ⟨_, rfl, consoleRequest_safe fun _ => takeTD_grows _ _⟩
  | fixedWeight ps => exact ⟨_, rfl, consoleRequest_safe fun _ => takeFW_grows _ _⟩
  | tankQuery ps => exact ⟨_, rfl, consoleRequest_safe fun _ => reply_grows _ _ _⟩
  | tankOriginDeclare ps => exact ⟨_, rfl, consoleRequest_safe fun _ => takeTO_grows _ _⟩
  | tankLock ps => exact ⟨_, rfl, consoleRequest_safe fun _ => takeTL_grows _ _⟩
  | tankUnlock ps => exact ⟨_, rfl, consoleRequest_safe fun _ => takeTU_grows _ _⟩
  | transferAdmit ps => exact ⟨_, rfl, consoleRequest_safe takeXA_grows⟩
  | transferChange ps => exact ⟨_, rfl, consoleRequest_safe fun _ => takeXC_grows _ _⟩
  | transferRetire ps => exact ⟨_, rfl, consoleRequest_safe fun _ => takeXR_grows _ _⟩
  | transferQuery ps => exact ⟨_, rfl, consoleRequest_safe fun _ => takeXQ_grows _ _⟩
  | moverQuery ps => exact ⟨_, rfl, consoleRequest_safe fun _ => reply_grows _ _ _⟩
  | moverReset ps => exact ⟨_, rfl, consoleRequest_safe fun _ => takeMR_grows _ _⟩
  | planAppend ps => exact ⟨_, rfl, consoleRequest_safe takePA_grows⟩
  | planInsert ps => exact ⟨_, rfl, consoleRequest_safe takePI_grows⟩
  | planChange ps => exact ⟨_, rfl, consoleRequest_safe takePC_grows⟩
  | planRetire ps => exact ⟨_, rfl, consoleRequest_safe takePR_grows⟩
  | holdCargo ps => exact ⟨_, rfl, consoleRequest_safe fun _ => takeHC_grows _ _⟩
  | conditionQuery ps => exact ⟨_, rfl, consoleRequest_safe fun _ => reply_grows _ _ _⟩
  | watchedQuantityQuery ps => exact ⟨_, rfl, consoleRequest_safe fun _ => reply_grows _ _ _⟩
  | report ps => exact ⟨_, rfl, consoleRequest_safe fun _ => takeRP_grows _ _⟩
  | reportAbort ps => exact ⟨_, rfl, consoleRequest_safe fun _ => takeRA_grows _⟩
  | attentionQuery ps => exact ⟨_, rfl, consoleRequest_safe fun _ => reply_grows _ _ _⟩
  | attentionAcknowledge ps => exact ⟨_, rfl, consoleRequest_safe fun _ => takeAK_grows _ _⟩
  | faultQuery ps => exact ⟨_, rfl, consoleRequest_safe fun _ => reply_grows _ _ _⟩
  | faultAcknowledge ps => exact ⟨_, rfl, consoleRequest_safe fun _ => takeFA_grows _⟩
  | settingsSet ps => exact ⟨_, rfl, consoleRequest_safe fun _ => takeSS_grows _ _⟩
  | settingsSave ps => exact ⟨_, rfl, consoleRequest_safe fun _ => takeSV_grows _⟩
  | particularsWrite ps => exact ⟨_, rfl, consoleRequest_safe fun _ => takePW_grows _ _⟩
  | particularsCommit ps => exact ⟨_, rfl, consoleRequest_safe fun _ => takePK_grows _⟩
  | commandResetRequest ps => exact ⟨_, rfl, consoleRequest_safe fun _ => takeRS_grows _⟩
  | resetCauseQuery ps => exact ⟨_, rfl, consoleRequest_safe fun _ => reply_grows _ _ _⟩
  | resetCauseClear ps => exact ⟨_, rfl, consoleRequest_safe fun _ => takeRC_grows _⟩
  | clearanceQuery ps => exact ⟨_, rfl, shoreRequest_safe takeCQ_grows⟩
  | chuteStart ps => exact ⟨_, rfl, shoreRequest_safe takeCS_grows⟩
  | chuteTally ps => exact ⟨_, rfl, shoreRequest_safe takeCT_grows⟩
  | chuteEnd ps => exact ⟨_, rfl, shoreRequest_safe takeCE_grows⟩
  | draftQuery ps => exact ⟨_, rfl, shoreRequest_safe fun _ => (Steady.refl _).grows.shoreReply _⟩
  | characterReceived l c stopValid => exact characterReceived_safe l c stopValid s
  | pauseReceived l => exact ⟨_, rfl, ite_running_safe ((Steady.refl s).holdLink l)⟩
  | resumeReceived l => exact ⟨_, rfl, ite_running_safe ((Steady.refl s).unholdLink l)⟩
  | parserTakesCharacter l => exact ⟨_, rfl, ((Steady.refl s).parseOne l).safe⟩
  | lineSent => exact ⟨_, rfl, (Steady.refl s).lineDone.safe⟩
  | shoreLineSent => exact ⟨_, rfl, (Steady.refl s).shoreLineDone.safe⟩
  | frameTimerExpiry => exact ⟨_, rfl, frameExpiry_safe s⟩
  | pointReport a v => exact ⟨_, rfl, report_safe s _ _⟩
  | endOfScanReport => exact ⟨_, rfl, endOfScan_safe s⟩
  | scanLimitExpiry => exact ⟨_, rfl, scanLimit_safe s⟩
  | evaluationCompletes => exact ⟨_, rfl, evaluationDone_safe s⟩
  | predictionCompletes => exact ⟨_, rfl, predictionDone_safe s⟩
  | tideExpiry => exact ⟨_, rfl, tideExpires_safe s⟩
  | grantTimerExpiry => exact ⟨_, rfl, grantExpires_safe s⟩
  | confirmationTimerExpiry => exact ⟨_, rfl, confirmationExpires_safe s⟩
  | attemptTimerExpiry => exact ⟨_, rfl, attemptExpires_safe s⟩
  | originStoreWriteComplete => exact ⟨_, rfl, completeOriginWrite_safe s⟩
  | particularsCommitTakesEffect => exact ⟨_, rfl, commitEffect_safe s⟩
  | settingsSaveComplete => exact ⟨_, rfl, completeSettingsSave_safe s⟩
  | powerReset => exact ⟨_, rfl, safe_of_cleared ⟨rfl, rfl⟩ rfl ⟨rfl, rfl⟩⟩
  | lineReset => exact ⟨_, rfl, lineDown_safe s⟩
  | commandReset => exact ⟨_, rfl, commandResets_safe s⟩
  | start => exact ⟨_, rfl, start_safe s⟩
  | lossOfPower => exact ⟨_, rfl, powerDown_safe s⟩
  | resetRelease => exact ⟨_, rfl, resetRelease_safe s⟩

theorem step_safe (h : step s = .next t) : Safe s t := by
  rcases step_cases h with rfl | ⟨c, rest, hc⟩
  · exact (((Steady.refl s).setNow _).setConsole _ |>.setShore _).safe
  · obtain ⟨u, hu, k⟩ := exec_safe c (s.setPending rest)
    rw [hc] at hu
    obtain rfl := Host.Outcome.next.inj hu
    exact ⟨k.placed, k.pour⟩

end

/-- Settles O58: no work of the blocks and no verb moves an id to a second place, and a reset leaves none. -/
theorem everyStepKeepsTransfersInOnePlace : Obligations.EveryStepKeepsTransfersInOnePlace := by
  unfold Obligations.EveryStepKeepsTransfersInOnePlace
  exact fun _ _ g rest h => (step_safe h).placed g rest.2

/-- Settles O59: only the head is opened, by a clearance that found nothing blocking, and BLOCK and a halt close it. -/
theorem everyStepKeepsThePourSafe : Obligations.EveryStepKeepsThePourSafe := by
  unfold Obligations.EveryStepKeepsThePourSafe
  exact fun _ _ g h => (step_safe h).pour g

end Sys2Proof.Machine

/-! # The confirmation of a halt stop at a commit (O34) -/

namespace Sys2Proof.Machine

/-- A mover that the halt stop has taken, or that takes no part in it (R90, R161). -/
def Phase.Halted (ph : Phase) : Prop := ph = .idle ∨ ph = .faulted ∨ ∃ o, ph = .stopping .halt o .valves

/-- A mover at a commit during the halt stop: IDLE once its points read OFF (R90). -/
def Mover.released (now : Nat) (x : Mover) : Mover :=
  match x.phase with
  | .stopping _ _ _ =>
    if x.quiet = some true then { x with phase := .idle, timer := now, flow := none, gaugeDue := false } else x
  | _ => x

section
variable {s u : State} {m : MoverId} {w : ScanWindow}

theorem faultCauseOf_halted {ph : Phase} (h : ph.Halted) (lost : Bool) (ds : List Disagreement) :
    faultCauseOf ph lost ds = none := by
  rcases h with rfl | rfl | ⟨o, rfl⟩ <;> rfl

theorem scan_empty (h : s.transfers.queue = []) : s.scan = s := by
  rw [State.scan, h]
  rfl

/-- While the halt stops the movers a commit takes no fault, and with an empty queue none starts again (R89, R90). -/
theorem moverCommit_halted (h : (s.mover m).phase.Halted) (hqueue : s.transfers.queue = []) (lost : Bool)
    (ds : List Disagreement) : s.moverCommit m lost ds = s.setMover m ((s.mover m).released s.now) := by
  have hself := setMover_self s m
  rw [State.moverCommit, faultCauseOf_halted h]
  change s.moverStep m = _
  unfold State.moverStep Mover.released
  rcases h with hp | hp | ⟨o, hp⟩
  · simp only [hp, hself]
  · simp only [hp, hself]
  · simp only [hp]
    change s.completeStop m .halt o = _
    unfold State.completeStop
    by_cases hquiet : (s.mover m).quiet = some true
    · have hempty : (s.enterPhase m .idle).transfers.queue = [] := by
        cases m <;> exact hqueue
      dsimp only
      rw [if_pos hquiet, if_pos hquiet]
      exact scan_empty hempty
    · dsimp only
      rw [if_neg hquiet, if_neg hquiet, hself]

theorem moverCommits_halted (lost : MoverId → Bool) (ds : MoverId → List Disagreement)
    (h : ∀ m, (s.mover m).phase.Halted) (hqueue : s.transfers.queue = []) :
    allMovers.foldl (fun x m => x.moverCommit m (lost m) (ds m)) s = s.setMovers
      ⟨s.movers.m1.released s.now, s.movers.m2.released s.now, s.movers.m3.released s.now⟩ := by
  simp only [allMovers, List.foldl_cons, List.foldl_nil]
  have h1 := moverCommit_halted (h .m1) hqueue (lost .m1) (ds .m1)
  have h2 := moverCommit_halted (s := s.setMover .m1 (s.movers.m1.released s.now)) (m := .m2) (h .m2) hqueue
    (lost .m2) (ds .m2)
  have h3 := moverCommit_halted (s := (s.setMover .m1 (s.movers.m1.released s.now)).setMover .m2
    (s.movers.m2.released s.now)) (m := .m3) (h .m3) hqueue (lost .m3) (ds .m3)
  rw [h1]
  exact (congrArg (fun x => x.moverCommit .m3 (lost .m3) (ds .m3)) h2).trans h3

/-- The causes that arise during the halt stop join the set (R160). -/
theorem class1s_haltStopping (l : List Nat) (h : s.faults.state = .haltStopping) : ∃ causes a,
    l.foldl (fun x a => x.class1 (.pumpAstray a)) s = (s.setFaults { s.faults with causes := causes }).setAttention a ∧
      (l = [] → causes = s.faults.causes) := by
  induction l generalizing s with
  | nil => exact ⟨s.faults.causes, s.attention, rfl, fun _ => rfl⟩
  | cons b l ih =>
    obtain ⟨causes, a, hclass⟩ : ∃ causes a,
        s.class1 (.pumpAstray b) = (s.setFaults { s.faults with causes := causes }).setAttention a := by
      rw [class1_eq, if_neg (by simp [h]), addCause_eq]
      split
      · exact ⟨_, _, rfl⟩
      · exact ⟨_, s.attention, setAttention_self (s.setFaults _)⟩
    obtain ⟨causes', a', hrest, -⟩ := ih (s := (s.setFaults { s.faults with causes := causes }).setAttention a) h
    refine ⟨causes', a', ?_, nofun⟩
    rw [List.foldl_cons, hclass, hrest]
    rfl

theorem mover_clearGaugeDue (s : State) (m : MoverId) :
    s.clearGaugeDue.mover m = { s.mover m with gaugeDue := false } := by cases m <;> rfl

/-- The movers and the points astray at a commit during the halt stop (R89, R90, R160). -/
theorem faulted_haltStopping (u : State) (hstate : s.faults.state = .haltStopping) (hqueue : s.transfers.queue = [])
    (hmovers : ∀ m, (s.mover m).phase.Halted) : ∃ causes,
    (u.faulted s).faults = { s.faults with causes := causes } ∧ (u.allGraded.astrayPumps = [] → causes = s.faults.causes) ∧
      (u.faulted s).loop = s.loop ∧
      ∀ m, (u.faulted s).mover m = ({ s.mover m with gaugeDue := false } : Mover).released s.now := by
  have hmoved : u.moved s = s.setMovers ⟨({ s.movers.m1 with gaugeDue := false } : Mover).released s.now,
      ({ s.movers.m2 with gaugeDue := false } : Mover).released s.now,
      ({ s.movers.m3 with gaugeDue := false } : Mover).released s.now⟩ :=
    moverCommits_halted (s := s.clearGaugeDue) (fun m => State.gaugeLostHanded u.allGraded s m)
      (fun m => s.handedTo m (u.handed.map u.handedPoint)) (fun m => by rw [mover_clearGaugeDue]; exact hmovers m) hqueue
  obtain ⟨causes, a, hclass, hnil⟩ := class1s_haltStopping (s := u.moved s) u.allGraded.astrayPumps
    (by rw [hmoved]; exact hstate)
  have hfaulted : u.faulted s = _ := hclass
  rw [hmoved] at hfaulted hnil
  rw [hfaulted]
  refine ⟨causes, rfl, hnil, rfl, fun m => ?_⟩
  cases m <;> rfl

/-! ## The commit during the halt stop -/

theorem allGraded_frame (s : State) : ∃ l, s.allGraded = s.setLoop l ∧ l.scan = s.loop.scan ∧ l.allOff = s.loop.allOff :=
  ⟨_, rfl, rfl, rfl⟩

/-- What the tanks' part of the commit leaves for the movers. -/
theorem tanksPart_facts (hw : w.restart = false) :
    let x := (s.readScan w).noticed.tanksCommit
    x.faults = s.faults ∧ x.transfers = s.transfers ∧ x.loop.allOff = some (s.takeScan w).allOffReading ∧
      ∀ m, x.mover m = { s.mover m with quiet := some ((s.takeScan w).quietReading m) } := by
  obtain ⟨a, x, q, hframe⟩ := tanksPart_frame (s.readScan w)
  obtain ⟨l, hl, -, hoff⟩ := allGraded_frame (s.readScan w)
  have hread : (s.readScan w).loop.allOff = some (s.takeScan w).allOffReading := by
    rw [readScan_eq s w hw]
    rfl
  have hmover := mover_readScan s w
  have hfaults := faults_readScan s w
  have htransfers := transfers_readScan s w
  rw [hl] at hframe
  dsimp only
  rw [hframe]
  generalize s.readScan w = u at *
  exact ⟨hfaults, htransfers, hoff.trans hread, hmover⟩

/-- No pump is astray when every RUN and VALVE point reads OFF. -/
theorem astrayPumps_off (h : ∀ q ∈ drivePoints s.parts, (s.scanned q.1).value = some 0) : s.astrayPumps = [] := by
  rw [State.astrayPumps, List.map_eq_nil_iff, List.filter_eq_nil_iff]
  intro q hq
  simp [State.readsRunning, h q hq]

theorem phase_released (now : Nat) (x : Mover) (h : x.phase.Halted) (hquiet : x.quiet = some true) :
    (x.released now).phase = if x.phase = .faulted then .faulted else .idle := by
  unfold Mover.released
  rcases h with hp | hp | ⟨o, hp⟩ <;> simp [hp, hquiet]

theorem poured_pourCommit (s : State) : Poured s s.pourCommit :=
  ((Poured.refl s).setPour _).foldl _ fun _ id g => g.judgeReady id

/-- The end of a regular scan commits it (R30). -/
theorem exec_endOfScan_regular (hw : s.loop.window = some w) (hr : w.restart = false) :
    exec .endOfScanReport s = .next (s.commitScan w) := by
  have h : s.endOfScan = s.commitScan w := by
    unfold State.endOfScan State.commitWindow
    rw [hw]
    simp only [hr, Bool.false_eq_true, if_false]
  exact congrArg Host.Outcome.next h

/-- No pump is astray at a commit whose RUN and VALVE points read OFF. -/
theorem astrayPumps_commit_off (h : ∀ q ∈ drivePoints s.parts, ((s.takeScan w).scanned q.1).value = some 0) :
    (s.readScan w).allGraded.astrayPumps = [] := by
  refine astrayPumps_off fun q hq => ?_
  obtain ⟨l, hl, hscan, -⟩ := allGraded_frame (s.readScan w)
  have hparts : (s.readScan w).allGraded.parts = s.parts := by
    rw [hl, parts_setLoop, parts_readScan]
  rw [hparts] at hq
  have e := h q hq
  rw [State.scanned] at e ⊢
  rw [hl, loop_setLoop, hscan, scan_readScan]
  exact e

/-- A commit during the halt stop confirms it when the points read OFF, and its movers are IDLE then (R90, R162). -/
theorem commitScan_haltStopping (hw : w.restart = false) (hstate : s.faults.state = .haltStopping)
    (hqueue : s.transfers.queue = []) (hmovers : ∀ m, (s.mover m).phase.Halted) : ∃ causes,
    (s.commitScan w).faults =
      (if (s.takeScan w).allOffReading = true then { s.faults with state := .halt, causes := causes, confirmation := none }
      else { s.faults with causes := causes }) ∧
    ((s.readScan w).allGraded.astrayPumps = [] → causes = s.faults.causes) ∧
    ∀ m, (s.takeScan w).quietReading m = true →
      ((s.commitScan w).mover m).phase = if (s.mover m).phase = .faulted then .faulted else .idle := by
  obtain ⟨hfaults, htransfers, hoff, hmover⟩ := tanksPart_facts (s := s) hw
  have hcommit := commitScan_eq s w
  dsimp only at hcommit
  rw [confirm_eq] at hcommit
  generalize (s.readScan w).noticed.tanksCommit = x at hfaults htransfers hoff hmover hcommit
  obtain ⟨causes, hcause, hnil, hloop, hmoved⟩ := faulted_haltStopping (s := x) (s.readScan w) (by rw [hfaults]; exact hstate)
    (by rw [htransfers]; exact hqueue) fun m => by rw [hmover]; exact hmovers m
  rw [hfaults] at hcause hnil
  generalize (s.readScan w).faulted x = y at hcause hloop hmoved hcommit
  have hcheck : (s.faults.state = .haltStopping ∧ y.faults.state = .haltStopping ∧ y.loop.allOff = some true) ↔
      (s.takeScan w).allOffReading = true := by
    rw [hcause, hloop, hoff, hstate]
    simp
  have hsame : (s.commitScan w).movers = y.movers := by
    rw [hcommit, (poured_pourCommit _).movers]
    split <;> rfl
  refine ⟨causes, ?_, hnil, fun m hm => ?_⟩
  · rw [hcommit, (poured_pourCommit _).faults]
    by_cases h : (s.takeScan w).allOffReading = true
    · rw [if_pos (hcheck.2 h), if_pos h, faults_setFaults, hcause]
    · rw [if_neg (hcheck.not.2 h), if_neg h, hcause]
  · have hphase : ((s.commitScan w).mover m).phase = (y.mover m).phase := by simp only [State.mover, hsame]
    rw [hphase, hmoved, hmover]
    exact phase_released _ _ (hmovers m) (congrArg some hm)

end

/-- Settles O34: the causes, the halt stop in closed form, and the commit that confirms it. -/
theorem theHaltStopBegins : Obligations.TheHaltStopBegins := by
  unfold Obligations.TheHaltStopBegins
  refine ⟨fun s m c => ?_, fun s c => ?_, fun s hids => ?_, fun s w hw hr hstate hqueue hmovers => ?_, fun s w hw hr hstate => ?_⟩
  · dsimp only
    rw [class2_eq]
    rfl
  · dsimp only
    rw [class1_eq, addCause_eq]
  · have e := haltStop_eq hids
    obtain ⟨hdrive, htank⟩ := haltReleased_facts s
    generalize (numbers 24).foldl State.haltRelease s.haltOff = r at e hdrive htank
    dsimp only
    generalize s.haltStop = t at e ⊢
    subst e
    refine ⟨rfl, hdrive, htank, fun m => ?_, ?_, rfl, ?_⟩
    · cases m <;> exact halting_emptied s.now _
    · exact congrArg (fun l : List PourStep => ({ s.pour with
          steps := l
          clearance := none
          grantTimer := if ∃ x ∈ s.pour.steps, x.state = .granted then none else s.pour.grantTimer } : PourPlan))
        (List.map_congr_left fun x _ => halted_eq s.transfers.records x)
    · cases hc : s.pour.clearance <;> simp only [State.haltPort, hc] <;> rfl
  · obtain ⟨causes, hfaults, hcauses, hphase⟩ := commitScan_haltStopping hr hstate hqueue hmovers
    refine ⟨_, exec_endOfScan_regular hw hr, fun ⟨q, hq, hon⟩ => ?_, fun hoff hquiet => ⟨?_, fun m => hphase m ?_⟩⟩
    · have hreading : (s.takeScan w).allOffReading ≠ true := by
        rw [allOffReading_eq, takeScan_parts]
        exact fun h => hon (of_decide_eq_true h q hq)
      rw [hfaults, if_neg hreading]
      exact ⟨hstate, rfl⟩
    · have hreading : (s.takeScan w).allOffReading = true := by
        rw [allOffReading_eq, takeScan_parts, decide_eq_true_iff]
        exact hoff
      rw [hfaults, if_pos hreading, hcauses (astrayPumps_commit_off hoff)]
    · rw [quietReading_eq, takeScan_parts, decide_eq_true_iff]
      exact hquiet m
  · exact ⟨_, exec_endOfScan_regular hw hr, (sound_commitScan s w (by simp [hstate])).fault (.inl hstate)⟩

end Sys2Proof.Machine
